-- ==== Sys2Proof/Word.lean ====
section
/-! DEFINITION. The bit-vector types of the fields that the manual treats as bits or bounds by a width. -/

namespace Sys2Proof

/-- One byte of a frame, a record or DRAM. -/
abbrev Byte := BitVec 8

/-- A domain number, 0 to 1023: ten binary positions (R18, R40). -/
abbrev DomainId := BitVec 10

/-- A share index, 0 to 255 (R39). -/
abbrev ShareIx := BitVec 8

/-- A ticket, 1 to 65,535 (R94). The value 0 names no command. -/
abbrev Ticket := BitVec 16

/-- A request tag, 0 to 63 (R145). -/
abbrev ReqTag := BitVec 6

/-- The 34-bit line number of a request; its byte address is 64 times it (R3, R196). -/
abbrev LineNo := BitVec 34

/-- A set of event flags, one position for each of the twelve flags (R163). -/
abbrev FlagSet := BitVec 12

end Sys2Proof
end

