-- ==== Sys2Proof/Machine/Bytes.lean ====
section
/-! DEFINITION. Byte order and the CRC-16 of R9, which every check of the part uses. -/

namespace Sys2Proof.Machine

/-- A number as `w` bytes, most significant byte first (Conventions, Byte layouts). -/
def beBytes : Nat → Nat → List Byte
  | 0, _ => []
  | w + 1, n => BitVec.ofNat 8 (n / 256 ^ w) :: beBytes w n

/-- The number that bytes spell, most significant byte first. -/
def beNat (bs : List Byte) : Nat := bs.foldl (fun acc b => acc * 256 + b.toNat) 0

/-- One bit of the CRC-16 with polynomial x^16 + x^15 + x^2 + 1 (R9). -/
def crcBit (c : BitVec 16) : BitVec 16 :=
  if c.msb then (c <<< 1) ^^^ 0x8005#16 else c <<< 1

/-- One byte of the CRC-16, taken most significant bit first (R9). -/
def crcByte (c : BitVec 16) (b : Byte) : BitVec 16 :=
  crcBit (crcBit (crcBit (crcBit (crcBit (crcBit (crcBit (crcBit (c ^^^ (b.setWidth 16 <<< 8)))))))))

/-- The CRC-16 of a string of bytes: initial value 0xFFFF, no final inversion (R9). -/
def crc16 (bs : List Byte) : BitVec 16 := bs.foldl crcByte 0xFFFF#16

/-- The check of a string of bytes as stored and sent, high byte first (R9). -/
def crcBytes (bs : List Byte) : List Byte := beBytes 2 (crc16 bs).toNat

/-- Bytes `at` to `at + w − 1` of a string, as a number. -/
def field (bs : List Byte) (start w : Nat) : Nat := beNat ((bs.drop start).take w)

/-- A flag as the byte 0 or 1 (the code tables). -/
def boolByte (b : Bool) : Byte := if b then 1 else 0

/-- A count that saturates at `m` raised by 1. -/
def satInc (m n : Nat) : Nat := min (n + 1) m

end Sys2Proof.Machine
end

