-- ==== Sys2Proof/Config.lean ====
section
/-! DEFINITION. The fixed figures of the part, and the values the manual leaves open (opaque, with no body). -/

namespace Sys2Proof.Config

/-- Frames the inbound queue holds (R173). -/
def inboundCapacity : Nat := 4
/-- Places of the reply list (R177). -/
def replyCapacity : Nat := 8
/-- Slots of the command table (R93). -/
def tableCapacity : Nat := 16
/-- Runs of the scrub list (R125). -/
def runCapacity : Nat := 64
/-- Largest count of a run and of the range of one command (R96, R107). -/
def maxRange : Nat := 1048576
/-- Fills of the miss list (R78). -/
def fillCapacity : Nat := 16
/-- Entries of the write list (R78). -/
def writeCapacity : Nat := 32
/-- Sets of the tag cache (R77). -/
def cacheSets : Nat := 128
/-- Unread records of the violation log (R159). -/
def logCapacity : Nat := 32
/-- Unentered refusal places of a port (R147). -/
def refusalCapacity : Nat := 8
/-- Domain records (R18). -/
def domainCount : Nat := 1024
/-- Lines of the persisted domain records, two records each (R4). -/
def domainLines : Nat := 512
/-- Lines of the persisted share records, four records each (R4). -/
def shareLines : Nat := 64
/-- Share entries (R39). -/
def shareCount : Nat := 256
/-- Maximum of the saturating 16-bit counts (R159, R171). -/
def max16 : Nat := 65535
/-- Maximum of a port's integrity count (R144). -/
def maxIntegrity : Nat := 255
/-- Largest granule a request address can name (R152). -/
def maxGranule : Nat := 268435455
/-- Score that a counted refusal adds (R31). -/
def scoreStep : Nat := 8
/-- The score at which a domain is QUARANTINED (R31, R32). -/
def scoreMax : Nat := 256

/-- The length in milliseconds of a link timeout code (R141). -/
def linkTimeoutMs : Nat → Nat
  | 0 => 1
  | 1 => 4
  | 2 => 16
  | _ => 64

/-- The interval in milliseconds of a decay code (R35). -/
def decayIntervalMs (v : Nat) : Nat := (v + 1) * 4

/-- The interval in nanoseconds of a scrub interval setting (R132). -/
def scrubIntervalNs (s : Nat) : Nat := (s + 1) * 320

/-- FREE VALUE (log entry 6): a byte of DRAM whose last write completed UNCORRECTABLE. The manual says that such
a write is not stored as sent (R70) and does not say what is stored. -/
opaque damagedByte : Nat → Byte

/-- FREE VALUE (log entry 7): which of the four DRAM channels serves a byte address. The manual does not say. -/
opaque channelOf : Nat → Fin 4

end Sys2Proof.Config
end

