-- ==== Sys2Proof/Machine/Table.lean ====
section
/-! DEFINITION. Sparse tables: sorted lists of key and value pairs, in which an unlisted key holds a default.

The domain table, the share table, the cache sets, the working counts and DRAM are kept in this form, so that
equal tables are equal data. -/

namespace Sys2Proof.Machine

/-- A table as the rising list of the keys that do not hold the default. -/
abbrev SMap (α : Type) := List (Nat × α)

/-- The value of a key; `d` where the key is not listed. -/
def smapGet {α : Type} (d : α) : SMap α → Nat → α
  | [], _ => d
  | (k, v) :: t, a => if k = a then v else smapGet d t a

/-- A key and value put in its place in a rising list. -/
def smapInsert {α : Type} (k : Nat) (v : α) : SMap α → SMap α
  | [] => [(k, v)]
  | (k', v') :: t => if k < k' then (k, v) :: (k', v') :: t else (k', v') :: smapInsert k v t

/-- Gives a key a value. A key given the default leaves the list. -/
def smapSet {α : Type} [DecidableEq α] (d : α) (m : SMap α) (k : Nat) (v : α) : SMap α :=
  let rest := m.filter (fun p => p.1 != k)
  if v = d then rest else smapInsert k v rest

/-- Whether a list is in the canonical form: keys strictly rising from `lo` on, no default listed. -/
def smapWfFrom {α : Type} [DecidableEq α] (d : α) : Nat → SMap α → Bool
  | _, [] => true
  | lo, (k, v) :: t => decide (lo ≤ k) && decide (v ≠ d) && smapWfFrom d (k + 1) t

/-- The canonical form of a table. -/
def smapWf {α : Type} [DecidableEq α] (d : α) (m : SMap α) : Bool := smapWfFrom d 0 m

/-- Changes the values of all keys below `n`. -/
def smapUpdateBelow {α : Type} [DecidableEq α] (d : α) (n : Nat) (f : Nat → α → α) (m : SMap α) : SMap α :=
  (List.range n).foldl (fun acc k => smapSet d acc k (f k (smapGet d acc k))) m

end Sys2Proof.Machine
end

