-- ==== Sys2Proof/Syntax.lean ====
section
/-! DEFINITION. The commands of the 4420: one constructor for each row of spec/opcode_table.json.

A row is one of the part's steps: bytes arriving on a link, the dispatcher executing the oldest frame of
the inbound queue, a frame leaving a link, a memory operation completing, a timer expiring, the engine or
the recovery walk taking its next unit of work, or a reset. The rows that are messages (ASSIGN to RESET, and
BAD_KIND) carry no operand here, because the message's operands are in the frame that waits at the front of
the inbound queue (R173 to R175). -/

namespace Sys2Proof

/-- The two request ports (R137). -/
inductive Port where
  | a
  | b
deriving DecidableEq, Repr

/-- How the memory interface completes a memory operation (R64). -/
inductive MemOutcome where
  | ok
  | uncorrectable
deriving DecidableEq, Repr

/-- How the memory interface completes a read of the tag store: OK with the bytes stored there, OK with bytes
that have decayed since they were stored (the damage that the checks of R9, R38 and R51 exist to find), or
UNCORRECTABLE. -/
inductive ReadOutcome where
  | ok
  | decayed (bytes : List Byte)
  | uncorrectable
deriving DecidableEq, Repr

/-- One constructor for each row of the table, in the table's order. -/
inductive Instr where
  /-- CONTROL_FRAME (R170, R171): bytes arrive on CL_RXD, up to the end of a frame. -/
  | controlFrame (bytes : List Byte)
  /-- GAP_TIMEOUT (R172). -/
  | gapTimeout
  /-- BAD_KIND (R174). -/
  | badKind
  | assign
  | reclaim
  | shareRange
  | unshareRange
  | retire
  | recount
  | revive
  | format
  | cancel
  | ticketStatus
  | domainOpen
  | domainQuota
  | domainClose
  | domainClearScore
  | domainStatus
  | shareCreate
  | shareDelete
  | shareStatus
  | tagRead
  | survey
  | logRead
  | logControl
  | eventEnable
  | eventClear
  | portSet
  | portStatus
  | portClear
  | modeRequest
  | settings
  | partStatus
  | reset
  /-- REPLY_SENT (R177). -/
  | replySent
  /-- NOTICE_SENT (R179). -/
  | noticeSent
  /-- REQUEST_READ (R145): a valid REQUEST-READ frame, its fields as the frame carries them (R196). -/
  | requestRead (port : Port) (tag : Byte) (domain : BitVec 16) (line : BitVec 40)
  /-- REQUEST_WRITE (R145): a valid REQUEST-WRITE frame, its fields as the frame carries them (R196). -/
  | requestWrite (port : Port) (tag : Byte) (domain : BitVec 16) (line : BitVec 40) (data : List Byte)
  /-- ANNOUNCE (R139, R140): a valid ANNOUNCE frame, its two bytes as the frame carries them. -/
  | announce (port : Port) (tagLimit : Byte) (poison : Byte)
  /-- IDLE (R141). -/
  | idle (port : Port)
  /-- BAD_LINK_FRAME (R144): the bytes of a frame that is none of the four valid peer frames. -/
  | badLinkFrame (port : Port) (bytes : List Byte)
  /-- LINK_TIMEOUT (R142). -/
  | linkTimeout (port : Port)
  /-- LINK_FRAME_SENT (R147): the last byte of the frame the port is sending leaves it. -/
  | linkFrameSent (port : Port)
  /-- MEMORY_OP_COMPLETE (R69, R70): the operation of the FORWARDED entry with this tag completes. -/
  | memoryOpComplete (port : Port) (tag : ReqTag) (outcome : MemOutcome)
  /-- FILL_COMPLETE (R82): the read of the fill of this tag line completes. -/
  | fillComplete (line : Nat) (read : ReadOutcome)
  /-- WRITE_THROUGH_COMPLETE (R87): the oldest write of the write list to this tag line completes. -/
  | writeThroughComplete (line : Nat) (outcome : MemOutcome)
  | commandStart
  | assignVerify
  | assignApply
  | reclaimVerify
  | reclaimMark
  | drainTimeout
  | handoff
  | retireMark
  | retireHandoff
  | shareRangeVerify
  | shareRangeApply
  | unshareRangeVerify
  | unshareRangeApply
  | reviveVerify
  | recountSweep
  | formatVerify
  | formatMark
  | formatHandoff
  /-- PERSIST_WRITE_COMPLETE (R22, R44, R116): the oldest write issued to this byte address completes. -/
  | persistWriteComplete (address : Nat) (outcome : MemOutcome)
  /-- PACING_TIMER_EXPIRY (R132). -/
  | pacingTimerExpiry
  /-- SCRUB_WRITE_COMPLETE (R128): the zero write to this line of the write granule completes. -/
  | scrubWriteComplete (line : Nat) (outcome : MemOutcome)
  | decayTick
  | timestampTick
  | selfRefreshExit
  | powerOn
  | powerOnEnd
  | resetLine
  | resetLineEnd
  /-- HEADER_READ_COMPLETE (R191): the store header read under way completes. -/
  | headerReadComplete (read : ReadOutcome)
  /-- DOMAIN_RECORD_READ (R38, R191): the read under way of a line of two persisted domain records completes. -/
  | domainRecordRead (read : ReadOutcome)
  /-- SHARE_RECORD_READ (R51, R191): the read under way of a line of four persisted share records completes. -/
  | shareRecordRead (read : ReadOutcome)
  | walkStep
deriving DecidableEq, Repr

end Sys2Proof
end

