-- ==== Sys2Proof/Machine/State.lean ====
section
/-! DEFINITION. The state of the 4420, block by block, as plain data, and its values after a power-on reset. -/

namespace Sys2Proof.Machine

/-! ## Names that the manual fixes -/

/-- READ or WRITE, of a request and of SURVEY's access (R53, R74). -/
inductive Opcode where
  | read
  | write
deriving DecidableEq, Repr

/-- Rights on a granule (R8, R39). -/
inductive Rights where
  | ro
  | rw
deriving DecidableEq, Repr

/-- The operating mode (R181). -/
inductive Mode where
  | recovering
  | config
  | enforce
  | monitor
  | suspended
deriving DecidableEq, Repr

/-- The store state (R186). -/
inductive StoreState where
  | unformatted
  | formatting
  | formatted
deriving DecidableEq, Repr

/-- A pool size code 0 to 4 (R1); `none` of an `Option PoolCode` is the code NONE. -/
abbrev PoolCode := Fin 5

/-- The kinds of reset and the cause each reports (R189). -/
inductive ResetCause where
  | powerOn
  | resetLine
  | soft
deriving DecidableEq, Repr

/-- The causes of a poisoning (R8). -/
inductive Cause where
  | scrubFail
  | drainTimeout
  | tagLost
deriving DecidableEq, Repr

/-- The six states of a tag (R8). -/
inductive TagKind where
  | free
  | owned
  | shared
  | draining
  | scrubbing
  | poisoned
deriving DecidableEq, Repr

/-- What a tag holds in each state: exactly the fields that R8 makes present there. -/
inductive Tag where
  | free
  | owned (owner : DomainId) (rights : Rights)
  | shared (owner : DomainId) (rights : Rights) (share : ShareIx)
  | draining (owner : DomainId) (ticket : Ticket)
  | scrubbing (owner : Option DomainId) (ticket : Option Ticket)
  | poisoned (owner : Option DomainId) (cause : Cause)
deriving DecidableEq, Repr

/-- A tag record less its check, which is computed when the record is stored (R8, R9). -/
structure TagRec where
  tag : Tag
  generation : BitVec 8
deriving DecidableEq, Repr

/-- The four tag records of a tag line (R7). -/
structure TagLine where
  r0 : TagRec
  r1 : TagRec
  r2 : TagRec
  r3 : TagRec
deriving DecidableEq, Repr

/-- The state of a domain (R18). -/
inductive DomainState where
  | closed
  | opened
  | retiring
deriving DecidableEq, Repr

/-- The standing of a domain (R32). -/
inductive Standing where
  | good
  | warned
  | restricted
  | quarantined
deriving DecidableEq, Repr

/-- A domain record (R18). Its id is its place in the table, and its standing is computed from the score (R32). -/
structure DomainRec where
  state : DomainState
  quota : Nat
  held : Nat
  score : Nat
  latch : Bool
deriving DecidableEq, Repr

/-- The values R18 gives a CLOSED record. -/
def closedDomain : DomainRec := { state := .closed, quota := 0, held := 0, score := 0, latch := false }

/-- A share entry (R39). Its index is its place in the table. -/
structure ShareEntry where
  inUse : Bool
  owner : DomainId
  pattern : DomainId
  mask : DomainId
  rights : Rights
  refcount : Nat
deriving DecidableEq, Repr

/-- The values R39 gives a FREE entry. -/
def freeEntry : ShareEntry :=
  { inUse := false, owner := 0, pattern := 0, mask := 0, rights := .ro, refcount := 0 }

/-- The reasons a response carries (R54). -/
inductive Reason where
  | none
  | overlimit
  | tagBusy
  | notReady
  | suspended
  | unbacked
  | unknownDomain
  | retiring
  | quarantined
  | outsideAperture
  | privateRegion
  | poisoned
  | reclaiming
  | freeGranule
  | notOwner
  | writeDenied
  | restricted
  | dataError
deriving DecidableEq, Repr

/-- The outcomes a response carries (R68, R69). -/
inductive RespOutcome where
  | data
  | done
  | poison
  | abort
deriving DecidableEq, Repr

/-- The statuses of replies (R175). -/
inductive Status where
  | ok
  | accepted
  | overrun
  | badLength
  | badKind
  | badValue
  | badRange
  | badPort
  | wrongMode
  | notFormatted
  | busy
  | unknownDomain
  | domainExists
  | tableFull
  | inUse
  | holdsGranules
  | quotaBelowHeld
  | noTicket
  | tooLate
deriving DecidableEq, Repr

/-- The completion statuses (R121). -/
inductive Completion where
  | done
  | doneWithPoison
  | notFree
  | overQuota
  | unknownDomain
  | wrongOwner
  | sharedInUse
  | alreadyShared
  | wrongShare
  | notPoisoned
  | drainTimeout
  | cancelled
  | staleAgain
deriving DecidableEq, Repr

/-- The twelve event flags, in the order of their positions (R163, Request bodies). -/
inductive EventFlag where
  | logNonempty
  | logOverflow
  | domainWarned
  | domainRestricted
  | domainQuarantined
  | portALink
  | portBLink
  | portIntegrity
  | tagLost
  | modeChanged
  | watchHit
  | dataPoison
deriving DecidableEq, Repr

/-! ## DRAM and the memory interface (MI) -/

/-- A write of a line of persisted records or of a store header that MI has been given and has not completed (R4, R22,
R44, R116); `held` while its channel is in self-refresh (R185). -/
structure PersistWrite where
  address : Nat
  bytes : List Byte
  held : Bool
deriving DecidableEq, Repr

/-- The DRAM behind the part, and MI's writes to the persisted records.
`badUnits` (the model's own) lists the 16-byte units of the pool whose last write completed UNCORRECTABLE, and
`damageCount` (the model's own) numbers the free values of damaged bytes. -/
structure Dram where
  mem : List Host.Cell
  badUnits : List Nat
  damageCount : Nat
  persist : List PersistWrite
  selfRefresh : List (Fin 4)
deriving DecidableEq, Repr

/-! ## Tag cache (TC) -/

/-- The parties that use the tag cache (R78): a request in CHECKING, the message being executed, the engine, the
scrubber and the recovery walk. -/
inductive Party where
  | request (port : Port) (tag : ReqTag)
  | message
  | engine
  | scrubber
  | walk
deriving DecidableEq, Repr

/-- The state of a way (R77). -/
inductive WayState where
  | empty
  | valid (line : Nat) (recs : TagLine)
  | pending (line : Nat)
deriving DecidableEq, Repr

/-- A set of eight ways as its recency order, least recent first: way number and way state (R77). -/
abbrev CacheSet := List (Nat × WayState)

/-- A set after any reset: every way EMPTY, in way-number order from the least recent (R77). -/
def emptySet : CacheSet :=
  [(0, .empty), (1, .empty), (2, .empty), (3, .empty), (4, .empty), (5, .empty), (6, .empty), (7, .empty)]

/-- The stage of a fill (R81). -/
inductive FillStage where
  | waitingWrite
  | reading
deriving DecidableEq, Repr

/-- A fill of the miss list (R78). `origin` is the port when a request allocated it (R83); `install` holds the
records FORMAT has installed over it (R88). -/
structure Fill where
  line : Nat
  way : Nat
  stage : FillStage
  parties : List Party
  origin : Option Port
  install : Option TagLine
deriving DecidableEq, Repr

/-- An entry of the write list (R78, R87): the tag line and its four records, written whole (R7). -/
structure TagWrite where
  line : Nat
  recs : TagLine
deriving DecidableEq, Repr

/-- What waits for room in the write list (R87): a party's change, a fill's completion with the records it will
install and the places of its lost tags, and FORMAT's install. -/
inductive Held where
  | change (party : Party) (line : Nat)
  | fill (line : Nat) (recs : TagLine) (lost : List Nat)
  | install (line : Nat)
deriving DecidableEq, Repr

/-- The tag cache (R77, R78). -/
structure TagCache where
  sets : SMap CacheSet
  fills : List Fill
  stalled : List (Party × Nat)
  writes : List TagWrite
  held : List Held
deriving DecidableEq, Repr

/-! ## Transition engine (TE) -/

/-- The ticketed commands with their parameters (R93). RETIRE carries whether its acceptance moved the domain from
OPEN (R110), FORMAT the store state it replaced (R97). -/
inductive Command where
  | assign (first count : Nat) (domain : DomainId) (rights : Rights) (wait : Bool)
  | reclaim (first count : Nat) (owner : DomainId) (force : Bool)
  | shareRange (first count : Nat) (share : ShareIx)
  | unshareRange (first count : Nat) (share : ShareIx)
  | retire (domain : DomainId) (movedOpen : Bool)
  | recount
  | revive (first count : Nat)
  | format (kept : StoreState)
deriving DecidableEq, Repr

/-- The phase of a command (R93). -/
inductive Phase where
  | queued
  | verify
  | mark
  | drain
  | handoff
  | scrub
  | notify
deriving DecidableEq, Repr

/-- A command record of a live slot (R93). -/
structure Cmd where
  ticket : Ticket
  command : Command
  phase : Phase
  doneCount : Nat
  poisonedCount : Nat
  runs : Nat
  status : Option Completion
deriving DecidableEq, Repr

/-- What the engine holds with its current command: the granule it has reached, whether its lookup or change waits
in TC, the granule an ASSIGN waits on under WAIT (R101), whether the first part of VERIFY has been made, the owner a
SHARE_RANGE read (R112), RECOUNT's working counts and loss mark (R114), the granules that the MARK of a RECLAIM has
credited as POISONED (R100), the drain snapshot and timer (R105, R106), whether the drain has timed out, and the state
of the run being built (R107). -/
structure Work where
  ticket : Ticket
  cursor : Nat
  busy : Bool
  scrubWait : Option Nat
  begun : Bool
  shareOwner : DomainId
  heldCounts : SMap Nat
  refCounts : SMap Nat
  lossReported : Bool
  credited : List Nat
  snapshot : List (Port × ReqTag)
  timer : Option Nat
  timedOut : Bool
  runOpened : Bool
  runOpen : Bool
  placeWait : Bool
deriving DecidableEq, Repr

/-- The transition engine (R93, R94). The table keeps its live records in acceptance order. -/
structure Engine where
  table : List Cmd
  current : Option Work
  counter : Ticket
deriving DecidableEq, Repr

/-! ## Scrubber (SU) -/

/-- A run of the scrub list (R125). -/
structure Run where
  first : Nat
  count : Nat
  ticket : Option Ticket
  isOpen : Bool
deriving DecidableEq, Repr

/-- The write granule (R128): bursts issued, writes completed, the lines whose writes are in flight, the failure
mark. -/
structure WriteGranule where
  granule : Nat
  bursts : Nat
  completed : Nat
  inFlight : List Nat
  failed : Bool
deriving DecidableEq, Repr

/-- The granule whose change is waiting (R129), and whether the change has been issued to TC. -/
structure WaitingChange where
  granule : Nat
  failed : Bool
  issued : Bool
deriving DecidableEq, Repr

/-- The scrubber (R125 to R132). `pacing` is the interval setting the pacing timer runs for, `none` when it is
stopped or has expired. -/
structure Scrubber where
  runs : List Run
  write : Option WriteGranule
  waiting : Option WaitingChange
  pacing : Option Byte
deriving DecidableEq, Repr

/-! ## Violation log (VL) and event unit (EU) -/

/-- The tag state seen of a log record (R66). -/
inductive TagSeen where
  | state (kind : TagKind)
  | privateRegion
  | unread
deriving DecidableEq, Repr

/-- The five kinds of log record with the fields R157 gives each, less timestamp and superseded count. -/
inductive LogEvent where
  | deny (port : Port) (domain : DomainId) (granule line : Nat) (op : Opcode) (reason : Reason) (served : Bool)
      (seen : TagSeen)
  | watch (port : Port) (domain : DomainId) (granule line : Nat) (op : Opcode) (seen : TagSeen)
  | standing (domain : DomainId) (standing : Standing)
  | tagLost (port : Option Port) (granule : Nat)
  | dataPoison (port : Port) (domain : DomainId) (granule line : Nat) (op : Opcode)
deriving DecidableEq, Repr

/-- A log record (R157). A superseded count of 0 is an absent field (R159). -/
structure LogRec where
  event : LogEvent
  timestamp : BitVec 32
  superseded : Nat
deriving DecidableEq, Repr

/-- The violation log (R159): the unread records, oldest first, and its latches. -/
structure Log where
  records : List LogRec
  overflow : Bool
  frozen : Bool
  hold : Bool
  missed : Nat
deriving DecidableEq, Repr

/-- The event unit (R163, R164). ALERT_N is computed from it (R167). -/
structure Events where
  flags : FlagSet
  enabled : FlagSet
deriving DecidableEq, Repr

/-! ## Control port (CP) -/

/-- The state of the receiver (R170). -/
inductive Receiver where
  | hunt
  | length
  | body (len : Nat) (got : List Byte)
  | check (body : List Byte) (high : Option Byte)
deriving DecidableEq, Repr

/-- A formed reply (Reply bodies): kind, SEQ, status and results. -/
structure Reply where
  kind : Byte
  seq : Byte
  status : Status
  results : List Byte
deriving DecidableEq, Repr

/-- The notices (R178). The flag set of an EVENT notice is absent while the notice waits, since a waiting notice
carries the flag set as it currently stands (R166). -/
inductive Notice where
  | completion (ticket : Ticket) (command : Command) (status : Completion) (doneCount poisonedCount : Nat)
  | event (flags : Option FlagSet)
  | start (cause : ResetCause) (store : StoreState) (walked lost requeued : Nat)
deriving DecidableEq, Repr

/-- A notice of the notice queue, with the notice number it was given when the arbiter began it (R178). -/
structure QueuedNotice where
  notice : Notice
  number : Option Byte
deriving DecidableEq, Repr

/-- What the transmitter is sending (R177): nothing, the oldest reply, or the oldest notice. -/
inductive Transmitter where
  | free
  | reply
  | notice
deriving DecidableEq, Repr

/-- The message that the dispatcher is executing while it waits for tag lines (R175): a TAG_READ of a granule, or a
SURVEY with the words of the granules read so far. -/
inductive Query where
  | tagRead (granule : Nat)
  | survey (first : Nat) (domain : Nat) (op : Opcode) (byDomain : Bool) (rows : List (BitVec 16))
deriving DecidableEq, Repr

/-- The control port (R170 to R180). -/
structure ControlPort where
  receiver : Receiver
  inbound : List (List Byte)
  executing : Option Query
  resetWait : Bool
  replies : List Reply
  notices : List QueuedNotice
  transmitter : Transmitter
  noticeNumber : Byte
  frameErrors : Nat
deriving DecidableEq, Repr

/-! ## Request ports (RPA, RPB) -/

/-- The state of a request link (R138). -/
inductive LinkState where
  | disabled
  | down
  | up
deriving DecidableEq, Repr

/-- The origin of a capability record (R150). -/
inductive Origin where
  | none
  | announced
  | frozen
deriving DecidableEq, Repr

/-- The stage of an outstanding entry (R146). -/
inductive Stage where
  | checking
  | forwarded
deriving DecidableEq, Repr

/-- The response formed for an entry (R146). -/
structure Response where
  outcome : RespOutcome
  reason : Reason
  data : List Byte
deriving DecidableEq, Repr

/-- An outstanding entry (R146). Its address, granule and line within the granule are computed from the line number. -/
structure Entry where
  tag : ReqTag
  domain : DomainId
  op : Opcode
  lineNo : LineNo
  data : List Byte
  outside : Bool
  stage : Stage
  orphan : Bool
  response : Option Response
deriving DecidableEq, Repr

/-- A frame of the send list (R147). The oldest is the one being sent. -/
inductive SendItem where
  | response (tag : ReqTag)
  | refusal (tag : ReqTag) (outcome : RespOutcome) (reason : Reason)
  | ack (tagLimit : Nat) (poison : Bool) (origin : Origin)
deriving DecidableEq, Repr

/-- The port record (R137). `linkTimer` is the timeout code the running link timer was started with; `ackAgain`
holds the ANNOUNCE_ACK that R140 owes when the one being sent has been sent. -/
structure PortRec where
  enabled : Bool
  link : LinkState
  tagLimit : Nat
  poison : Bool
  origin : Origin
  timeoutCode : Nat
  linkTimer : Option Nat
  apertureOn : Bool
  apertureFirst : Nat
  apertureLast : Nat
  watchOn : Bool
  watchGranule : Nat
  integrity : Nat
  lastReason : Reason
  table : List Entry
  sendList : List SendItem
  ackAgain : Bool
deriving DecidableEq, Repr

/-- The port record after any reset (R137). -/
def resetPort : PortRec :=
  { enabled := true, link := .down, tagLimit := 64, poison := false, origin := .none, timeoutCode := 2,
    linkTimer := none, apertureOn := false, apertureFirst := 0, apertureLast := 0, watchOn := false,
    watchGranule := 0, integrity := 0, lastReason := .none, table := [], sendList := [], ackAgain := false }

/-! ## Mode controller (MC) -/

/-- The recovery walk (R192, R193): the granule it has reached, whether its lookup or change waits in TC, whether it
waits for a place in the scrub list, whether it has a run open, whether this is a counting pass, the working counts,
the recount mark, and the counts of the START notice. -/
structure Walk where
  cursor : Nat
  busy : Bool
  placeWait : Bool
  runOpen : Bool
  counting : Bool
  heldCounts : SMap Nat
  refCounts : SMap Nat
  recountMark : Bool
  tagsLost : Nat
  runsRequeued : Nat
deriving DecidableEq, Repr

/-- How far recovery has gone (R191, R192): the header read under way for a pool size code, the next persisted
line of domain records (of 512) or of share records (of 64), or the walk. -/
inductive Recovery where
  | header (code : PoolCode)
  | domains (next : Nat)
  | shares (next : Nat)
  | walk (w : Walk)
deriving DecidableEq, Repr

/-- The mode controller (R181, R186, R187, R189). `inReset` is the reset in effect that has not ended;
`resetLow` the level of the RESET_N pin; `decayTimer` the decay code of the interval under way, `none` when the
timer is stopped; `fixups` the domains whose quota recovery sets from their rebuilt held count (R38, R192). -/
structure ModeController where
  mode : Mode
  pendingTarget : Option Mode
  suspendOrigin : Option Mode
  storeState : StoreState
  poolCode : Option PoolCode
  countsStale : Bool
  scrubInterval : Byte
  decayCode : Byte
  drainTimeout : Byte
  timestamp : BitVec 32
  decayTimer : Option Byte
  recovery : Option Recovery
  fixups : List DomainId
  cause : ResetCause
  inReset : Option ResetCause
  resetLow : Bool
deriving DecidableEq, Repr

/-! ## The whole state -/

/-- The state of the part, with the queue of the commands that are waiting, first in, first out. -/
structure State where
  dram : Dram
  tc : TagCache
  domains : SMap DomainRec
  shares : SMap ShareEntry
  te : Engine
  su : Scrubber
  vl : Log
  eu : Events
  mc : ModeController
  cp : ControlPort
  portA : PortRec
  portB : PortRec
  pending : List Instr
deriving DecidableEq, Repr

/-- The reasons a step could stop the part. There are none: the manual gives every command an effect in every
state, and a command whose event cannot happen in a state leaves that state as it is (log entry 1, safe). -/
inductive Fault where
deriving DecidableEq, Repr

/-- The refusals of the model. -/
inductive Refusal where
  /-- Raised by `exec` for a row that has no meaning yet (safe). No arm raises it. -/
  | notModelled (mnemonic : String)
deriving DecidableEq, Repr

/-! ### The values of each block after any reset -/

/-- The tag cache after any reset (R92). -/
def resetCache : TagCache := { sets := [], fills := [], stalled := [], writes := [], held := [] }

/-- The transition engine after any reset (R124). -/
def resetEngine : Engine := { table := [], current := none, counter := 1 }

/-- The scrubber after any reset (R135, R136). -/
def resetScrubber : Scrubber := { runs := [], write := none, waiting := none, pacing := none }

/-- The violation log after any reset (R169). -/
def resetLog : Log := { records := [], overflow := false, frozen := false, hold := false, missed := 0 }

/-- The event unit after any reset (R169). -/
def resetEvents : Events := { flags := 0, enabled := 0 }

/-- The control port after any reset (R180). -/
def resetControl : ControlPort :=
  { receiver := .hunt, inbound := [], executing := none, resetWait := false, replies := [], notices := [],
    transmitter := .free, noticeNumber := 0, frameErrors := 0 }

/-- The domain table of R21 for a pool with `t` tenant granules: domain 0 OPEN with quota `t`, the rest CLOSED. -/
def initialDomains (t : Nat) : SMap DomainRec :=
  [(0, { state := .opened, quota := t, held := 0, score := 0, latch := false })]

/-- The part right after a power-on reset has ended (R190): mode CONFIG, no pool, the decay timer started, and the
START notice, number 0, being sent; DRAM holds nothing that has been written. -/
def State.reset : State :=
  { dram := { mem := [], badUnits := [], damageCount := 0, persist := [], selfRefresh := [] }
    tc := resetCache
    domains := initialDomains 0
    shares := []
    te := resetEngine
    su := resetScrubber
    vl := resetLog
    eu := resetEvents
    mc := { mode := .config, pendingTarget := none, suspendOrigin := none, storeState := .unformatted,
            poolCode := none, countsStale := false, scrubInterval := 3, decayCode := 24, drainTimeout := 20,
            timestamp := 0, decayTimer := some 24, recovery := none, fixups := [], cause := .powerOn,
            inReset := none, resetLow := false }
    cp := { resetControl with
              notices := [{ notice := .start .powerOn .unformatted 0 0 0, number := some 0 }]
              transmitter := .notice
              noticeNumber := 1 }
    portA := resetPort
    portB := resetPort
    pending := [] }

end Sys2Proof.Machine
end

