-- ==== Sys2Proof/Machine/Pool.lean ====
section
/-! DEFINITION. The pool arithmetic of R1 to R7 and the layout of the tag store. -/

namespace Sys2Proof.Machine

/-- The pool size P in bytes of a pool size code (R1). -/
def poolBytes (c : PoolCode) : Nat := 2 ^ (36 + c.val)

/-- G, the granules in the pool; 0 with the code NONE (R2). -/
def granules : Option PoolCode → Nat
  | none => 0
  | some c => poolBytes c / 4096

/-- T, the tenant granules; 0 with the code NONE (R2). -/
def tenantGranules (code : Option PoolCode) : Nat := granules code - granules code / 256

/-- The byte address of the first private granule (R2). -/
def privateBase (c : PoolCode) : Nat := poolBytes c - poolBytes c / 256

/-- The byte address of tag line `j` (R7). -/
def tagLineAddress (c : PoolCode) (j : Nat) : Nat := privateBase c + 64 * j

/-- The byte address of the store header (R4). -/
def headerAddress (c : PoolCode) : Nat := privateBase c + 16 * tenantGranules (some c)

/-- The byte address of the persisted record of domain `d` (R4). -/
def domainAddress (c : PoolCode) (d : Nat) : Nat := headerAddress c + 64 + 32 * d

/-- The byte address of the persisted record of share entry `i` (R4). -/
def shareAddress (c : PoolCode) (i : Nat) : Nat := headerAddress c + 32832 + 16 * i

/-- The byte address of line `k` of the persisted domain records, which holds the records of domains 2k and 2k + 1
(R4). -/
def domainLineAddress (c : PoolCode) (k : Nat) : Nat := domainAddress c (2 * k)

/-- The byte address of line `k` of the persisted share records, which holds the records of entries 4k to 4k + 3
(R4). -/
def shareLineAddress (c : PoolCode) (k : Nat) : Nat := shareAddress c (4 * k)

/-- The tag line of a granule (R7). -/
def lineOf (g : Nat) : Nat := g / 4

/-- The cache set of a tag line (R7). -/
def setOf (j : Nat) : Nat := j % Config.cacheSets

/-- The byte address of a request's line number (R3). -/
def lineAddress (n : LineNo) : Nat := 64 * n.toNat

/-- The granule of a request's line number (R3). -/
def granuleOf (n : LineNo) : Nat := lineAddress n / 4096

/-- The line within its granule of a request's line number (R3). -/
def lineInGranule (n : LineNo) : Nat := lineAddress n / 64 % 64

/-- Whether an address is unbacked: no pool, or at or above P (R3). -/
def unbacked (code : Option PoolCode) (a : Nat) : Bool :=
  match code with
  | none => true
  | some c => decide (poolBytes c ≤ a)

/-- Whether the range of a command is valid (R96). -/
def rangeValid (code : Option PoolCode) (first count : Nat) : Bool :=
  decide (1 ≤ count) && decide (count ≤ Config.maxRange) && decide (first + count ≤ tenantGranules code)

end Sys2Proof.Machine
end

