-- ==== Sys2Proof/Machine/Formats.lean ====
section
/-! DEFINITION. The code tables and byte layouts of the chapter Message and Frame Formats. -/

namespace Sys2Proof.Machine

/-! ## Code tables -/

def Status.code : Status → Byte
  | .ok => 0x00 | .accepted => 0x01 | .overrun => 0x02 | .badLength => 0x03 | .badKind => 0x04
  | .badValue => 0x05 | .badRange => 0x06 | .badPort => 0x07 | .wrongMode => 0x08 | .notFormatted => 0x09
  | .busy => 0x0A | .unknownDomain => 0x0B | .domainExists => 0x0C | .tableFull => 0x0D | .inUse => 0x0E
  | .holdsGranules => 0x0F | .quotaBelowHeld => 0x10 | .noTicket => 0x11 | .tooLate => 0x12

def Completion.code : Completion → Byte
  | .done => 0x00 | .doneWithPoison => 0x01 | .notFree => 0x02 | .overQuota => 0x03 | .unknownDomain => 0x04
  | .wrongOwner => 0x05 | .sharedInUse => 0x06 | .alreadyShared => 0x07 | .wrongShare => 0x08
  | .notPoisoned => 0x09 | .drainTimeout => 0x0A | .cancelled => 0x0B | .staleAgain => 0x0C

def Reason.code : Reason → Byte
  | .none => 0x00 | .overlimit => 0x01 | .tagBusy => 0x02 | .notReady => 0x03 | .suspended => 0x04
  | .unbacked => 0x05 | .unknownDomain => 0x06 | .retiring => 0x07 | .quarantined => 0x08
  | .outsideAperture => 0x09 | .privateRegion => 0x0A | .poisoned => 0x0B | .reclaiming => 0x0C
  | .freeGranule => 0x0D | .notOwner => 0x0E | .writeDenied => 0x0F | .restricted => 0x10 | .dataError => 0x11

def TagKind.code : TagKind → Byte
  | .free => 0 | .owned => 1 | .shared => 2 | .draining => 3 | .scrubbing => 4 | .poisoned => 5

def TagSeen.code : TagSeen → Byte
  | .state k => k.code | .privateRegion => 6 | .unread => 7

def Cause.code : Cause → Byte
  | .scrubFail => 0 | .drainTimeout => 1 | .tagLost => 2

def Rights.code : Rights → Byte
  | .ro => 0 | .rw => 1

def Opcode.code : Opcode → Byte
  | .read => 0 | .write => 1

def portCode : Port → Byte
  | .a => 0 | .b => 1

def DomainState.code : DomainState → Byte
  | .closed => 0 | .opened => 1 | .retiring => 2

def Standing.code : Standing → Byte
  | .good => 0 | .warned => 1 | .restricted => 2 | .quarantined => 3

def Phase.code : Phase → Byte
  | .queued => 0 | .verify => 1 | .mark => 2 | .drain => 3 | .handoff => 4 | .scrub => 5 | .notify => 6

def Mode.code : Mode → Byte
  | .recovering => 0 | .config => 1 | .enforce => 2 | .monitor => 3 | .suspended => 4

/-- A mode, or NONE or absent as 0xFF (the code tables). -/
def optModeCode : Option Mode → Byte
  | none => 0xFF
  | some m => m.code

def StoreState.code : StoreState → Byte
  | .unformatted => 0 | .formatting => 1 | .formatted => 2

/-- A pool size code, or NONE as 0x0F (the code tables). -/
def poolCodeByte : Option PoolCode → Byte
  | none => 0x0F
  | some c => BitVec.ofNat 8 c.val

/-- The pool size code that a byte spells: `none` where it spells none of the table's (R1). -/
def poolCodeOf (b : Byte) : Option (Option PoolCode) :=
  if b = 0x0F then some none
  else if h : b.toNat < 5 then some (some ⟨b.toNat, h⟩)
  else none

def ResetCause.code : ResetCause → Byte
  | .powerOn => 0 | .resetLine => 1 | .soft => 2

def LinkState.code : LinkState → Byte
  | .disabled => 0 | .down => 1 | .up => 2

def Origin.code : Origin → Byte
  | .none => 0 | .announced => 1 | .frozen => 2

def RespOutcome.code : RespOutcome → Byte
  | .data => 0 | .done => 1 | .poison => 2 | .abort => 3

/-- The KIND code of a ticketed command (Request bodies, R120). -/
def Command.code : Command → Byte
  | .assign .. => 0x10 | .reclaim .. => 0x11 | .shareRange .. => 0x12 | .unshareRange .. => 0x13
  | .retire .. => 0x14 | .recount => 0x15 | .revive .. => 0x16 | .format .. => 0x17

/-- The state of a tag (R8). -/
def Tag.kind : Tag → TagKind
  | .free => .free | .owned .. => .owned | .shared .. => .shared | .draining .. => .draining
  | .scrubbing .. => .scrubbing | .poisoned .. => .poisoned

/-- The owner field of a tag, where present (R8). -/
def Tag.owner : Tag → Option DomainId
  | .free => none | .owned o _ => some o | .shared o _ _ => some o | .draining o _ => some o
  | .scrubbing o _ => o | .poisoned o _ => o

/-- The rights field of a tag, where present (R8). -/
def Tag.rights : Tag → Option Rights
  | .owned _ r => some r | .shared _ r _ => some r | _ => none

/-- The share field of a tag, where present (R8). -/
def Tag.share : Tag → Option ShareIx
  | .shared _ _ i => some i | _ => none

/-- The ticket field of a tag, where present (R8). -/
def Tag.ticket : Tag → Option Ticket
  | .draining _ t => some t | .scrubbing _ t => t | _ => none

/-- The cause field of a tag, where present (R8). -/
def Tag.cause : Tag → Option Cause
  | .poisoned _ c => some c | _ => none

/-! ## Records as carried in replies -/

/-- The presence byte of a tag record as carried: owner, rights, share, ticket, cause in bits 0 to 4. -/
def Tag.presence (t : Tag) : Byte :=
  boolByte t.owner.isSome ||| (boolByte t.rights.isSome <<< 1) ||| (boolByte t.share.isSome <<< 2) |||
    (boolByte t.ticket.isSome <<< 3) ||| (boolByte t.cause.isSome <<< 4)

/-- The ten bytes of a tag record from its state to its generation, absent fields 0 (R8, R195). -/
def TagRec.fieldBytes (r : TagRec) : List Byte :=
  [r.tag.kind.code, r.tag.presence] ++ beBytes 2 (r.tag.owner.getD 0).toNat ++
    [(r.tag.rights.getD .ro).code, r.tag.share.getD 0] ++ beBytes 2 (r.tag.ticket.getD 0).toNat ++
    [(r.tag.cause.getD .scrubFail).code, r.generation]

/-- A tag record as carried, 14 bytes (TAG_READ). -/
def TagRec.carried (g : Nat) (r : TagRec) : List Byte := beBytes 4 g ++ r.fieldBytes

/-- A private granule's record as carried: state PRIVATE, nothing present (R15). -/
def carriedPrivate (g : Nat) : List Byte := beBytes 4 g ++ [6, 0, 0, 0, 0, 0, 0, 0, 0, 0]

/-- The fields of a log record before its timestamp as carried: kind, presence less superseded, and the rest. -/
def LogEvent.carried : LogEvent → (Byte × Nat × List Byte)
  | .deny p d g l op r served seen =>
    (0, 0x0FF, [portCode p] ++ beBytes 2 d.toNat ++ beBytes 4 g ++
      [BitVec.ofNat 8 l, op.code, r.code, boolByte served, seen.code, 0])
  | .watch p d g l op seen =>
    (1, 0x09F, [portCode p] ++ beBytes 2 d.toNat ++ beBytes 4 g ++ [BitVec.ofNat 8 l, op.code, 0, 0, seen.code, 0])
  | .standing d n => (2, 0x102, [0] ++ beBytes 2 d.toNat ++ beBytes 4 0 ++ [0, 0, 0, 0, 0, n.code])
  | .tagLost p g =>
    (3, if p.isSome then 0x005 else 0x004,
      [(p.map portCode).getD 0] ++ beBytes 2 0 ++ beBytes 4 g ++ [0, 0, 0, 0, 0, 0])
  | .dataPoison p d g l op =>
    (4, 0x01F, [portCode p] ++ beBytes 2 d.toNat ++ beBytes 4 g ++ [BitVec.ofNat 8 l, op.code, 0, 0, 0, 0])

/-- A log record as carried, 22 bytes (LOG_READ). -/
def LogRec.carried (r : LogRec) : List Byte :=
  let (kind, presence, fields) := r.event.carried
  [kind] ++ beBytes 2 (presence + if r.superseded = 0 then 0 else 0x200) ++ fields ++
    beBytes 4 r.timestamp.toNat ++ beBytes 2 r.superseded

/-! ## Frames -/

/-- A control frame around a body: SYNC, LEN, body, CHECK over LEN and body (R170, R171). -/
def controlFrame (body : List Byte) : List Byte :=
  let covered := BitVec.ofNat 8 body.length :: body
  0xA5#8 :: covered ++ crcBytes covered

/-- The body of a reply (Reply bodies). -/
def Reply.body (r : Reply) : List Byte := [r.kind, r.seq, r.status.code] ++ r.results

/-- The flag set as the 16-bit flag word (Request bodies). -/
def flagWord (f : FlagSet) : List Byte := beBytes 2 f.toNat

/-- The body of a notice with its number, when the flag set stands as given (Notice bodies, R166). -/
def Notice.body (n : Notice) (number : Byte) (flags : FlagSet) : List Byte :=
  match n with
  | .completion t c st d p =>
    [0xE0, number] ++ beBytes 2 t.toNat ++ [c.code, st.code] ++ beBytes 4 d ++ beBytes 4 p
  | .event fixed => [0xE1, number] ++ flagWord (fixed.getD flags)
  | .start cause store w l r => [0xE2, number, cause.code, store.code] ++ beBytes 4 w ++ beBytes 4 l ++ beBytes 4 r

/-- The frame on CL_TXD: that of the oldest reply, that of the oldest notice, or none (R177). -/
def State.controlLinkFrame (s : State) : Option (List Byte) :=
  match s.cp.transmitter with
  | .free => none
  | .reply => s.cp.replies.head?.map fun r => controlFrame r.body
  | .notice => s.cp.notices.head?.map fun q => controlFrame (q.notice.body (q.number.getD 0) s.eu.flags)

/-- A request-link frame: its bytes from the kind on, followed by the check (R144). -/
def linkFrame (bytes : List Byte) : List Byte := bytes ++ crcBytes bytes

/-- An ANNOUNCE_ACK frame (Request-link frames). -/
def ackFrame (tagLimit : Nat) (poison : Bool) (origin : Origin) : List Byte :=
  linkFrame [0x81, BitVec.ofNat 8 tagLimit, boolByte poison, origin.code]

/-- A RESPONSE frame; it carries the data bytes only with DATA (R196). -/
def responseFrame (tag : ReqTag) (o : RespOutcome) (r : Reason) (data : List Byte) : List Byte :=
  linkFrame ([0x82, tag.setWidth 8, o.code, r.code] ++ if o = .data then data else [])

/-- The frame a port is sending: that of the oldest item of its send list (R147). -/
def PortRec.linkFrameOut (p : PortRec) : Option (List Byte) :=
  match p.sendList with
  | [] => none
  | .response t :: _ =>
    (p.table.find? (fun e => e.tag == t)).bind fun e =>
      e.response.map fun r => responseFrame t r.outcome r.reason r.data
  | .refusal t o r :: _ => some (responseFrame t o r [])
  | .ack l po og :: _ => some (ackFrame l po og)

/-- The level of ALERT_N: `true` while it is low, that is, while a flag is both set and enabled (R167). -/
def Events.alertLow (e : Events) : Bool := e.flags &&& e.enabled != 0

end Sys2Proof.Machine
end

