-- ==== Sys2Proof/Machine/Record.lean ====
section
/-! DEFINITION. The records of the tag store as DRAM holds them (R5, R6, R8, R9).

The manual gives the sizes of the stored records, their fields and their checks, and leaves the places of the fields
open. The layouts here are the model's (log entry 5): the fields in the order of the reply that carries them, unused
bytes 0, the check last. -/

namespace Sys2Proof.Machine

/-- Bytes closed with their check (R9). -/
def withCheck (bs : List Byte) : List Byte := bs ++ crcBytes bs

/-- Whether a stored record of `n` bytes carries the CRC-16 of its other bytes (R9). -/
def checkMatches (n : Nat) (bs : List Byte) : Bool :=
  decide (bs.length = n) && (bs.drop (n - 2) == crcBytes (bs.take (n - 2)))

/-- A byte of a record. -/
def byteAt (bs : List Byte) (i : Nat) : Byte := bs.getD i 0

/-- The rights that a code names (the code tables). -/
def rightsOf (b : Byte) : Option Rights :=
  match b.toNat with
  | 0 => some .ro
  | 1 => some .rw
  | _ => none

/-- The cause that a code names (the code tables). -/
def causeOf (b : Byte) : Option Cause :=
  match b.toNat with
  | 0 => some .scrubFail
  | 1 => some .drainTimeout
  | 2 => some .tagLost
  | _ => none

/-- A tag record as stored, 16 bytes (R8). -/
def TagRec.stored (r : TagRec) : List Byte := withCheck ([0, 0, 0, 0] ++ r.fieldBytes)

/-- The four records of a tag line as stored, in granule order, 64 bytes (R7). -/
def TagLine.stored (l : TagLine) : List Byte := l.r0.stored ++ l.r1.stored ++ l.r2.stored ++ l.r3.stored

/-- The tag of a stored record's fields; `none` where its state, rights or cause code is none of R8's (R9). R9 does not
name the owner among the fields it tests: of an owner field above 1023, which R8 does not allow, the low ten bits are
taken (DESIGN CHOICE, log entry 36). A ticket field of 0, an owner in a record with cause TAG_LOST, and a presence byte
that does not fit the state are values that R8 excludes and R9 does not test: the record is taken as it stands, the
fields that its state always has whatever the presence byte says (DESIGN CHOICE, log entry 45). -/
def tagOfFields (bs : List Byte) : Option Tag :=
  let owner : DomainId := BitVec.ofNat 10 (field bs 6 2)
  let ownerOpt : Option DomainId := if (byteAt bs 5).getLsbD 0 then some owner else none
  let ticket : Ticket := BitVec.ofNat 16 (field bs 10 2)
  match (byteAt bs 4).toNat with
  | 0 => some .free
  | 1 => (rightsOf (byteAt bs 8)).map (.owned owner)
  | 2 => (rightsOf (byteAt bs 8)).map fun r => .shared owner r (byteAt bs 9)
  | 3 => some (.draining owner ticket)
  | 4 => some (.scrubbing ownerOpt (if (byteAt bs 5).getLsbD 3 then some ticket else none))
  | 5 => (causeOf (byteAt bs 12)).map (.poisoned ownerOpt)
  | _ => none

/-- Reads a stored tag record: `none` where it is not sound (R9). -/
def TagRec.ofStored (bs : List Byte) : Option TagRec :=
  if checkMatches 16 bs then (tagOfFields bs).map fun t => { tag := t, generation := byteAt bs 13 } else none

/-- The record that replaces an unsound one (R9, R82): POISONED with cause TAG_LOST, no owner, generation 0. -/
def lostRecord : TagRec := { tag := .poisoned none .tagLost, generation := 0 }

/-- The records of a tag line by place (R7). -/
def TagLine.get (l : TagLine) (i : Nat) : TagRec :=
  match i with
  | 0 => l.r0
  | 1 => l.r1
  | 2 => l.r2
  | _ => l.r3

/-- Replaces one record of a tag line (R7, R10). -/
def TagLine.set (l : TagLine) (i : Nat) (r : TagRec) : TagLine :=
  match i with
  | 0 => { l with r0 := r }
  | 1 => { l with r1 := r }
  | 2 => { l with r2 := r }
  | _ => { l with r3 := r }

/-- A persisted domain record as stored, 32 bytes (R6). -/
def storedDomain (d : Nat) (r : DomainRec) : List Byte :=
  withCheck (beBytes 2 d ++ [r.state.code] ++ beBytes 4 r.quota ++ [boolByte r.latch] ++ List.replicate 22 0)

/-- The fields of a persisted domain record: state, quota, latch (R6). -/
structure PersistedDomain where
  state : DomainState
  quota : Nat
  latch : Bool
deriving DecidableEq, Repr

/-- Reads the persisted record of domain `d`: `none` where it is not sound (R38). R38 does not name the latch among the
fields it tests: of a latch byte that is neither 0 nor 1, bit 0 is taken (DESIGN CHOICE, log entry 46). -/
def PersistedDomain.ofStored (d : Nat) (bs : List Byte) : Option PersistedDomain :=
  if checkMatches 32 bs ∧ field bs 0 2 = d then
    let rest (st : DomainState) : PersistedDomain :=
      { state := st, quota := field bs 3 4, latch := (byteAt bs 7).getLsbD 0 }
    match (byteAt bs 2).toNat with
    | 0 => some (rest .closed)
    | 1 => some (rest .opened)
    | 2 => some (rest .retiring)
    | _ => none
  else none

/-- A persisted share record as stored, 16 bytes (R6, R44). -/
def storedShare (i : Nat) (e : ShareEntry) : List Byte :=
  withCheck ([BitVec.ofNat 8 i, boolByte e.inUse] ++ beBytes 2 e.owner.toNat ++ beBytes 2 e.pattern.toNat ++
    beBytes 2 e.mask.toNat ++ [e.rights.code] ++ List.replicate 5 0)

/-- Reads the persisted record of share entry `i` with refcount 0: `none` where it is not sound (R51). -/
def ShareEntry.ofStored (i : Nat) (bs : List Byte) : Option ShareEntry :=
  if checkMatches 16 bs ∧ (byteAt bs 0).toNat = i then
    match (byteAt bs 1).toNat with
    | 0 => some freeEntry
    | 1 =>
      if field bs 2 2 < 1024 ∧ field bs 4 2 < 1024 ∧ field bs 6 2 < 1024 then
        (rightsOf (byteAt bs 8)).map fun r =>
          { inUse := true, owner := BitVec.ofNat 10 (field bs 2 2), pattern := BitVec.ofNat 10 (field bs 4 2),
            mask := BitVec.ofNat 10 (field bs 6 2), rights := r, refcount := 0 }
      else none
    | _ => none
  else none

/-- The store header as stored, 64 bytes (R5). -/
def storedHeader (c : PoolCode) (complete : Bool) : List Byte :=
  withCheck ([BitVec.ofNat 8 c.val, boolByte complete] ++ List.replicate 60 0)

/-- Whether a stored header is valid and records the code it was read for (R5, R191). A complete-flag byte other than 1
is not the true flag: the manual gives no coding of it (DESIGN CHOICE, log entry 52). -/
def headerValidFor (c : PoolCode) (bs : List Byte) : Bool :=
  checkMatches 64 bs && (byteAt bs 0 == BitVec.ofNat 8 c.val) && (byteAt bs 1 == 1)

end Sys2Proof.Machine
end

