-- ==== Sys2Proof/Machine/Memory.lean ====
section
/-! DEFINITION. DRAM as MI serves it: reads and writes of byte ranges, writes that complete UNCORRECTABLE, and the
writes of persisted records. -/

namespace Sys2Proof.Machine

/-- What a byte that nothing has written reads as: 0 (log entry 4). -/
def unwritten : Byte := 0

/-- The byte of DRAM at an address. -/
def Dram.readByte (d : Dram) (a : Nat) : Byte := smapGet unwritten d.mem a

/-- The `n` bytes of DRAM from an address on. -/
def Dram.read (d : Dram) (a n : Nat) : List Byte := (List.range n).map fun i => d.readByte (a + i)

/-- The cells of DRAM with a string of bytes written from an address on. -/
def writeCells (mem : List Host.Cell) (a : Nat) : List Byte → List Host.Cell
  | [] => mem
  | b :: bs => writeCells (smapSet unwritten mem a b) (a + 1) bs

/-- Whether DRAM's list of cells is in its canonical form. -/
def memoryWf (mem : List Host.Cell) : Bool := smapWf unwritten mem

/-- The 16-byte units that `n` bytes from an address on lie in. -/
def unitsOf (a n : Nat) : List Nat := (List.range ((n + 15) / 16)).map fun i => a / 16 + i

/-- A write that completes OK: the bytes are stored, and the units written are sound again. -/
def Dram.write (d : Dram) (a : Nat) (bs : List Byte) : Dram :=
  { d with mem := writeCells d.mem a bs
           badUnits := d.badUnits.filter fun u => !(unitsOf a bs.length).contains u }

/-- A write of `n` bytes that completes UNCORRECTABLE (R70, R87): what is stored is a free value (log entry 6), and
a record of the tag store that lies there is found unsound when it is read (R87). -/
def Dram.damage (d : Dram) (a n : Nat) : Dram :=
  { d with mem := writeCells d.mem a ((List.range n).map fun i => Config.damagedByte (d.damageCount + i))
           badUnits := (unitsOf a n).filter (fun u => !d.badUnits.contains u) ++ d.badUnits
           damageCount := d.damageCount + n }

/-- The completion of a write. -/
def Dram.complete (d : Dram) (a : Nat) (bs : List Byte) : MemOutcome → Dram
  | .ok => d.write a bs
  | .uncorrectable => d.damage a bs.length

/-- DRAM as a read finds it: bytes that have decayed have replaced those stored (R9). -/
def Dram.decay (d : Dram) (a : Nat) : ReadOutcome → Dram
  | .decayed bs => { d with mem := writeCells d.mem a bs }
  | _ => d

/-- Whether any unit of a record's bytes was last written UNCORRECTABLE. -/
def Dram.isBad (d : Dram) (a n : Nat) : Bool := (unitsOf a n).any fun u => d.badUnits.contains u

/-- The bytes of a record, `none` where the record cannot be sound: its read completed UNCORRECTABLE, or its last
write did (R38, R51, R87). -/
def Dram.record (d : Dram) (a n : Nat) (r : ReadOutcome) : Option (List Byte) :=
  if r = .uncorrectable ∨ d.isBad a n then none else some (d.read a n)

/-- The tag record of a granule as DRAM holds it: `none` where it is not sound (R9). -/
def Dram.tagRecord (d : Dram) (c : PoolCode) (g : Nat) : Option TagRec :=
  (d.record (privateBase c + 16 * g) 16 .ok).bind TagRec.ofStored

/-- A write of a whole tag line completes (R7, R87). -/
def Dram.writeTags (d : Dram) (c : PoolCode) (w : TagWrite) (o : MemOutcome) : Dram :=
  d.complete (tagLineAddress c w.line) w.recs.stored o

/-- Gives MI a write of a line of persisted records or of a header; it is held while its channel is in self-refresh
(R185). -/
def Dram.issue (d : Dram) (a : Nat) (bs : List Byte) : Dram :=
  let held := if d.selfRefresh.length = 4 then true else d.selfRefresh.contains (Config.channelOf a)
  { d with persist := d.persist ++ [{ address := a, bytes := bs, held := held }] }

/-- The oldest issued write to an address, taken out of the list. -/
def takeWrite (a : Nat) : List PersistWrite → Option (PersistWrite × List PersistWrite)
  | [] => none
  | w :: ws =>
    if w.address = a then (if w.held then none else some (w, ws))
    else (takeWrite a ws).map fun r => (r.1, w :: r.2)

end Sys2Proof.Machine
end

