-- ==== Sys2Proof/Machine/Ops.lean ====
section
/-! DEFINITION. The named operations over the state: one update per block, the tables, MI's persisted writes, and the
lookups every block uses. -/

namespace Sys2Proof.Machine

/-! ## Updates of one block -/

def State.setDram (s : State) (x : Dram) : State := { s with dram := x }
def State.setTc (s : State) (x : TagCache) : State := { s with tc := x }
def State.setDomains (s : State) (x : SMap DomainRec) : State := { s with domains := x }
def State.setShares (s : State) (x : SMap ShareEntry) : State := { s with shares := x }
def State.setTe (s : State) (x : Engine) : State := { s with te := x }
def State.setSu (s : State) (x : Scrubber) : State := { s with su := x }
def State.setVl (s : State) (x : Log) : State := { s with vl := x }
def State.setEu (s : State) (x : Events) : State := { s with eu := x }
def State.setMc (s : State) (x : ModeController) : State := { s with mc := x }
def State.setCp (s : State) (x : ControlPort) : State := { s with cp := x }
def State.setPortA (s : State) (x : PortRec) : State := { s with portA := x }
def State.setPortB (s : State) (x : PortRec) : State := { s with portB := x }

/-- The record of a request port. -/
def State.port (s : State) : Port → PortRec
  | .a => s.portA
  | .b => s.portB

/-- Replaces the record of a request port. -/
def State.setPort (s : State) (p : Port) (x : PortRec) : State :=
  match p with
  | .a => s.setPortA x
  | .b => s.setPortB x

/-- T of the pool as it stands (R2). -/
def State.tenants (s : State) : Nat := tenantGranules s.mc.poolCode

/-- Whether a reset is in effect and holds the part (R189). -/
def State.held (s : State) : Bool := s.mc.inReset.isSome

/-! ## Domains and shares -/

/-- The record of a domain (R18). -/
def State.domain (s : State) (d : DomainId) : DomainRec := smapGet closedDomain s.domains d.toNat

/-- Replaces the record of a domain on chip. -/
def State.setDomain (s : State) (d : DomainId) (r : DomainRec) : State :=
  s.setDomains (smapSet closedDomain s.domains d.toNat r)

/-- A share entry (R39). -/
def State.share (s : State) (i : ShareIx) : ShareEntry := smapGet freeEntry s.shares i.toNat

/-- Replaces a share entry on chip. -/
def State.setShare (s : State) (i : ShareIx) (e : ShareEntry) : State :=
  s.setShares (smapSet freeEntry s.shares i.toNat e)

/-- The standing that a score gives (R32). -/
def standingOf (score : Nat) : Standing :=
  if score < 96 then .good
  else if score < 128 then .warned
  else if score < 256 then .restricted
  else .quarantined

/-- The standing of a domain record (R32). -/
def DomainRec.standing (r : DomainRec) : Standing := standingOf r.score

/-- Line `k` of the persisted domain records as the on-chip records give it (R4, R6). -/
def State.domainLine (s : State) (k : Nat) : List Byte :=
  [2 * k, 2 * k + 1].flatMap fun d => storedDomain d (s.domain (BitVec.ofNat 10 d))

/-- Line `k` of the persisted share records as the on-chip entries give it (R4, R6). -/
def State.shareLine (s : State) (k : Nat) : List Byte :=
  [4 * k, 4 * k + 1, 4 * k + 2, 4 * k + 3].flatMap fun i => storedShare i (s.share (BitVec.ofNat 8 i))

/-- Issues the write of a line of the persisted domain records (R4, R22). Without a pool there is no tag store to
write. -/
def State.persistDomainLine (s : State) (k : Nat) : State :=
  match s.mc.poolCode with
  | none => s
  | some c => s.setDram (s.dram.issue (domainLineAddress c k) (s.domainLine k))

/-- Issues the write of a line of the persisted share records (R4, R44). -/
def State.persistShareLine (s : State) (k : Nat) : State :=
  match s.mc.poolCode with
  | none => s
  | some c => s.setDram (s.dram.issue (shareLineAddress c k) (s.shareLine k))

/-- Issues the write of a domain's persisted record, with the line it lies in (R4, R22). -/
def State.persistDomain (s : State) (d : DomainId) : State := s.persistDomainLine (d.toNat / 2)

/-- Issues the write of a share entry's persisted record, with the line it lies in (R4, R44). -/
def State.persistShare (s : State) (i : ShareIx) : State := s.persistShareLine (i.toNat / 4)

/-- Issues the write of the store header at the header line of a pool size code (R5). -/
def State.persistHeader (s : State) (c : PoolCode) (complete : Bool) : State :=
  s.setDram (s.dram.issue (headerAddress c) (storedHeader c complete))

/-- Changes a domain record and writes its persisted record (R22). -/
def State.writeDomain (s : State) (d : DomainId) (r : DomainRec) : State := (s.setDomain d r).persistDomain d

/-- Changes a share entry and writes its persisted record (R44). -/
def State.writeShare (s : State) (i : ShareIx) (e : ShareEntry) : State := (s.setShare i e).persistShare i

/-- Whether a domain matches a share entry: the same digit wherever the mask holds 0 (R40). -/
def ShareEntry.covers (e : ShareEntry) (x : DomainId) : Bool := (x ^^^ e.pattern) &&& ~~~e.mask == 0

/-- Frees every share entry owned by a domain, its persisted record written (R49). The manual gives no order among the
entries: they are taken in increasing index (DESIGN CHOICE, log entry 38). -/
def State.freeShares (s : State) (d : DomainId) : State :=
  (List.range Config.shareCount).foldl
    (fun s i =>
      let e := s.share (BitVec.ofNat 8 i)
      if e.inUse ∧ e.owner = d then s.writeShare (BitVec.ofNat 8 i) freeEntry else s) s

/-- Whether a domain owns an IN_USE share entry (R26). -/
def State.ownsShare (s : State) (d : DomainId) : Bool :=
  (List.range Config.shareCount).any fun i =>
    let e := s.share (BitVec.ofNat 8 i)
    e.inUse && e.owner == d

/-- The lowest-indexed FREE share entry (R46). -/
def State.lowestFreeShare (s : State) : Option ShareIx :=
  ((List.range Config.shareCount).find? fun i => !(s.share (BitVec.ofNat 8 i)).inUse).map (BitVec.ofNat 8)

/-! ## The command table -/

/-- The live command that holds a ticket (R93). -/
def State.cmd (s : State) (t : Ticket) : Option Cmd := s.te.table.find? fun c => c.ticket == t

/-- Changes the live command that holds a ticket. -/
def State.updateCmd (s : State) (t : Ticket) (f : Cmd → Cmd) : State :=
  s.setTe { s.te with table := s.te.table.map fun c => if c.ticket = t then f c else c }

/-- Frees the slot of the command that holds a ticket (R122). -/
def State.freeSlot (s : State) (t : Ticket) : State :=
  s.setTe { s.te with table := s.te.table.filter fun c => c.ticket != t }

/-- Changes what the engine holds with its current command. -/
def State.updateWork (s : State) (f : Work → Work) : State :=
  s.setTe { s.te with current := s.te.current.map f }

/-- The domain a command names as its domain (R26). -/
def Command.domain? : Command → Option DomainId
  | .assign _ _ d _ _ => some d
  | .reclaim _ _ d _ => some d
  | .retire d _ => some d
  | _ => none

/-- The share entry a command names (R47). -/
def Command.share? : Command → Option ShareIx
  | .shareRange _ _ i => some i
  | .unshareRange _ _ i => some i
  | _ => none

/-- The first granule a command works on; 0 for the commands that sweep the tenant granules. -/
def Command.start : Command → Nat
  | .assign f _ _ _ _ => f
  | .reclaim f _ _ _ => f
  | .shareRange f _ _ => f
  | .unshareRange f _ _ => f
  | .revive f _ => f
  | .retire _ _ => 0
  | .recount => 0
  | .format _ => 0

/-- The granule after the last a command works on; T for the commands that sweep the tenant granules. -/
def Command.stop (t : Nat) : Command → Nat
  | .assign f n _ _ _ => f + n
  | .reclaim f n _ _ => f + n
  | .shareRange f n _ => f + n
  | .unshareRange f n _ => f + n
  | .revive f n => f + n
  | .retire _ _ => t
  | .recount => t
  | .format _ => t

/-! ## The tag of a granule as it stands -/

/-- The line as the cache holds it VALID (R77). -/
def TagCache.validLine (tc : TagCache) (j : Nat) : Option TagLine :=
  (smapGet emptySet tc.sets (setOf j)).findSome? fun w =>
    match w.2 with
    | .valid k recs => if k = j then some recs else none
    | _ => none

/-- The record that the newest write of the write list carries for a granule. -/
def TagCache.writtenRecord (tc : TagCache) (g : Nat) : Option TagRec :=
  tc.writes.reverse.findSome? fun w =>
    if w.line = lineOf g then some (w.recs.get (g % 4)) else none

/-- The record of a granule as it stands: the cached record, else the newest one being written, else the one DRAM
holds; `none` where that one is unsound or there is no pool (R10, R86, R87). -/
def State.tagRec (s : State) (g : Nat) : Option TagRec :=
  match s.tc.validLine (lineOf g) with
  | some l => some (l.get (g % 4))
  | none =>
    match s.tc.writtenRecord g with
    | some r => some r
    | none => s.mc.poolCode.bind fun c => s.dram.tagRecord c g

/-- Whether a granule lies in a run of the scrub list (R126). -/
def State.inRun (s : State) (g : Nat) : Bool :=
  s.su.runs.any fun r => decide (r.first ≤ g) && decide (g < r.first + r.count)

end Sys2Proof.Machine
end

