-- ==== Sys2Proof/Machine/Flags.lean ====
section
/-! DEFINITION. The outbound side of the control port (R177, R178), the event flags (R163 to R166) and the violation
log (R159). -/

namespace Sys2Proof.Machine

/-! ## Notices, replies and the outbound arbiter -/

/-- A notice as it is begun: it gets its number, and an EVENT notice the flag set as it then stands (R166, R178). -/
def beginNotice (n : Byte) (flags : FlagSet) (q : QueuedNotice) : QueuedNotice :=
  { notice := match q.notice with
      | .event none => .event (some flags)
      | other => other
    number := some n }

/-- The outbound arbiter (R177): a free transmitter begins the oldest reply, else the oldest notice. -/
def State.arbitrate (s : State) : State :=
  match s.cp.transmitter with
  | .free =>
    match s.cp.replies with
    | _ :: _ => s.setCp { s.cp with transmitter := .reply }
    | [] =>
      match s.cp.notices with
      | [] => s
      | q :: qs =>
        s.setCp { s.cp with notices := beginNotice s.cp.noticeNumber s.eu.flags q :: qs
                            transmitter := .notice
                            noticeNumber := s.cp.noticeNumber + 1 }
  | _ => s

/-- Places a notice at the end of the notice queue (R178). -/
def State.placeNotice (s : State) (n : Notice) : State :=
  (s.setCp { s.cp with notices := s.cp.notices ++ [{ notice := n, number := none }] }).arbitrate

/-- Places a reply at the end of the reply list (R177). -/
def State.placeReply (s : State) (r : Reply) : State :=
  (s.setCp { s.cp with replies := s.cp.replies ++ [r] }).arbitrate

/-- Whether an EVENT notice is waiting (R166). -/
def ControlPort.eventWaiting (cp : ControlPort) : Bool :=
  cp.notices.any fun q => q.number.isNone && (match q.notice with | .event _ => true | _ => false)

/-! ## Event flags -/

/-- The position of a flag in the flag word (Request bodies). -/
def EventFlag.position : EventFlag → Nat
  | .logNonempty => 0
  | .logOverflow => 1
  | .domainWarned => 2
  | .domainRestricted => 3
  | .domainQuarantined => 4
  | .portALink => 5
  | .portBLink => 6
  | .portIntegrity => 7
  | .tagLost => 8
  | .modeChanged => 9
  | .watchHit => 10
  | .dataPoison => 11

/-- The flag set that holds one flag alone. -/
def EventFlag.bit (f : EventFlag) : FlagSet := 1#12 <<< f.position

/-- Whether a flag is in a flag set. -/
def hasFlag (fs : FlagSet) (f : EventFlag) : Bool := fs &&& f.bit != 0

/-- The link flag of a port (R138). -/
def linkFlag : Port → EventFlag
  | .a => .portALink
  | .b => .portBLink

/-- Sets a flag (R163). A flag that becomes set while enabled places an EVENT notice when none is waiting (R166). -/
def State.setFlag (s : State) (f : EventFlag) : State :=
  if hasFlag s.eu.flags f then s
  else
    let s' := s.setEu { s.eu with flags := s.eu.flags ||| f.bit }
    if hasFlag s.eu.enabled f && !s.cp.eventWaiting then s'.placeNotice (.event none) else s'

/-- Sets a flag when a condition holds. -/
def State.setFlagIf (s : State) (b : Bool) (f : EventFlag) : State := if b then s.setFlag f else s

/-! ## Storing a log record -/

/-- The log with a record handed over, its OVERFLOW setting aside (R159). -/
def Log.store (l : Log) (r : LogRec) : Log :=
  if l.frozen then { l with missed := satInc Config.max16 l.missed }
  else
    match l.records.getLast? with
    | some newest =>
      if l.overflow ∨ Config.logCapacity ≤ l.records.length then
        { l with overflow := true
                 records := l.records.dropLast ++
                   [{ r with superseded := satInc Config.max16 newest.superseded }] }
      else
        { l with records := l.records ++ [r]
                 overflow := decide (Config.logCapacity ≤ l.records.length + 1) }
    | none =>
      { l with records := [r], overflow := l.overflow }

/-- Hands a record to VL, with its timestamp, and sets the flags that storing it sets (R159, R163). -/
def State.logRecord (s : State) (e : LogEvent) : State :=
  let l := s.vl.store { event := e, timestamp := s.mc.timestamp, superseded := 0 }
  let s' := s.setVl l
  let s' := s'.setFlagIf (l.overflow && !s.vl.overflow) .logOverflow
  s'.setFlagIf (s.vl.records.isEmpty && !s.vl.frozen) .logNonempty

end Sys2Proof.Machine
end

