-- ==== Sys2Proof/Machine/Modes.lean ====
section
/-! DEFINITION. The mode changes that wait for their conditions: CONFIG (R183), SUSPENDED (R184) and the return from it
(R185). -/

namespace Sys2Proof.Machine

/-- A pending change to CONFIG takes effect when the command table is empty (R183). -/
def State.tryConfig (s : State) : State :=
  if s.mc.pendingTarget = some .config ∧ s.te.table = [] then
    (s.setMc { s.mc with mode := .config, pendingTarget := none }).setFlag .modeChanged
  else s

/-- Whether the conditions of a pending change to SUSPENDED hold together (R184). -/
def State.canSuspend (s : State) : Bool :=
  s.mc.pendingTarget == some .suspended && s.portA.table.isEmpty && s.portB.table.isEmpty &&
    s.te.current.isNone && s.cp.executing.isNone

/-- A pending change to SUSPENDED takes effect when its conditions hold: the scrubber becomes PAUSED, its timer
stopped (R127, R184). -/
def State.trySuspend (s : State) : State :=
  if s.canSuspend then
    ((s.setMc { s.mc with mode := .suspended, suspendOrigin := some s.mc.mode, pendingTarget := none }).setSu
      { s.su with pacing := none }).setFlag .modeChanged
  else s

/-- The four DRAM channels. -/
def channels : List (Fin 4) := [0, 1, 2, 3]

/-- The byte addresses of the operations issued or still to be issued before self-refresh (R91, R184): fills, tag
writes, persisted-record writes that are not held, and scrub writes. -/
def State.inFlight (s : State) : List Nat :=
  (match s.mc.poolCode with
    | none => []
    | some c => s.tc.fills.map (fun f => tagLineAddress c f.line) ++ s.tc.writes.map (fun w => tagLineAddress c w.line)) ++
  (s.dram.persist.filter fun w => !w.held).map PersistWrite.address ++
  (match s.su.write with
    | none => []
    | some w => w.inFlight.map fun k => 4096 * w.granule + 64 * k)

/-- In SUSPENDED, with no return asked for, each channel whose operations have all completed enters self-refresh
(R184, R185). -/
def State.settleChannels (s : State) : State :=
  if s.mc.mode = .suspended ∧ s.mc.pendingTarget = none then
    let busy := s.inFlight.map Config.channelOf
    s.setDram { s.dram with selfRefresh := channels.filter fun c => s.dram.selfRefresh.contains c || !busy.contains c }
  else s

/-- What follows in the same step from a change that can meet the conditions of R184: a pending change to SUSPENDED
takes effect, and idle channels enter self-refresh. It comes at the end of the step, so that MODE_CHANGED is set after
the step's other flags and its EVENT notice placed after the step's other notices (DESIGN CHOICE, log entry 48) and,
but for a MODE_REQUEST's, after its reply (DESIGN CHOICE, log entry 43). -/
def State.settleMode (s : State) : State := s.trySuspend.settleChannels

/-- The return from SUSPENDED takes effect: DRAM has left self-refresh, MI issues what it held, and the mode becomes
the suspend origin (R185). No command says that one channel has left before the others, so all that MI holds is held
until the last exit (DESIGN CHOICE, log entry 42). -/
def State.resume (s : State) : State :=
  match s.mc.suspendOrigin with
  | none => s
  | some origin =>
    ((s.setDram { s.dram with selfRefresh := [], persist := s.dram.persist.map fun w => { w with held := false } }).setMc
      { s.mc with mode := origin, suspendOrigin := none, pendingTarget := none }).setFlag .modeChanged

end Sys2Proof.Machine
end

