-- ==== Sys2Proof/Machine/Cache.lean ====
section
/-! DEFINITION. The tag cache: looking a line up, attaching to a fill, allocating one, stalling, and changing a record
of a cached line (R77 to R81, R85 to R87). What a party does on a hit stands in the party's own file. -/

namespace Sys2Proof.Machine

/-! ## Sets and ways -/

/-- The set a tag line belongs to, least recent way first (R7, R77). -/
def TagCache.set (tc : TagCache) (j : Nat) : CacheSet := smapGet emptySet tc.sets (setOf j)

/-- Replaces the set a tag line belongs to. -/
def TagCache.putSet (tc : TagCache) (j : Nat) (ws : CacheSet) : TagCache :=
  { tc with sets := smapSet emptySet tc.sets (setOf j) ws }

/-- Whether a way holds a line VALID (R77). -/
def WayState.isValid (j : Nat) : WayState → Bool
  | .valid k _ => k == j
  | _ => false

/-- Whether a way holds a line PENDING (R77). -/
def WayState.isPendingFor (j : Nat) : WayState → Bool
  | .pending k => k == j
  | _ => false

/-- Whether a way is PENDING for any line (R77). -/
def WayState.isPending : WayState → Bool
  | .pending _ => true
  | _ => false

/-- Gives a way a state and makes it the most recent of its set (R77). -/
def CacheSet.putRecent (ws : CacheSet) (way : Nat) (st : WayState) : CacheSet :=
  (ws.filter fun w => w.1 != way) ++ [(way, st)]

/-- Gives a way a state in its place of the recency order (R77). -/
def CacheSet.putInPlace (ws : CacheSet) (way : Nat) (st : WayState) : CacheSet :=
  ws.map fun w => if w.1 = way then (way, st) else w

/-- The victim of a set: its least recent way that is not PENDING (R79). -/
def CacheSet.victim (ws : CacheSet) : Option Nat := (ws.find? fun w => !w.2.isPending).map Prod.fst

/-- The way that holds a line VALID (R77). -/
def TagCache.validWay (tc : TagCache) (j : Nat) : Option Nat :=
  ((tc.set j).find? fun w => w.2.isValid j).map Prod.fst

/-- Whether a way holds a line PENDING (R77). -/
def TagCache.isPending (tc : TagCache) (j : Nat) : Bool := (tc.set j).any fun w => w.2.isPendingFor j

/-- Whether the write list holds a write to a line (R81). -/
def TagCache.writing (tc : TagCache) (j : Nat) : Bool := tc.writes.any fun w => w.line == j

/-- Whether the write list has room (R78). -/
def TagCache.hasRoom (tc : TagCache) : Bool := decide (tc.writes.length < Config.writeCapacity)

/-- The records of a line become those given, and its way the most recent of its set. -/
def TagCache.putValid (tc : TagCache) (way j : Nat) (recs : TagLine) : TagCache :=
  tc.putSet j (CacheSet.putRecent (tc.set j) way (.valid j recs))

/-- A write is placed at the end of the write list (R87). -/
def TagCache.pushWrite (tc : TagCache) (j : Nat) (recs : TagLine) : TagCache :=
  { tc with writes := tc.writes ++ [{ line := j, recs := recs }] }

/-- Something waits for room in the write list, at the end of those that wait (R86, R87). -/
def TagCache.hold (tc : TagCache) (h : Held) : TagCache := { tc with held := tc.held ++ [h] }

/-! ## Lookup -/

/-- The four outcomes of a lookup (R79), with the way and records of a hit, and the way reserved for a new fill. -/
inductive Found where
  | hit (way : Nat) (recs : TagLine)
  | pending
  | room (way : Nat)
  | stall
deriving DecidableEq, Repr

/-- What the state of its set decides for a line (R79). -/
def TagCache.find (tc : TagCache) (j : Nat) : Found :=
  match tc.validWay j, tc.validLine j with
  | some way, some recs => .hit way recs
  | _, _ =>
    if tc.isPending j then .pending
    else if tc.fills.length < Config.fillCapacity then
      match CacheSet.victim (tc.set j) with
      | some way => .room way
      | none => .stall
    else .stall

/-- The port whose request a party is, if it is one (R83). -/
def Party.origin : Party → Option Port
  | .request p _ => some p
  | _ => none

/-- A party attaches to the fill of a line, at the end of its attached parties (R79). -/
def TagCache.attach (tc : TagCache) (party : Party) (j : Nat) : TagCache :=
  { tc with fills := tc.fills.map fun f => if f.line = j then { f with parties := f.parties ++ [party] } else f }

/-- A fill for a line is allocated in a way, with the party first attached. Its read is issued at once unless a write
to the line is outstanding (R79, R81). -/
def TagCache.allocate (tc : TagCache) (party : Party) (j way : Nat) : TagCache :=
  let tc' := tc.putSet j (CacheSet.putInPlace (tc.set j) way (.pending j))
  { tc' with
    fills := tc.fills ++
      [{ line := j, way := way, stage := if tc.writing j then .waitingWrite else .reading, parties := [party],
         origin := party.origin, install := none }] }

/-- Looks a line up for a party (R79): the cache after it, and the records where it hits. -/
def TagCache.lookup (tc : TagCache) (party : Party) (j : Nat) : TagCache × Option TagLine :=
  match tc.find j with
  | .hit way recs => (tc.putValid way j recs, some recs)
  | .pending => (tc.attach party j, none)
  | .room way => (tc.allocate party j way, none)
  | .stall => ({ tc with stalled := tc.stalled ++ [(party, j)] }, none)

/-- Looks a line up for a party: what it does on a hit, and what it notes when it waits. -/
def State.lookup (s : State) (party : Party) (j : Nat) (onHit : TagLine → State → State)
    (onWait : State → State) : State :=
  match s.tc.lookup party j with
  | (tc, some recs) => onHit recs (s.setTc tc)
  | (tc, none) => onWait (s.setTc tc)

/-! ## Changes -/

/-- Writes a new record of a granule into its cached line, makes the way the most recent of its set, and places the
write-through of the line in the write list (R7, R86). Where the line is not cached VALID nothing happens. -/
def State.putTag (s : State) (g : Nat) (r : TagRec) : State :=
  match s.tc.validWay (lineOf g), s.tc.validLine (lineOf g) with
  | some way, some recs =>
    s.setTc ((s.tc.putValid way (lineOf g) (recs.set (g % 4) r)).pushWrite (lineOf g) (recs.set (g % 4) r))
  | _, _ => s

/-- Takes a party's change of a granule's record on a hit (R86). `agrees` says whether the record is in the state the
party expects: if it is not, the change is refused; if it is and the write list is full, the change is held. -/
def State.change (s : State) (party : Party) (g : Nat) (agrees : Bool) (r : TagRec)
    (taken refused held : State → State) : State :=
  if agrees then
    if s.tc.hasRoom then taken (s.putTag g r)
    else held (s.setTc (s.tc.hold (.change party (lineOf g))))
  else refused s

/-- A party leaves every fill, the stalled list and the held changes (R118: a command stopped in VERIFY waits for
nothing more). The fills go on without it (R81). -/
def TagCache.dropParty (tc : TagCache) (party : Party) : TagCache :=
  { tc with
    fills := tc.fills.map fun f => { f with parties := f.parties.filter fun q => q != party }
    stalled := tc.stalled.filter fun q => q.1 != party
    held := tc.held.filter fun h => match h with
      | .change q _ => q != party
      | _ => true }

end Sys2Proof.Machine
end

