-- ==== Sys2Proof/Decode.lean ====
section
/-! DEFINITION. What the part reads from the frames it receives: the kinds and lengths of control messages, and which
request-link frames are valid. The rows of the opcode table give no bits, so no word spells a command. -/

namespace Sys2Proof

/-- The command that a word spells by the table's bits: none, since no row of the table gives bits. -/
def decodeTableWord (_nbits _w : Nat) : Option Instr := none

/-- The length of the body that R174 requires for a KIND the host may send; `none` for any other KIND. -/
def messageLength (kind : Byte) : Option Nat :=
  match kind.toNat with
  | 0x10 => some 14
  | 0x11 => some 13
  | 0x12 => some 12
  | 0x13 => some 12
  | 0x14 => some 4
  | 0x15 => some 3
  | 0x16 => some 10
  | 0x17 => some 3
  | 0x18 => some 4
  | 0x19 => some 4
  | 0x20 => some 8
  | 0x21 => some 8
  | 0x22 => some 4
  | 0x23 => some 4
  | 0x24 => some 4
  | 0x28 => some 9
  | 0x29 => some 4
  | 0x2A => some 4
  | 0x30 => some 6
  | 0x31 => some 10
  | 0x38 => some 3
  | 0x39 => some 6
  | 0x3C => some 6
  | 0x3D => some 4
  | 0x40 => some 20
  | 0x41 => some 3
  | 0x42 => some 5
  | 0x48 => some 3
  | 0x49 => some 7
  | 0x4A => some 3
  | 0x4B => some 3
  | _ => none

/-- The kind of the reply to a frame of this KIND: KIND + 0x80, or 0xFF for an unknown KIND (R174). -/
def replyKind (kind : Byte) : Byte := if (messageLength kind).isSome then kind + 0x80 else 0xFF

/-- The length of a request-link frame of a peer kind; `none` for any other kind (Request-link frames). -/
def peerFrameLength (kind : Byte) : Option Nat :=
  match kind.toNat with
  | 1 => some 11
  | 2 => some 75
  | 3 => some 5
  | 4 => some 3
  | _ => none

/-- Whether the bytes of a request-link frame are one of the four valid peer frames: the kind known, the length that
of its kind, and the check the CRC-16 of the bytes before it (R144). -/
def peerFrameValid (bytes : List Byte) : Bool :=
  match bytes with
  | [] => false
  | kind :: _ =>
    decide (peerFrameLength kind = some bytes.length) &&
      (bytes.drop (bytes.length - 2) == Machine.crcBytes (bytes.take (bytes.length - 2)))

end Sys2Proof
end

