-- ==== Sys2Proof/WellFormed.lean ====
section
/-! DEFINITION. The checks on the operands of a command that its row's meaning supposes.

A command that fails a check names an event that cannot happen (a 64-byte line read as another number of bytes), and
its meaning then leaves the state as it is. -/

namespace Sys2Proof

/-- Whether the bytes of a read that decayed are as many as the read brings. -/
def ReadOutcome.fits (n : Nat) : ReadOutcome → Bool
  | .decayed bytes => bytes.length == n
  | _ => true

/-- The well-formed commands. A write frame carries 64 data bytes, a bad frame is none of the valid ones, the tag
store is read one line of 64 bytes at a time, and a scrub write is to one of the 64 lines of a granule. -/
def Instr.wellFormed : Instr → Bool
  | .requestWrite _ _ _ _ data => data.length == 64
  | .badLinkFrame _ bytes => !peerFrameValid bytes
  | .fillComplete _ r => r.fits 64
  | .headerReadComplete r => r.fits 64
  | .domainRecordRead r => r.fits 64
  | .shareRecordRead r => r.fits 64
  | .scrubWriteComplete line _ => decide (line < 64)
  | _ => true

end Sys2Proof
end

