-- ==== Sys2Proof/Machine/Operands.lean ====
section
/-! DEFINITION. The operands of a message, read from the frame at the front of the inbound queue, and the dispatcher
that executes the frame (R174, R175). -/

namespace Sys2Proof.Machine

/-! ## The fields of a request body -/

/-- KIND, the first byte of a body (Control frames). -/
def kindOf (f : List Byte) : Byte := byteAt f 0
/-- SEQ, the second byte of a body. -/
def seqOf (f : List Byte) : Byte := byteAt f 1
/-- The one-byte parameter at a place after KIND and SEQ (Request bodies). -/
def param8 (f : List Byte) (i : Nat) : Byte := byteAt f (2 + i)
/-- The two-byte parameter at a place after KIND and SEQ. -/
def param16 (f : List Byte) (i : Nat) : Nat := field f (2 + i) 2
/-- The four-byte parameter at a place after KIND and SEQ. -/
def param32 (f : List Byte) (i : Nat) : Nat := field f (2 + i) 4

/-- A domain field as a domain number: `none` above 1023 (R23, R96). -/
def domainParam (n : Nat) : Option DomainId := if n < Config.domainCount then some (BitVec.ofNat 10 n) else none

/-- A share index field as an index: `none` above 255 (R47, R96). -/
def shareParam (n : Nat) : Option ShareIx := if n < Config.shareCount then some (BitVec.ofNat 8 n) else none

/-- READ or WRITE as SURVEY's access byte names it (the code tables). -/
def opcodeOf (b : Byte) : Option Opcode :=
  match b.toNat with
  | 0 => some .read
  | 1 => some .write
  | _ => none

/-- A yes/no byte (the code tables). -/
def yesNoOf (b : Byte) : Option Bool :=
  match b.toNat with
  | 0 => some false
  | 1 => some true
  | _ => none

/-- The ports that PORT_SET's selector names: A, B or BOTH (R154). With BOTH the changes of port A, its link flag with
them, are made before those of port B, within the one step: the manual gives no order (DESIGN CHOICE, log entry 41). -/
def portsOf (b : Byte) : Option (List Port) :=
  match b.toNat with
  | 0 => some [.a]
  | 1 => some [.b]
  | 2 => some [.a, .b]
  | _ => none

/-- The one port that the selector of PORT_STATUS or PORT_CLEAR names (R155, R156). -/
def portOf (b : Byte) : Option Port :=
  match b.toNat with
  | 0 => some .a
  | 1 => some .b
  | _ => none

/-- A mode that a MODE_REQUEST target can name (R182). -/
def targetOf (b : Byte) : Option Mode :=
  match b.toNat with
  | 1 => some .config
  | 2 => some .enforce
  | 3 => some .monitor
  | 4 => some .suspended
  | _ => none

/-- A hold-on-quarantine choice: KEEP, ON or OFF (R162). `some none` is KEEP. -/
def holdOf (b : Byte) : Option (Option Bool) :=
  match b.toNat with
  | 0 => some none
  | 1 => some (some true)
  | 2 => some (some false)
  | _ => none

/-- What a set mask and a clear mask do to one flag: a 1 in the set mask alone sets it, a 1 in the clear mask alone
clears it, and otherwise it stays (R154, R164). -/
def maskBit (set clear old : Bool) : Bool := if set && !clear then true else if clear && !set then false else old

/-- What a set mask and a clear mask do to a whole flag set (R164). -/
def maskFlags (set clear old : FlagSet) : FlagSet := (old ||| (set &&& ~~~clear)) &&& ~~~(clear &&& ~~~set)

/-! ## The dispatcher -/

/-- Whether the dispatcher can begin the oldest frame (R174): a frame waits, none is being executed, a place of the
reply list is free, and no RESET awaits its reply. -/
def State.canDispatch (s : State) : Bool :=
  !s.held && s.cp.executing.isNone && !s.cp.resetWait && decide (s.cp.replies.length < Config.replyCapacity) &&
    !s.cp.inbound.isEmpty

/-- The frame at the front of the inbound queue. -/
def State.frame (s : State) : List Byte := s.cp.inbound.headD []

/-- Ends the execution of the frame at the front of the inbound queue: it leaves the queue and its reply enters the
reply list, with reply kind, SEQ, status and results (R174, R175). -/
def State.answer (s : State) (st : Status) (results : List Byte) : State :=
  (s.setCp { s.cp with inbound := s.cp.inbound.tail, executing := none }).placeReply
    { kind := replyKind (kindOf s.frame), seq := seqOf s.frame, status := st, results := results }

/-- Executes the oldest frame as the message of a KIND: a wrong LEN is answered BAD_LENGTH (R174), and otherwise the
message's own rule is followed on the frame's body. A frame of another KIND, or one the dispatcher cannot begin,
makes no such event (log entry 1). -/
def State.onMessage (s : State) (kind : Byte) (act : List Byte → State) : Host.Outcome State Fault Refusal :=
  .next <|
    if s.canDispatch && kindOf s.frame == kind then
      if messageLength kind = some s.frame.length then act s.frame else s.answer .badLength []
    else s

/-- An event of the part outside the dispatcher. While a reset is in effect no such event happens (R189). -/
def State.onEvent (s : State) (f : State → State) : Host.Outcome State Fault Refusal :=
  .next (if s.held then s else f s)

/-- The checks that the messages which change the domain and share tables make first (R23, R45). -/
def State.tableCheck (s : State) : Option Status :=
  if s.mc.mode = .recovering ∨ s.mc.mode = .suspended then some .wrongMode
  else if s.mc.storeState ≠ .formatted then some .notFormatted
  else none

end Sys2Proof.Machine
end

