-- ==== Sys2Proof/Machine/Ports.lean ====
section
/-! DEFINITION. The request ports: capability record, link timer, send list, outstanding table, admission and going
DOWN (R137 to R153). -/

namespace Sys2Proof.Machine

/-- Changes the record of a port. -/
def State.updatePort (s : State) (p : Port) (f : PortRec → PortRec) : State := s.setPort p (f (s.port p))

/-! ## The outstanding table -/

/-- The entry of a request tag (R146). -/
def PortRec.entry (p : PortRec) (t : ReqTag) : Option Entry := p.table.find? fun e => e.tag == t

/-- Changes the entry of a request tag. -/
def PortRec.updateEntry (p : PortRec) (t : ReqTag) (f : Entry → Entry) : PortRec :=
  { p with table := p.table.map fun e => if e.tag = t then f e else e }

/-- The drain of the current command ends: the timer is stopped and the command enters HANDOFF (R105). -/
def State.endDrain (s : State) (t : Ticket) (start : Nat) : State :=
  (s.updateCmd t fun c => { c with phase := .handoff }).updateWork fun w =>
    { w with snapshot := [], timer := none, cursor := start }

/-- TE is told that an entry was removed: it leaves the drain snapshot, and the removal of the last one ends the drain
(R105). -/
def State.snapshotRemove (s : State) (p : Port) (t : ReqTag) : State :=
  match s.te.current with
  | none => s
  | some w =>
    if w.snapshot.contains (p, t) then
      let rest := w.snapshot.filter fun x => x != (p, t)
      if rest.isEmpty then
        match s.cmd w.ticket with
        | some c => s.endDrain w.ticket c.command.start
        | none => s
      else s.updateWork fun w => { w with snapshot := rest }
    else s

/-- Removes an entry from a port's outstanding table, and tells TE (R105, R146). -/
def State.removeEntry (s : State) (p : Port) (t : ReqTag) : State :=
  (s.updatePort p fun r => { r with table := r.table.filter fun e => e.tag != t }).snapshotRemove p t

/-! ## Responses -/

/-- The outcome of a refused request: POISON for a READ when the peer supports poison, else ABORT (R68). -/
def refusedOutcome (poison : Bool) : Opcode → RespOutcome
  | .read => if poison then .poison else .abort
  | .write => .abort

/-- The outcome of a served operation that completes UNCORRECTABLE (R70). -/
def damagedOutcome (poison : Bool) : RespOutcome := if poison then .poison else .abort

/-- Forms the response of an entry and places it in the send list (R146, R147). -/
def PortRec.respond (p : PortRec) (t : ReqTag) (r : Response) : PortRec :=
  { p.updateEntry t fun e => { e with response := some r, data := [] } with
    sendList := p.sendList ++ [.response t] }

/-! ## Sending -/

/-- Whether a frame of the send list is an ANNOUNCE_ACK. -/
def SendItem.isAck : SendItem → Bool
  | .ack .. => true
  | _ => false

/-- Whether a frame of the send list holds an unentered refusal place (R147). -/
def SendItem.isRefusal : SendItem → Bool
  | .refusal .. => true
  | _ => false

/-- The ANNOUNCE_ACK that carries the capability record as it stands. -/
def PortRec.ackNow (p : PortRec) : SendItem := .ack p.tagLimit p.poison p.origin

/-- Places an ANNOUNCE_ACK: a waiting one has its content replaced, and one being sent is followed by another when it
has been sent (R140). The oldest frame of the send list is the one being sent. -/
def PortRec.placeAck (p : PortRec) : PortRec :=
  match p.sendList with
  | [] => { p with sendList := [p.ackNow] }
  | head :: rest =>
    if head.isAck then { p with ackAgain := true }
    else if rest.any SendItem.isAck then
      { p with sendList := head :: rest.map fun i => if i.isAck then p.ackNow else i }
    else { p with sendList := head :: rest ++ [p.ackNow] }

/-- The reason that the frame being sent carries. -/
def PortRec.reasonSent (p : PortRec) : SendItem → Reason
  | .response t => ((p.entry t).bind Entry.response).elim .none Response.reason
  | .refusal _ _ r => r
  | .ack .. => .none

/-- The last reason after a frame has been sent: the reason carried, unless it is NONE (R153). -/
def lastReasonAfter (old sent : Reason) : Reason := if sent = .none then old else sent

/-- The port after the oldest frame of its send list has been sent (R147, R153): the frame has left the list, the last
reason is updated, and the acknowledgement that R140 owes is placed. -/
def PortRec.frameSent (p : PortRec) (item : SendItem) (rest : List SendItem) : PortRec :=
  let p' := { p with sendList := rest, lastReason := lastReasonAfter p.lastReason (p.reasonSent item) }
  if item.isAck && p.ackAgain then { p' with sendList := rest ++ [p.ackNow], ackAgain := false } else p'

/-- The oldest frame of a port's send list has been sent. An entry's response removes the entry (R147). -/
def State.frameSent (s : State) (p : Port) : State :=
  match (s.port p).sendList with
  | [] => s
  | item :: rest =>
    let s' := s.updatePort p fun r => r.frameSent item rest
    match item with
    | .response t => s'.removeEntry p t
    | _ => s'

/-! ## Integrity -/

/-- Adds 1 to the integrity count, saturating, and sets PORT_INTEGRITY (R144, R145, R148). -/
def State.countIntegrity (s : State) (p : Port) : State :=
  (s.updatePort p fun r => { r with integrity := satInc Config.maxIntegrity r.integrity }).setFlag .portIntegrity

/-! ## Link states -/

/-- Restarts the link timer with the length of the code as it stands (R141). -/
def PortRec.restartTimer (p : PortRec) : PortRec := { p with linkTimer := some p.timeoutCode }

/-- The capability record after a valid ANNOUNCE: loaded with the clamps of R139 unless it is FROZEN (R139, R140). -/
def PortRec.announced (p : PortRec) (tagLimit : Nat) (poison : Bool) : PortRec :=
  if p.origin = .frozen then p
  else { p with tagLimit := max 1 (min tagLimit 64), poison := poison, origin := .announced }

/-- The entries whose responses wait in the send list. -/
def PortRec.answeredTags (p : PortRec) : List ReqTag :=
  p.sendList.filterMap fun i => match i with
    | .response t => some t
    | _ => none

/-- The record of a port whose link goes to DOWN or DISABLED (R142), less the removal of the answered entries. -/
def PortRec.goneDown (p : PortRec) (dest : LinkState) : PortRec :=
  { p with table := p.table.map fun e => { e with orphan := true }
           sendList := [], ackAgain := false, integrity := 0, linkTimer := none, link := dest }

/-- The link of an UP port goes DOWN or DISABLED: its entries become orphans, the send list is emptied and the entries
answered there are removed, the integrity count and the timer stop, and the link flag is set (R142). -/
def State.goDown (s : State) (p : Port) (dest : LinkState) : State :=
  let answered := (s.port p).answeredTags
  (answered.foldl (fun s t => s.removeEntry p t) (s.updatePort p fun r => r.goneDown dest)).setFlag (linkFlag p)

/-! ## Admission -/

/-- Places the refusal of a request refused at admission, or drops it when all 8 places are taken (R145, R148). -/
def State.refuseUnentered (s : State) (p : Port) (t : ReqTag) (op : Opcode) (reason : Reason) : State :=
  if ((s.port p).sendList.filter SendItem.isRefusal).length < Config.refusalCapacity then
    s.updatePort p fun r =>
      { r with sendList := r.sendList ++ [.refusal t (refusedOutcome r.poison op) reason] }
  else s.countIntegrity p

/-- What steps 1 to 3 decide for a request (R54, R145): the reason of the refusal, and whether it counts against the
link. `none` admits the request. -/
def State.admission (s : State) (p : Port) (t : ReqTag) : Option (Reason × Bool) :=
  let r := s.port p
  if r.tagLimit ≤ r.table.length then some (.overlimit, true)
  else if (r.entry t).isSome then some (.tagBusy, true)
  else if s.mc.mode = .config ∨ s.mc.mode = .recovering then some (.notReady, false)
  else if s.mc.pendingTarget = some .suspended ∨ s.mc.mode = .suspended then some (.suspended, false)
  else none

/-- Whether a granule lies outside a port's aperture (R151). -/
def PortRec.outside (p : PortRec) (g : Nat) : Bool :=
  p.apertureOn && (decide (g < p.apertureFirst) || decide (p.apertureLast < g))

/-- The entry that an admitted request takes (R146). -/
def PortRec.newEntry (p : PortRec) (t : ReqTag) (d : DomainId) (op : Opcode) (n : LineNo) (data : List Byte) : Entry :=
  { tag := t, domain := d, op := op, lineNo := n, data := data, outside := p.outside (granuleOf n),
    stage := .checking, orphan := false, response := none }

end Sys2Proof.Machine
end

