-- ==== Sys2Proof/Machine/Check.lean ====
section
/-! DEFINITION. The check unit: the decision order (R53 to R63, R67), the effects of a decision (R31 to R34, R65, R66,
R71), and serving and refusing (R64, R68, R72). -/

namespace Sys2Proof.Machine

/-! ## The decision -/

/-- What CU decides for a request at its moment of decision: the reason of the deciding step (NONE at step 17), whether
the step is scored and logged, whether the request is served, and the tag state seen (R54, R66). -/
structure Ruling where
  reason : Reason
  scored : Bool
  logged : Bool
  served : Bool
  seen : TagSeen
deriving DecidableEq, Repr

/-- The outcome of taking a request: the tag is needed first (step 10), the part is not ready (R56), or a ruling. -/
inductive Verdict where
  | needTag
  | notReady
  | ruled (r : Ruling)
deriving DecidableEq, Repr

/-- A ruling at a step that is scored or not, and logged. -/
def refusal (reason : Reason) (scored served : Bool) (seen : TagSeen) : Verdict :=
  .ruled { reason := reason, scored := scored, logged := true, served := served, seen := seen }

/-- The ruling of step 17, or of a step that does not apply: served, with no refusal recorded. -/
def servedRuling (seen : TagSeen) : Verdict :=
  .ruled { reason := .none, scored := false, logged := false, served := true, seen := seen }

/-- Whether a tag is OWNED or SHARED: the states against which MONITOR serves (R67). -/
def Tag.isHeld : Tag → Bool
  | .owned .. => true
  | .shared .. => true
  | _ => false

/-- The rights that apply to a domain on a held tag: those of the tag for its owner, those of the entry named for a
matching domain, and none for any other (R41, R62). -/
def State.applicableRights (s : State) (x : DomainId) : Tag → Option Rights
  | .owned o r => if x = o then some r else none
  | .shared o r i =>
    if x = o then some r
    else if (s.share i).covers x then some (s.share i).rights
    else none
  | _ => none

/-- The first of steps 5 to 8 whose condition holds, with its reason and whether it is scored. Step 7 is not applied in
MONITOR (R58, R59, R67). -/
def earlyStep (monitor : Bool) (d : DomainRec) (outside : Bool) : Option (Reason × Bool) :=
  if d.state = .closed then some (.unknownDomain, false)
  else if d.state = .retiring then some (.retiring, false)
  else if !monitor && d.standing == .quarantined then some (.quarantined, false)
  else if outside then some (.outsideAperture, true)
  else none

/-- Steps 11 to 17, which read the tag (R61 to R63, R67). -/
def State.tagSteps (s : State) (monitor : Bool) (e : Entry) (t : Tag) : Verdict :=
  let seen := TagSeen.state t.kind
  match t with
  | .poisoned _ _ => refusal .poisoned false false seen
  | .draining o _ => refusal .reclaiming (e.domain != o) false seen
  | .scrubbing o _ => refusal .reclaiming (o != some e.domain) false seen
  | .free => refusal .freeGranule true false seen
  | held =>
    match s.applicableRights e.domain held with
    | none => refusal .notOwner true monitor seen
    | some rights =>
      if e.op = .write ∧ rights = .ro then refusal .writeDenied true monitor seen
      else if monitor = false ∧ e.op = .write ∧ (s.domain e.domain).standing = .restricted then
        refusal .restricted true false seen
      else servedRuling seen

/-- The decision order from step 4 on, for a request whose tag has been read or not (R54, R56, R57, R67). Where the tag
is given, all of the order is applied afresh. -/
def State.decideRequest (s : State) (e : Entry) (tag : Option TagRec) : Verdict :=
  let g := granuleOf e.lineNo
  let monitor := decide (s.mc.mode = .monitor)
  if s.mc.mode ≠ .enforce ∧ s.mc.mode ≠ .monitor then .notReady
  else if unbacked s.mc.poolCode (lineAddress e.lineNo) then
    .ruled { reason := .unbacked, scored := false, logged := false, served := false, seen := .unread }
  else
    match earlyStep monitor (s.domain e.domain) e.outside with
    | some (reason, scored) =>
      if !monitor then refusal reason scored false .unread
      else if s.tenants ≤ g then refusal reason scored false .privateRegion
      else
        match tag with
        | none => .needTag
        | some r => refusal reason scored r.tag.isHeld (.state r.tag.kind)
    | none =>
      if s.tenants ≤ g then refusal .privateRegion true false .privateRegion
      else
        match tag with
        | none => .needTag
        | some r => s.tagSteps monitor e r.tag

/-! ## Effects of a decision -/

/-- The record of a domain after a counted refusal: 8 points more, 256 at most, and the quarantine latch set at 256
(R31, R34). -/
def DomainRec.scoreUp (r : DomainRec) : DomainRec :=
  { r with score := min (r.score + Config.scoreStep) Config.scoreMax
           latch := r.latch || decide (Config.scoreMax ≤ r.score + Config.scoreStep) }

/-- Counts a refusal against a domain; its persisted record is written when the latch becomes set (R22, R31, R34). -/
def State.countRefusal (s : State) (d : DomainId) : State :=
  let old := s.domain d
  let new := old.scoreUp
  if new.latch ≠ old.latch then s.writeDomain d new else s.setDomain d new

/-- The flag of the standing that a counted refusal has reached (R33). -/
def standingFlag : Standing → Option EventFlag
  | .good => none
  | .warned => some .domainWarned
  | .restricted => some .domainRestricted
  | .quarantined => some .domainQuarantined

/-- The STANDING record of a change of standing, and the freezing of the log with it (R33, R160). -/
def State.standingRecord (s : State) (d : DomainId) (new : Standing) : State :=
  match new with
  | .restricted => s.logRecord (.standing d .restricted)
  | .quarantined =>
    let s' := s.logRecord (.standing d .quarantined)
    if s'.vl.hold then s'.setVl { s'.vl with frozen := true } else s'
  | _ => s

/-- Stores the STANDING record and sets the flag of a change of standing (R33, R65). -/
def State.standingChange (s : State) (d : DomainId) (old new : Standing) : State :=
  if old = new then s
  else
    let s' := s.standingRecord d new
    match standingFlag new with
    | some f => s'.setFlag f
    | none => s'

/-- The WATCH record and flag of a decision on a watched granule (R71), the flags that storing the record sets before
WATCH_HIT (DESIGN CHOICE, log entry 56). -/
def State.watch (s : State) (p : Port) (e : Entry) (seen : TagSeen) : State :=
  let g := granuleOf e.lineNo
  if (s.port p).watchOn ∧ (s.port p).watchGranule = g then
    (s.logRecord (.watch p e.domain g (lineInGranule e.lineNo) e.op seen)).setFlag .watchHit
  else s

/-- The effects of a decision on the domain, the log and the flags, in the order of R65. -/
def State.ruleEffects (s : State) (p : Port) (e : Entry) (r : Ruling) : State :=
  let old := (s.domain e.domain).standing
  let counted := r.scored && e.domain != 0
  let s1 := if counted then s.countRefusal e.domain else s
  let s2 :=
    if r.logged then
      s1.logRecord (.deny p e.domain (granuleOf e.lineNo) (lineInGranule e.lineNo) e.op r.reason r.served r.seen)
    else s1
  let s3 := if counted then s2.standingChange e.domain old (s1.domain e.domain).standing else s2
  s3.watch p e r.seen

/-- Refuses a request in CHECKING: its response is formed and placed in the send list, or, for an orphan, its entry is
removed with none (R68, R72, R146). -/
def State.refuseEntry (s : State) (p : Port) (e : Entry) (reason : Reason) : State :=
  if e.orphan then s.removeEntry p e.tag
  else s.updatePort p fun r =>
    r.respond e.tag { outcome := refusedOutcome r.poison e.op, reason := reason, data := [] }

/-- Serves a request: its entry becomes FORWARDED and its operation goes to MI (R64). -/
def State.serveEntry (s : State) (p : Port) (e : Entry) : State :=
  s.updatePort p fun r => r.updateEntry e.tag fun e => { e with stage := .forwarded }

/-- Carries out a ruling (R64, R65, R67). -/
def State.applyRuling (s : State) (p : Port) (e : Entry) (r : Ruling) : State :=
  let s' := s.ruleEffects p e r
  if r.served then s'.serveEntry p e else s'.refuseEntry p e r.reason

/-- Decides a request whose tag line has been read (R56, R60). -/
def State.decideWithTag (s : State) (p : Port) (e : Entry) (line : TagLine) : State :=
  match s.decideRequest e (some (line.get (granuleOf e.lineNo % 4))) with
  | .ruled r => s.applyRuling p e r
  | .notReady => s.refuseEntry p e .notReady
  | .needTag => s

/-- A request that needs its tag asks TC for its line; it is decided afresh when the line is available (R56, R60). -/
def State.lookupRequest (s : State) (p : Port) (e : Entry) : State :=
  s.lookup (.request p e.tag) (lineOf (granuleOf e.lineNo)) (fun line s => s.decideWithTag p e line) id

/-- CU first takes a request in CHECKING: it is decided at once where the decision needs no tag, and looked up in TC
otherwise (R56, R60). -/
def State.takeRequest (s : State) (p : Port) (t : ReqTag) : State :=
  match (s.port p).entry t with
  | none => s
  | some e =>
    match s.decideRequest e none with
    | .ruled r => s.applyRuling p e r
    | .notReady => s.refuseEntry p e .notReady
    | .needTag => s.lookupRequest p e

/-- A request that waited in TC is looked up again, and decided afresh when its line is available (R56, R80, R84). -/
def State.retakeRequest (s : State) (p : Port) (t : ReqTag) : State :=
  match (s.port p).entry t with
  | none => s
  | some e => s.lookupRequest p e

end Sys2Proof.Machine
end

