-- ==== Sys2Proof/Machine/Query.lean ====
section
/-! DEFINITION. TAG_READ and SURVEY once they are taken: the lines they read through TC and the replies they form (R16,
R75, R76). -/

namespace Sys2Proof.Machine

/-- The answer bit of SURVEY for a tag, a domain and an access: whether the tag alone would let the domain make it
(R75). -/
def State.surveyBit (s : State) (t : Tag) (x : DomainId) (op : Opcode) : Bool :=
  match s.applicableRights x t with
  | none => false
  | some .rw => true
  | some .ro => op == .read

/-- A word of 16 bits, bit 0 the least significant. -/
def wordOf (bit : Nat → Bool) : BitVec 16 :=
  (List.range 16).foldl (fun w j => if bit j then w ||| (1#16 <<< j) else w) 0

/-- The word of SURVEY for one granule: its bit `j` describes domain `first + j` (R76). -/
def State.surveyRow (s : State) (t : Tag) (first : Nat) (op : Opcode) : BitVec 16 :=
  wordOf fun j => s.surveyBit t (BitVec.ofNat 10 (first + j)) op

/-- The words of the four granules of a line (R76). -/
def State.surveyLine (s : State) (line : TagLine) (first : Nat) (op : Opcode) : List (BitVec 16) :=
  [line.r0, line.r1, line.r2, line.r3].map fun r => s.surveyRow r.tag first op

/-- The transpose of a 16 by 16 matrix of bits (R76). -/
def transpose (rows : List (BitVec 16)) : List (BitVec 16) :=
  (List.range 16).map fun j => wordOf fun i => (rows.getD i 0).getLsbD j

/-- The 32 bytes of SURVEY's reply (R76, Reply bodies). -/
def surveyBytes (byDomain : Bool) (rows : List (BitVec 16)) : List Byte :=
  (if byDomain then transpose rows else rows).flatMap fun w => beBytes 2 w.toNat

/-- A query reads the line it has asked for. TAG_READ forms its reply (R16); SURVEY adds four words, and forms its reply
after the fourth line (R76). -/
def State.queryAct (q : Query) (line : TagLine) (s : State) : State :=
  match q with
  | .tagRead g => s.answer .ok ((line.get (g % 4)).carried g)
  | .survey first domain op byDomain rows =>
    let rows' := rows ++ s.surveyLine line domain op
    if 16 ≤ rows'.length then s.answer .ok (surveyBytes byDomain rows')
    else s.setCp { s.cp with executing := some (.survey first domain op byDomain rows') }

/-- The line that a query reads next (R16, R76). -/
def Query.nextLine : Query → Nat
  | .tagRead g => lineOf g
  | .survey first _ _ _ rows => lineOf (first + rows.length)

/-- The query that is being executed looks up the line it reads next, and goes on to a SURVEY's further lines as long
as they hit (log entry 33), at the moment it has read a line (DESIGN CHOICE, log entry 50). `n` bounds the lines: a
SURVEY reads four. -/
def State.queryTry : Nat → State → State
  | 0, s => s
  | n + 1, s =>
    match s.cp.executing with
    | none => s
    | some q => s.lookup .message q.nextLine (fun line s => State.queryTry n (s.queryAct q line)) id

end Sys2Proof.Machine
end

