-- ==== Sys2Proof/Machine/Engine.lean ====
section
/-! DEFINITION. The transition engine: the tags each phase reads and changes (R101 to R117), the runs it builds (R107),
and the end of a command (R108, R111, R117, R122). -/

namespace Sys2Proof.Machine

/-! ## The end of a command -/

/-- Closes the domain of a RETIRE: its share entries are freed, then its record becomes CLOSED (R49, R111). -/
def State.closeRetired (s : State) (d : DomainId) : State := (s.freeShares d).writeDomain d closedDomain

/-- Marks the store formatted at the end of a FORMAT: the header is written complete and the store state becomes
FORMATTED (R117). -/
def State.markFormatted (s : State) : State :=
  match s.mc.poolCode with
  | none => s.setMc { s.mc with storeState := .formatted }
  | some c => (s.persistHeader c true).setMc { s.mc with storeState := .formatted }

/-- What entering NOTIFY with a status does for the kind of a command (R111, R117). A cancelled command does neither. -/
def State.finishKind (s : State) (c : Command) (st : Completion) : State :=
  match c with
  | .retire d _ => if st = .cancelled then s else s.closeRetired d
  | .format _ => if st = .cancelled then s else s.markFormatted
  | _ => s

/-- A command enters NOTIFY: its status is set, the engine becomes IDLE if it holds the command, the effects of its
kind are made, and its COMPLETION notice is placed (R98, R111, R117, R122). -/
def State.notify (s : State) (t : Ticket) (st : Completion) : State :=
  match s.cmd t with
  | none => s
  | some c =>
    let s1 := s.updateCmd t fun c => { c with phase := .notify, status := some st }
    let s2 := s1.setTe { s1.te with current := s1.te.current.filter fun w => w.ticket != t }
    (s2.finishKind c.command st).placeNotice (.completion t c.command st c.doneCount c.poisonedCount)

/-- DONE, or DONE_WITH_POISON when the command has a poisoned count (R102, R108). -/
def Cmd.doneStatus (c : Cmd) : Completion := if c.poisonedCount = 0 then .done else .doneWithPoison

/-- A command enters NOTIFY with DONE or DONE_WITH_POISON. -/
def State.notifyDone (s : State) (t : Ticket) : State :=
  match s.cmd t with
  | none => s
  | some c => s.notify t c.doneStatus

/-- Adds 1 to the done count of a command (R100). -/
def State.creditDone (s : State) (t : Ticket) : State := s.updateCmd t fun c => { c with doneCount := c.doneCount + 1 }

/-- Adds 1 to the poisoned count of a command (R100). -/
def State.creditPoisoned (s : State) (t : Ticket) : State :=
  s.updateCmd t fun c => { c with poisonedCount := c.poisonedCount + 1 }

/-! ## Counts -/

/-- Adds 1 to a domain's held count (R11, R29). -/
def State.heldUp (s : State) (d : DomainId) : State := s.setDomain d { s.domain d with held := (s.domain d).held + 1 }

/-- Takes 1 from a domain's held count (R11, R29). -/
def State.heldDown (s : State) (d : DomainId) : State := s.setDomain d { s.domain d with held := (s.domain d).held - 1 }

/-- Adds 1 to an entry's refcount (R11, R43). -/
def State.refUp (s : State) (i : ShareIx) : State := s.setShare i { s.share i with refcount := (s.share i).refcount + 1 }

/-- Takes 1 from an entry's refcount (R11, R43). -/
def State.refDown (s : State) (i : ShareIx) : State :=
  s.setShare i { s.share i with refcount := (s.share i).refcount - 1 }

/-! ## The drain (R105) -/

/-- Whether an entry lies in the snapshot of a command: it is FORWARDED, and its granule lies in the range of a REVIVE,
or its tag carries the ticket of a RECLAIM or RETIRE (R105). -/
def State.inSnapshot (s : State) (c : Cmd) (e : Entry) : Bool :=
  let g := granuleOf e.lineNo
  e.stage == .forwarded &&
    match c.command with
    | .revive first count => decide (first ≤ g) && decide (g < first + count)
    | _ => decide (g < s.tenants) && ((s.tagRec g).map fun r => r.tag.ticket) == some (some c.ticket)

/-- The drain snapshot: the entries of both ports that lie in it (R105). -/
def State.takeSnapshot (s : State) (c : Cmd) : List (Port × ReqTag) :=
  ((s.portA.table.filter (s.inSnapshot c)).map fun e => (Port.a, e.tag)) ++
    ((s.portB.table.filter (s.inSnapshot c)).map fun e => (Port.b, e.tag))

/-- A command enters DRAIN with its snapshot and its timer; an empty snapshot ends the drain at once (R105, R106). -/
def State.enterDrain (s : State) (t : Ticket) : State :=
  match s.cmd t with
  | none => s
  | some c =>
    let snap := s.takeSnapshot c
    if snap.isEmpty then s.endDrain t c.command.start
    else (s.updateCmd t fun c => { c with phase := .drain }).updateWork fun w =>
      { w with snapshot := snap, timer := some s.mc.drainTimeout.toNat, cursor := c.command.start }

/-! ## VERIFY -/

/-- What VERIFY finds of one tag: it passes, it is waited for, or the command fails with a status. -/
inductive TagCheck where
  | pass
  | wait
  | fail (st : Completion)
deriving DecidableEq, Repr

/-- The check that VERIFY makes of the tag of a granule, kind by kind (R101, R103, R112, R113, R114). -/
def State.verifyTag (s : State) (w : Work) (c : Command) (g : Nat) (t : Tag) : TagCheck :=
  match c with
  | .assign _ _ _ _ wait =>
    match t with
    | .free => .pass
    | .scrubbing _ _ => if wait then .wait else .fail .notFree
    | _ => .fail .notFree
  | .reclaim _ _ owner force =>
    match t with
    | .owned o _ => if o = owner then .pass else .fail .wrongOwner
    | .shared o _ _ => if o ≠ owner then .fail .wrongOwner else if force then .pass else .fail .sharedInUse
    | _ => .fail .wrongOwner
  | .shareRange _ _ _ =>
    match t with
    | .owned o _ => if o = w.shareOwner then .pass else .fail .wrongOwner
    | .shared _ _ _ => .fail .alreadyShared
    | _ => .fail .wrongOwner
  | .unshareRange _ _ i =>
    match t with
    | .shared _ _ k => if k = i then .pass else .fail .wrongShare
    | _ => .fail .wrongShare
  | .revive _ _ =>
    match t with
    | .poisoned _ _ => if s.inRun g then .fail .notPoisoned else .pass
    | _ => .fail .notPoisoned
  | _ => .pass

/-- The working counts of a RECOUNT after a tag (R114). -/
def Work.count (w : Work) : Tag → Work
  | .owned o _ => { w with heldCounts := smapSet 0 w.heldCounts o.toNat (smapGet 0 w.heldCounts o.toNat + 1) }
  | .shared o _ i =>
    { w with heldCounts := smapSet 0 w.heldCounts o.toNat (smapGet 0 w.heldCounts o.toNat + 1)
             refCounts := smapSet 0 w.refCounts i.toNat (smapGet 0 w.refCounts i.toNat + 1) }
  | _ => w

/-- Applies working counts as the held counts of all domains and the refcounts of all IN_USE entries (R114, R193). -/
def State.applyCounts (s : State) (held refs : SMap Nat) : State :=
  (s.setDomains (smapUpdateBelow closedDomain Config.domainCount
      (fun d r => { r with held := smapGet 0 held d }) s.domains)).setShares
    (smapUpdateBelow freeEntry Config.shareCount
      (fun i e => if e.inUse then { e with refcount := smapGet 0 refs i } else e) s.shares)

/-- The end of a RECOUNT's sweep: the counts are applied, and the command completes DONE, COUNTS_STALE cleared, or
STALE_AGAIN if a lost tag was reported during the sweep (R114). -/
def State.applyRecount (s : State) (w : Work) : State :=
  let s' := s.applyCounts w.heldCounts w.refCounts
  if w.lossReported then s'.notify w.ticket .staleAgain
  else (s'.setMc { s'.mc with countsStale := false }).notify w.ticket .done

/-- A command leaves VERIFY for MARK, from the first granule of its range. -/
def State.enterMark (s : State) (t : Ticket) (start : Nat) : State :=
  (s.updateCmd t fun c => { c with phase := .mark }).updateWork fun w => { w with cursor := start }

/-- The end of VERIFY, when the last tag has passed: the checks that are made again, and the next phase (R98, R101,
R112, R113, R114). -/
def State.endVerify (s : State) (w : Work) (c : Command) : State :=
  match c with
  | .assign _ _ d _ _ =>
    if (s.domain d).state = .opened then s.enterMark w.ticket c.start else s.notify w.ticket .unknownDomain
  | .shareRange _ _ i =>
    if (s.share i).inUse ∧ (s.share i).owner = w.shareOwner then s.enterMark w.ticket c.start
    else s.notify w.ticket .wrongShare
  | .revive _ _ => s.enterDrain w.ticket
  | .recount => s.applyRecount w
  | _ => s.enterMark w.ticket c.start

/-- VERIFY reads the tag of the granule it has reached (R99). -/
def State.verifyAct (s : State) (w : Work) (c : Command) (r : TagRec) : State :=
  match s.verifyTag w c w.cursor r.tag with
  | .fail st => s.notify w.ticket st
  | .wait => s.updateWork fun w => { w with scrubWait := some w.cursor }
  | .pass =>
    let w1 := if c = .recount then w.count r.tag else w
    let w2 := { w1 with cursor := w.cursor + 1 }
    let s1 := if c = .recount then s.creditDone w.ticket else s
    let s2 := s1.updateWork fun _ => w2
    if c.stop s.tenants ≤ w.cursor + 1 then s2.endVerify w2 c else s2

/-- The first part of VERIFY: ASSIGN's domain and quota, the entry of a share command (R101, R112). -/
def State.beginVerify (s : State) (w : Work) (c : Command) : State :=
  match c with
  | .assign _ count d _ _ =>
    if (s.domain d).state ≠ .opened then s.notify w.ticket .unknownDomain
    else if (s.domain d).quota < (s.domain d).held + count then s.notify w.ticket .overQuota
    else s.updateWork fun w => { w with begun := true }
  | .shareRange _ _ i =>
    if (s.share i).inUse then s.updateWork fun w => { w with begun := true, shareOwner := (s.share i).owner }
    else s.notify w.ticket .wrongShare
  | .unshareRange _ _ i =>
    if (s.share i).inUse then s.updateWork fun w => { w with begun := true }
    else s.notify w.ticket .wrongShare
  | _ => s.updateWork fun w => { w with begun := true }

/-! ## MARK -/

/-- The record that MARK writes over a granule's record, and the counts that change with it; `none` where the record is
not in the state MARK expects, or, for RETIRE, not of its domain (R102, R104, R109, R112). -/
def markTag (t : Ticket) (c : Command) (r : TagRec) : Option (TagRec × (State → State)) :=
  match c with
  | .assign _ _ d rights _ =>
    match r.tag with
    | .free => some ({ tag := .owned d rights, generation := r.generation + 1 }, fun s => (s.heldUp d).creditDone t)
    | _ => none
  | .shareRange _ _ i =>
    match r.tag with
    | .owned o rights => some ({ r with tag := .shared o rights i }, fun s => (s.refUp i).creditDone t)
    | _ => none
  | .unshareRange _ _ i =>
    match r.tag with
    | .shared o rights k =>
      if k = i then some ({ r with tag := .owned o rights }, fun s => (s.refDown i).creditDone t) else none
    | _ => none
  | .reclaim _ _ owner _ =>
    match r.tag with
    | .owned o _ => if o = owner then some ({ r with tag := .draining o t }, fun s => s.heldDown o) else none
    | .shared o _ k =>
      if o = owner then some ({ r with tag := .draining o t }, fun s => (s.heldDown o).refDown k) else none
    | _ => none
  | .retire d _ =>
    match r.tag with
    | .owned o _ => if o = d then some ({ r with tag := .draining o t }, fun s => s.heldDown o) else none
    | .shared o _ k =>
      if o = d then some ({ r with tag := .draining o t }, fun s => (s.heldDown o).refDown k) else none
    | _ => none
  | _ => none

/-- A tag that MARK, HANDOFF or a drain timeout does not change: credited to the poisoned count of a command over a
range, and passed over by a RETIRE (R100). -/
def State.skipCredit (s : State) (t : Ticket) (c : Command) : State :=
  match c with
  | .retire _ _ => s
  | _ => s.creditPoisoned t

/-- The end of MARK: the drain of a RECLAIM or RETIRE, the completion of the other kinds (R102, R105, R112). -/
def State.endMark (s : State) (t : Ticket) (c : Command) : State :=
  match c with
  | .reclaim .. => s.enterDrain t
  | .retire .. => s.enterDrain t
  | _ => s.notifyDone t

/-- MARK goes on from a granule taken or skipped. -/
def State.markNext (s : State) (w : Work) (c : Command) : State :=
  let s' := s.updateWork fun w => { w with cursor := w.cursor + 1 }
  if c.stop s.tenants ≤ w.cursor + 1 then s'.endMark w.ticket c else s'

/-- The engine waits for its lookup, or for room in the write list. -/
def State.engineWaits (s : State) : State := s.updateWork fun w => { w with busy := true }

/-- MARK notes the granule that a RECLAIM has credited as POISONED, so that HANDOFF does not credit it again (R100). -/
def State.noteCredited (s : State) (c : Command) (g : Nat) : State :=
  match c with
  | .reclaim .. => s.updateWork fun w => { w with credited := w.credited ++ [g] }
  | _ => s

/-- MARK takes the granule it has reached (R99, R102, R104, R109, R112). -/
def State.markAct (s : State) (w : Work) (c : Command) (r : TagRec) : State :=
  match markTag w.ticket c r with
  | some (new, counts) =>
    s.change .engine w.cursor true new (fun s => (counts s).markNext w c) id State.engineWaits
  | none => ((s.skipCredit w.ticket c).noteCredited c w.cursor).markNext w c

/-! ## Drain timeout -/

/-- A drain timeout takes the granule it has reached: a tag still DRAINING with the ticket becomes POISONED with cause
DRAIN_TIMEOUT, its owner kept (R106). -/
def State.timeoutAct (s : State) (w : Work) (c : Command) (r : TagRec) : State :=
  let next := fun (s : State) =>
    let s' := s.updateWork fun w => { w with cursor := w.cursor + 1 }
    if c.stop s.tenants ≤ w.cursor + 1 then s'.notify w.ticket .drainTimeout else s'
  match r.tag with
  | .draining o t =>
    if t = w.ticket then
      s.change .engine w.cursor true { r with tag := .poisoned (some o) .drainTimeout }
        (fun s => next (s.creditPoisoned w.ticket)) id State.engineWaits
    else next s
  | _ => next s

/-! ## HANDOFF and runs -/

/-- Changes the run at the tail of the scrub list, which is the only one that can be open (R107, R127). -/
def State.updateTail (s : State) (f : Run → Run) : State :=
  match s.su.runs.getLast? with
  | none => s
  | some r => s.setSu { s.su with runs := s.su.runs.dropLast ++ [f r] }

/-- Appends an open run of count 0 at the tail of the scrub list (R107, R125). -/
def State.appendRun (s : State) (first : Nat) (t : Option Ticket) : State :=
  s.setSu { s.su with runs := s.su.runs ++ [{ first := first, count := 0, ticket := t, isOpen := true }] }

/-- The engine opens a run at the granule it has reached (R107). -/
def State.engineOpens (s : State) (w : Work) : State :=
  ((s.appendRun w.cursor (some w.ticket)).updateCmd w.ticket fun c => { c with runs := c.runs + 1 }).updateWork
    fun w => { w with runOpened := true, runOpen := true, placeWait := false }

/-- The engine opens a run, or waits for a place in a full scrub list (R107, R125). -/
def State.openRun (s : State) (w : Work) : State :=
  if s.su.runs.length < Config.runCapacity then s.engineOpens w
  else s.updateWork fun w => { w with placeWait := true }

/-- Closes the open run (R107). -/
def State.closeRun (s : State) : State :=
  (s.updateTail fun r => { r with isOpen := false }).updateWork fun w => { w with runOpen := false }

/-- The count of the open run (R107). -/
def State.tailCount (s : State) : Nat := (s.su.runs.getLast?.map Run.count).getD 0

/-- `n` granules are added to the open run, which is closed when it reaches 1,048,576 (R107). -/
def State.growRun (s : State) (n : Nat) : State :=
  let s' := s.updateTail fun r => { r with count := r.count + n }
  if Config.maxRange ≤ s'.tailCount then s'.closeRun else s'

/-- A granule is skipped while a run is open: the run is closed, or, if its count is 0, its start moves past the granule
(R107). -/
def State.skipInRun (s : State) (w : Work) : State :=
  if w.runOpen then
    if s.tailCount = 0 then s.updateTail fun r => { r with first := w.cursor + 1 } else s.closeRun
  else s

/-- The end of HANDOFF: the open run is closed, the engine becomes IDLE, and the command enters SCRUB, or NOTIFY when it
has no run outstanding (R98, R107). -/
def State.endHandoff (s : State) (t : Ticket) : State :=
  let s1 := if (s.te.current.map Work.runOpen).getD false then s.closeRun else s
  let s2 := (s1.updateCmd t fun c => { c with phase := .scrub }).setTe
    { (s1.updateCmd t fun c => { c with phase := .scrub }).te with current := none }
  match s2.cmd t with
  | some c => if c.runs = 0 then s2.notifyDone t else s2
  | none => s2

/-- HANDOFF goes on from a granule converted or skipped, or `n` granules installed. -/
def State.handoffNext (s : State) (w : Work) (c : Command) (n : Nat) : State :=
  let s' := s.updateWork fun w => { w with cursor := w.cursor + n }
  if c.stop s.tenants ≤ w.cursor + n then s'.endHandoff w.ticket else s'

/-- The record that HANDOFF writes over a granule's record; `none` where it cannot be converted (R107, R113). -/
def handoffTag (t : Ticket) (c : Command) (r : TagRec) : Option TagRec :=
  match c, r.tag with
  | .revive _ _, .poisoned o _ => some { r with tag := .scrubbing o (some t) }
  | .revive _ _, _ => none
  | _, .draining o k => if k = t then some { r with tag := .scrubbing (some o) (some t) } else none
  | _, _ => none

/-- HANDOFF credits a granule that it cannot convert, unless MARK has credited it (R100). -/
def State.creditSkipped (s : State) (w : Work) (c : Command) : State :=
  if w.credited.contains w.cursor then s else s.skipCredit w.ticket c

/-- HANDOFF takes the granule it has reached (R107, R110). -/
def State.handoffAct (s : State) (w : Work) (c : Command) (r : TagRec) : State :=
  match handoffTag w.ticket c r with
  | some new =>
    if w.runOpen then
      s.change .engine w.cursor true new (fun s => (s.growRun 1).handoffNext w c 1) id State.engineWaits
    else s.openRun w
  | none => ((s.skipInRun w).creditSkipped w c).handoffNext w c 1

/-! ## FORMAT -/

/-- The four records of a line that FORMAT installs (R117). -/
def formatLine (t : Ticket) : TagLine :=
  let r : TagRec := { tag := .scrubbing none (some t), generation := 0 }
  { r0 := r, r1 := r, r2 := r, r3 := r }

/-- A line of FORMAT has been installed: its four granules are added to the open run, and HANDOFF goes on (R117). -/
def State.installed (s : State) (w : Work) (c : Command) : State :=
  ((s.updateWork fun w => { w with busy := false }).growRun 4).handoffNext w c 4

/-- TC takes an install of the line that FORMAT has reached (R88). An install of an uncached line that is held for lack
of room reserves no fill and no way, and looks its line up afresh when it is taken (DESIGN CHOICE, log entry 39). -/
def State.install (s : State) (w : Work) (c : Command) : State :=
  let j := lineOf w.cursor
  let recs := formatLine w.ticket
  match s.tc.find j with
  | .pending =>
    (s.setTc { s.tc with
      fills := s.tc.fills.map fun f => if f.line = j then { f with install := some recs } else f }).engineWaits
  | .stall => (s.setTc { s.tc with stalled := s.tc.stalled ++ [(.engine, j)] }).engineWaits
  | .hit way _ =>
    if s.tc.hasRoom then (s.setTc ((s.tc.putValid way j recs).pushWrite j recs)).installed w c
    else (s.setTc (s.tc.hold (.install j))).engineWaits
  | .room way =>
    if s.tc.hasRoom then (s.setTc ((s.tc.putValid way j recs).pushWrite j recs)).installed w c
    else (s.setTc (s.tc.hold (.install j))).engineWaits

/-- The fixed parts that FORMAT writes: the headers, and line by line the domain records and the share records, the
tables taking their initial values in the same step (R4, R5, R116). The manual gives no order among the headers of the
other codes, nor among the lines of a table: both are in increasing order here (DESIGN CHOICE, log entry 44). -/
def State.writeFixedParts (s : State) (c : PoolCode) : State :=
  let s1 := ((s.setDomains (initialDomains (tenantGranules (some c)))).setShares []).setMc
    { s.mc with countsStale := false }
  let s2 := s1.persistHeader c false
  let s3 := ([0, 1, 2, 3, 4] : List PoolCode).foldl (fun s k => if k = c then s else s.persistHeader k false) s2
  let s4 := (List.range Config.domainLines).foldl State.persistDomainLine s3
  (List.range Config.shareLines).foldl State.persistShareLine s4

/-! ## The engine's step -/

/-- The command the engine holds, with its work (R93). -/
def State.currentCmd (s : State) : Option (Work × Cmd) := s.te.current.bind fun w => (s.cmd w.ticket).map fun c => (w, c)

/-- The engine acts on the record of the granule it has reached, as the phase of its command gives (R99). -/
def State.engineAct (line : TagLine) (s : State) : State :=
  match s.currentCmd with
  | none => s
  | some (w, c) =>
    let r := line.get (w.cursor % 4)
    match c.phase with
    | .verify => s.verifyAct w c.command r
    | .mark => s.markAct w c.command r
    | .drain => s.timeoutAct w c.command r
    | .handoff => s.handoffAct w c.command r
    | _ => s

/-- The engine takes its next granule: it looks its line up, or asks for its install (R88, R99). -/
def State.engineTry (s : State) : State :=
  match s.currentCmd with
  | none => s
  | some (w, c) =>
    match c.command with
    | .format _ => s.install w c.command
    | _ => s.lookup .engine (lineOf w.cursor) State.engineAct State.engineWaits

/-- The engine is taken again after a wait. -/
def State.engineRetry (s : State) : State := (s.updateWork fun w => { w with busy := false }).engineTry

end Sys2Proof.Machine
end

