-- ==== Sys2Proof/Machine/Scrub.lean ====
section
/-! DEFINITION. The scrubber: bursts and pacing (R127, R128, R132), the changes of scrubbed tags (R129, R130), the
removal of finished runs, and the reports to the engine (R126, R131). -/

namespace Sys2Proof.Machine

/-! ## Granules and runs -/

/-- A granule leaves the head run (R126). -/
def State.leaveRun (s : State) : State :=
  match s.su.runs with
  | [] => s
  | r :: rest => s.setSu { s.su with runs := { r with first := r.first + 1, count := r.count - 1 } :: rest }

/-- The report that a granule has left its run: the command of the run's ticket is credited, and an ASSIGN that waits
on the granule goes on (R131). -/
def State.reportGranule (s : State) (g : Nat) (t : Option Ticket) (freed : Bool) : State :=
  let s1 := match t with
    | none => s
    | some t => if freed then s.creditDone t else s.creditPoisoned t
  s1.updateWork fun w => if w.scrubWait = some g then { w with scrubWait := none } else w

/-- The change of a scrubbed granule has been taken or refused: the granule leaves its run and is reported (R126, R129,
R130, R131). -/
def State.changeDone (s : State) (g : Nat) (freed : Bool) : State :=
  let t := (s.su.runs.head?.bind Run.ticket)
  ((s.leaveRun.setSu { s.leaveRun.su with waiting := none })).reportGranule g t freed

/-- The record that the scrubber writes when a granule's 64 writes have completed (R129). -/
def scrubbedTag (failed : Bool) (owner : Option DomainId) : Tag :=
  if failed then .poisoned owner .scrubFail else .free

/-- The scrubber's change is taken against the record of its granule (R129, R130). -/
def State.scrubAct (w : WaitingChange) (line : TagLine) (s : State) : State :=
  let r := line.get (w.granule % 4)
  match r.tag with
  | .scrubbing o _ =>
    s.change .scrubber w.granule true { r with tag := scrubbedTag w.failed o }
      (fun s => s.changeDone w.granule !w.failed) id id
  | _ => s.changeDone w.granule false

/-- The scrubber issues its waiting change to TC (R129). -/
def State.scrubIssue (s : State) (w : WaitingChange) : State :=
  (s.setSu { s.su with waiting := some { w with issued := true } }).lookup .scrubber (lineOf w.granule)
    (State.scrubAct w) id

/-- The scrubber is taken again after a wait in TC. In SUSPENDED its change waits for the return (R133). -/
def State.scrubRetry (s : State) : State :=
  match s.su.waiting with
  | none => s
  | some w =>
    if s.mc.mode = .suspended then s.setSu { s.su with waiting := some { w with issued := false } }
    else s.scrubIssue w

/-- The granule whose 64 writes have completed becomes the one whose change waits, when no other change waits
(R129). -/
def Scrubber.advance (u : Scrubber) : Scrubber :=
  match u.waiting, u.write with
  | none, some w =>
    if w.completed = 64 then
      { u with write := none, waiting := some { granule := w.granule, failed := w.failed, issued := false } }
    else u
  | _, _ => u

/-- Issues the waiting change if it is not yet issued and the mode lets the scrubber run (R129, R133). -/
def State.scrubPump (s : State) : State :=
  let s' := s.setSu s.su.advance
  match s'.su.waiting with
  | some w => if w.issued ∨ s'.mc.mode = .suspended then s' else s'.scrubIssue w
  | none => s'

/-! ## Runs -/

/-- A waiting appender takes the place that a removed run leaves (R125). -/
def State.placeFreed (s : State) : State :=
  match s.te.current with
  | some w => if w.placeWait then s.engineOpens w else s
  | none =>
    match s.mc.recovery with
    | some (.walk w) =>
      if w.placeWait then
        (s.appendRun w.cursor none).setMc
          { s.mc with recovery := some (.walk { w with runOpen := true, placeWait := false }) }
      else s
    | _ => s

/-- The report that a run has been removed: the runs outstanding of its command fall by 1, and the command enters NOTIFY
when none is left and its HANDOFF has ended (R108, R131). -/
def State.reportRun (s : State) (t : Option Ticket) : State :=
  match t with
  | none => s
  | some t =>
    let s1 := s.updateCmd t fun c => { c with runs := c.runs - 1 }
    match s1.cmd t with
    | some c => if c.runs = 0 ∧ c.phase = .scrub then s1.notifyDone t else s1
    | none => s1

/-- Removes the finished runs at the head of the list: closed runs of count 0 (R126). `n` bounds the runs looked at. -/
def State.removeRuns : Nat → State → State
  | 0, s => s
  | n + 1, s =>
    match s.su.runs with
    | [] => s
    | r :: rest =>
      if !r.isOpen && r.count == 0 then
        State.removeRuns n (((s.setSu { s.su with runs := rest }).reportRun r.ticket).placeFreed)
      else s

/-! ## Bursts -/

/-- Whether the scrubber is ACTIVE by its list: the head run is closed with a granule left (R127). -/
def Scrubber.headClosed (u : Scrubber) : Bool :=
  match u.runs with
  | r :: _ => !r.isOpen && r.count != 0
  | [] => false

/-- The next granule of the head run to be written: the first one that is not the granule whose change waits (R128). -/
def Scrubber.nextGranule (u : Scrubber) : Option Nat :=
  match u.runs with
  | r :: _ =>
    let skipped := if u.waiting.isSome then 1 else 0
    if !r.isOpen && decide (skipped < r.count) then some (r.first + skipped) else none
  | [] => none

/-- The 16 lines of burst `b` of a granule (R128). -/
def burstLines (b : Nat) : List Nat := (List.range 16).map fun k => 16 * b + k

/-- Issues the next burst when its conditions hold: the pacing has expired, the writes of the previous burst have
completed, and there is a granule to write (R128). The pacing timer restarts with the interval setting (R132). -/
def Scrubber.burst (u : Scrubber) (interval : Byte) : Scrubber :=
  if u.pacing.isSome || !u.headClosed then u
  else
    match u.write with
    | some w =>
      if w.bursts < 4 ∧ w.completed = 16 * w.bursts then
        { u with write := some { w with bursts := w.bursts + 1, inFlight := burstLines w.bursts }
                 pacing := some interval }
      else u
    | none =>
      match u.nextGranule with
      | some g =>
        { u with write := some { granule := g, bursts := 1, completed := 0, inFlight := burstLines 0, failed := false }
                 pacing := some interval }
      | none => u

/-- The scrubber goes on as far as it can without an event: it issues waiting changes, removes finished runs, stops its
timer when it leaves ACTIVE, and issues a burst. In SUSPENDED it is PAUSED (R127 to R129, R133). It comes after all else
that the step's command does: a run whose last change was taken within the step is removed here, after the parties that
a fill or a freed place of the write list lets go on (R126; DESIGN CHOICE, log entry 55). -/
def State.scrubSettle (s : State) : State :=
  if s.mc.mode = .suspended then s
  else
    let s1 := s.scrubPump.scrubPump
    let s2 := State.removeRuns (Config.runCapacity + 1) s1
    let s3 := if s2.su.headClosed then s2 else s2.setSu { s2.su with pacing := none }
    s3.setSu (s3.su.burst s3.mc.scrubInterval)

end Sys2Proof.Machine
end

