-- ==== Sys2Proof/Machine/Walk.lean ====
section
/-! DEFINITION. The recovery walk over the tags, its counting passes, and the end of recovery (R52, R192 to R194). -/

namespace Sys2Proof.Machine

/-! ## The end of recovery -/

/-- Recovery ends: the mode becomes CONFIG, COUNTS_STALE is clear, the decay timer starts, and the START notice is
placed (R194). -/
def State.endRecovery (s : State) (walked lost requeued : Nat) : State :=
  (s.setMc { s.mc with mode := .config, countsStale := false, decayTimer := some s.mc.decayCode,
                       recovery := none, fixups := [] }).placeNotice
    (.start s.mc.cause s.mc.storeState walked lost requeued)

/-- The quota of a domain once its held count is rebuilt: the held count, written back, for a domain loaded from an
unsound record or made RETIRING by the walk; raised to the held count and written back where it is below it; T for
domain 0 (R38, R192, R193). The persisted record of domain 0 is not written back, whatever it holds: R38 loads domain 0
in any condition and names no write (DESIGN CHOICE, log entry 37). -/
def State.fixQuota (s : State) (n : Nat) : State :=
  let d : DomainId := BitVec.ofNat 10 n
  let r := s.domain d
  if n = 0 then s.setDomain d { r with quota := s.tenants }
  else if s.mc.fixups.contains d ∨ r.quota < r.held then s.writeDomain d { r with quota := r.held }
  else s

/-- The last pass has ended: its counts are applied, the quotas are put right, and recovery ends (R193, R194). The
manual gives no order among the records that are written back: they are taken in increasing domain number, one write of
the line for each, so that a line with two of them is written twice (DESIGN CHOICE, log entry 47). -/
def State.finishWalk (s : State) (w : Walk) : State :=
  ((List.range Config.domainCount).foldl State.fixQuota (s.applyCounts w.heldCounts w.refCounts)).endRecovery
    s.tenants w.tagsLost w.runsRequeued

/-! ## One tag -/

/-- Replaces the walk's own record. -/
def State.setWalk (s : State) (w : Walk) : State := s.setMc { s.mc with recovery := some (.walk w) }

/-- The walk counts a tag for its owner (R192). -/
def Walk.countHeld (w : Walk) (d : DomainId) : Walk :=
  { w with heldCounts := smapSet 0 w.heldCounts d.toNat (smapGet 0 w.heldCounts d.toNat + 1) }

/-- The walk counts a SHARED tag for its entry (R192). -/
def Walk.countRef (w : Walk) (i : ShareIx) : Walk :=
  { w with refCounts := smapSet 0 w.refCounts i.toNat (smapGet 0 w.refCounts i.toNat + 1) }

/-- The walk counts a tag as it stands: OWNED and SHARED for the owner, SHARED for its entry too (R192). -/
def Walk.count (w : Walk) : Tag → Walk
  | .owned o _ => w.countHeld o
  | .shared o _ i => (w.countHeld o).countRef i
  | _ => w

/-- The walk counts the records of a line, in granule order, when it has taken all of them. A tag lost in the line
before that is therefore not yet counted, as R193 says of the current line (DESIGN CHOICE, log entry 17). -/
def Walk.countLine (w : Walk) (line : TagLine) : Walk :=
  [line.r0, line.r1, line.r2, line.r3].foldl (fun w r => w.count r.tag) w

/-- An owner that the table loaded as CLOSED is made RETIRING, its quota to be set from its held count (R192). -/
def State.ownerFound (s : State) (d : DomainId) : State :=
  if (s.domain d).state = .closed then
    (s.setDomain d { s.domain d with state := .retiring, score := 0, latch := false }).setMc
      { s.mc with fixups := s.mc.fixups ++ [d] }
  else s

/-- The run at the tail of the scrub list is closed by the walk; it counts as requeued when it holds a granule
(R192). -/
def State.walkCloses (s : State) (w : Walk) : State :=
  if w.runOpen then
    (s.updateTail fun r => { r with isOpen := false }).setWalk
      { w with runOpen := false, runsRequeued := w.runsRequeued + if s.tailCount = 0 then 0 else 1 }
  else s

/-- The walk as the state holds it; a walk that has not begun where there is none. -/
def State.walk (s : State) : Walk :=
  match s.mc.recovery with
  | some (.walk w) => w
  | _ => { cursor := 0, busy := false, placeWait := false, runOpen := false, counting := false, heldCounts := [],
           refCounts := [], recountMark := false, tagsLost := 0, runsRequeued := 0 }

/-- The walk goes on to the next granule. -/
def State.walkNext (s : State) : State := s.setWalk { s.walk with cursor := s.walk.cursor + 1 }

/-- The walk waits for its lookup or for room in the write list. -/
def State.walkWaits (s : State) : State := s.setWalk { s.walk with busy := true }

/-- The walk adds the granule it has rewritten to its open run, which is closed at 1,048,576 granules (R192). -/
def State.requeued (s : State) : State :=
  let s' := s.updateTail fun r => { r with count := r.count + 1 }
  if Config.maxRange ≤ s'.tailCount then s'.walkCloses s'.walk else s'

/-- The walk takes a tag to be requeued: it opens a run where none is open, waiting for a place in a full list, and
rewrites the tag SCRUBBING with no ticket (R192). The record as it then stands is given, or none where the walk
waits. -/
def State.requeue (s : State) (g : Nat) (r : TagRec) (owner : Option DomainId) : State × Option TagRec :=
  let opened := fun (s : State) => (s.appendRun g none).setWalk { s.walk with runOpen := true }
  if !s.walk.runOpen && decide (Config.runCapacity ≤ s.su.runs.length) then
    (s.setWalk { s.walk with placeWait := true }, none)
  else
    let s1 := if s.walk.runOpen then s else opened s
    let new : TagRec := { r with tag := .scrubbing owner none }
    if s1.tc.hasRoom then ((s1.putTag g new).requeued.walkNext, some new)
    else ((s1.setTc (s1.tc.hold (.change .walk (lineOf g)))).walkWaits, none)

/-- The walk treats the tag of one granule (R192); a counting pass treats none (R193). The record as it then stands is
given, or none where the walk waits. -/
def State.walkTag (s : State) (g : Nat) (r : TagRec) : State × Option TagRec :=
  if s.walk.counting then (s.walkNext, some r)
  else
    match r.tag with
    | .owned o _ => (((s.walkCloses s.walk).ownerFound o).walkNext, some r)
    | .shared o rights i =>
      let s1 := (s.walkCloses s.walk).ownerFound o
      if (s1.share i).inUse ∧ (s1.share i).owner = o then (s1.walkNext, some r)
      else if s1.tc.hasRoom then
        let new : TagRec := { r with tag := .owned o rights }
        ((s1.putTag g new).walkNext, some new)
      else ((s1.setTc (s1.tc.hold (.change .walk (lineOf g)))).walkWaits, none)
    | .draining o _ => s.requeue g r (some o)
    | .scrubbing o _ => s.requeue g r o
    | _ => ((s.walkCloses s.walk).walkNext, some r)

/-- A pass of the walk has visited every tenant tag (R192, R193): the open run is closed; with the recount mark set a
counting pass begins from line 0, and otherwise recovery ends. -/
def State.endPass (s : State) : State :=
  let s1 := s.walkCloses s.walk
  let w := s1.walk
  if w.recountMark then
    s1.setWalk { w with recountMark := false, cursor := 0, counting := true, heldCounts := [], refCounts := [] }
  else s1.finishWalk w

/-- The walk has taken every granule of a line: it counts the line, and the pass ends with the last one (R192, R193). -/
def State.lineDone (s : State) (line : TagLine) : State :=
  let s1 := s.setWalk (s.walk.countLine line)
  if s1.tenants ≤ s1.walk.cursor then s1.endPass else s1

/-- The walk takes the granules of a line in increasing order, from the one it has reached (R192). -/
def State.walkGranules (line : TagLine) : List Nat → State → State
  | [], s => s.lineDone line
  | g :: gs, s =>
    match s.walkTag g (line.get (g % 4)) with
    | (s', some r) => State.walkGranules (line.set (g % 4) r) gs s'
    | (s', none) => s'

/-- The granules of a line from one of them on. -/
def restOfLine (g : Nat) : List Nat := (List.range (4 - g % 4)).map fun k => g + k

/-- The walk acts on the line it has reached. -/
def State.walkAct (line : TagLine) (s : State) : State := State.walkGranules line (restOfLine s.walk.cursor) s

/-- The walk looks its next line up in TC (R192). -/
def State.walkTry (s : State) : State :=
  s.lookup .walk (lineOf s.walk.cursor) State.walkAct State.walkWaits

/-- The walk is taken again after a wait. -/
def State.walkRetry (s : State) : State := (s.setWalk { s.walk with busy := false }).walkTry

end Sys2Proof.Machine
end

