-- ==== Sys2Proof/Machine/Fill.lean ====
section
/-! DEFINITION. What the tag cache does when MI completes a fill or a write-through: the check of the line, the report
of lost tags, the parties that wait, and the stalled list (R80, R82 to R84, R86 to R88). -/

namespace Sys2Proof.Machine

/-! ## The parties that wait -/

/-- A party that waited in TC is taken again: it looks its line up afresh and acts on a hit (R80, R84, R86). -/
def State.retake (s : State) (party : Party) : State :=
  match party with
  | .request p t => s.retakeRequest p t
  | .message => State.queryTry 4 s
  | .engine => s.engineRetry
  | .scrubber => s.scrubRetry
  | .walk =>
    match s.mc.recovery with
    | some (.walk _) => s.walkRetry
    | _ => s

/-- Whether a stalled party can be taken now: its line is VALID or PENDING, or a fill and a way are free for it
(R80). -/
def TagCache.canTake (tc : TagCache) (j : Nat) : Bool :=
  match tc.find j with
  | .stall => false
  | _ => true

/-- One stalled party is looked at: it leaves the list and is taken, or stays in its place (R80). -/
def State.stalledOne (s : State) (x : Party × Nat) : State :=
  if s.tc.stalled.contains x && s.tc.canTake x.2 then
    (s.setTc { s.tc with stalled := s.tc.stalled.erase x }).retake x.1
  else s

/-- The stalled parties are taken again, each looked at once, oldest first (R80). -/
def State.stalledPass (s : State) : State := s.tc.stalled.foldl State.stalledOne s

/-! ## Lost tags -/

/-- The granule of a place of a tag line (R7). -/
def granuleAt (j i : Nat) : Nat := 4 * j + i

/-- The loss is reported to TE: a RECOUNT whose sweep has begun is to complete STALE_AGAIN (R83, R114). -/
def State.reportLoss (s : State) : State :=
  match s.currentCmd with
  | some (_, c) => if c.command = .recount then s.updateWork fun w => { w with lossReported := true } else s
  | none => s

/-- The report of a fill's lost tags outside RECOVERING, in the order of R83. -/
def State.reportLost (s : State) (j : Nat) (origin : Option Port) (lost : List Nat) : State :=
  let s1 := (s.setMc { s.mc with countsStale := true }).reportLoss
  let s2 := lost.foldl (fun s i => s.logRecord (.tagLost origin (granuleAt j i))) s1
  s2.setFlag .tagLost

/-- The report of a fill's lost tags in RECOVERING: MC counts them, and marks a loss in a line below the walk's current
line for a counting pass (R83, R193). -/
def State.countLost (s : State) (j : Nat) (lost : List Nat) : State :=
  match s.mc.recovery with
  | some (.walk w) =>
    s.setWalk { w with tagsLost := w.tagsLost + lost.length
                       recountMark := w.recountMark || decide (j < lineOf w.cursor) }
  | _ => s

/-- The lost tags of a fill are reported as the mode gives (R83). -/
def State.lostTags (s : State) (j : Nat) (origin : Option Port) (lost : List Nat) : State :=
  if lost.isEmpty then s
  else if s.mc.mode = .recovering then s.countLost j lost
  else s.reportLost j origin lost

/-! ## Completing a fill -/

/-- The records of a line as its read brought them: `none` in the place of each unsound one (R9, R82). -/
def Dram.readTags (d : Dram) (c : PoolCode) (j : Nat) (r : ReadOutcome) : List (Option TagRec) :=
  (List.range 4).map fun i => (d.record (tagLineAddress c j + 16 * i) 16 r).bind TagRec.ofStored

/-- The four records, an unsound one rewritten as lost (R9, R82). -/
def checkedLine (read : List (Option TagRec)) : TagLine :=
  let rec_ (i : Nat) : TagRec := ((read.getD i none).getD lostRecord)
  { r0 := rec_ 0, r1 := rec_ 1, r2 := rec_ 2, r3 := rec_ 3 }

/-- The places of the unsound records (R82). -/
def lostPlaces (read : List (Option TagRec)) : List Nat := (List.range 4).filter fun i => (read.getD i none).isNone

/-- The fill of a line. -/
def TagCache.fill (tc : TagCache) (j : Nat) : Option Fill := tc.fills.find? fun f => f.line == j

/-- The rest of a fill's completion: the way becomes VALID, the fill leaves the miss list, a line with rewritten
records goes to the write list, the lost tags are reported, and the parties attached and then the stalled ones are
taken (R82 to R84, R88). A SURVEY that is taken looks its next line up at once, before the parties that are still to be
taken, and the scrubber looks its next change up after all of them (DESIGN CHOICE, log entry 50). A request taken after the change of a
REVIVE to a record that the fill has rewritten is decided against the changed record (DESIGN CHOICE, log entry 57). -/
def State.finishFill (s : State) (f : Fill) (recs : TagLine) (write : Bool) (lost : List Nat) : State :=
  let tc1 := { s.tc.putValid f.way f.line recs with fills := s.tc.fills.filter fun x => x.line != f.line }
  let tc2 := if write then tc1.pushWrite f.line recs else tc1
  let s1 := (s.setTc tc2).lostTags f.line f.origin lost
  let s2 := match f.install, s1.currentCmd with
    | some _, some (w, c) => s1.installed w c.command
    | _, _ => s1
  (f.parties.foldl State.retake s2).stalledPass

/-- A fill whose records are known is completed, or held while the write list has no room for its write-back (R82,
R88). Installed records take the place of those read. -/
def State.completeFill (s : State) (f : Fill) (read : TagLine) (lost : List Nat) : State :=
  let recs := f.install.getD read
  let write := f.install.isSome || !lost.isEmpty
  let lost' := if f.install.isSome then [] else lost
  if !write || s.tc.hasRoom then s.finishFill f recs write lost'
  else s.setTc (s.tc.hold (.fill f.line read lost))

/-- Whether the completion of a line's fill is held for lack of room (R82). -/
def TagCache.fillHeld (tc : TagCache) (j : Nat) : Bool :=
  tc.held.any fun h => match h with
    | .fill k _ _ => k == j
    | _ => false

/-- Something that waited for room in the write list is taken (R87). -/
def State.takeHeld (s : State) (h : Held) : State :=
  match h with
  | .change party _ => s.retake party
  | .install _ => s.engineRetry
  | .fill j read lost =>
    match s.tc.fill j with
    | some f => s.completeFill f read lost
    | none => s

/-- The oldest of those that wait for room is taken, if any (R87). -/
def State.takeOldestHeld (s : State) : State :=
  match s.tc.held with
  | [] => s
  | h :: rest => (s.setTc { s.tc with held := rest }).takeHeld h

/-! ## Settling -/

/-- What follows in the same step from the changes a command has made: the scrubber goes on, a pending change to
SUSPENDED takes effect, and idle channels enter self-refresh (R128, R184). Where one step both closes the head run and
meets the conditions of SUSPENDED, the run's first burst is issued before the scrubber is PAUSED: the manual gives no
order within the step (R127, R133; DESIGN CHOICE, log entry 40). -/
def State.settle (s : State) : State := s.scrubSettle.settleMode

end Sys2Proof.Machine
end

