-- ==== Sys2Proof/Machine/Commands.lean ====
section
/-! DEFINITION. The messages of the transition engine: acceptance of the eight ticketed commands (R94 to R97, R110),
CANCEL (R118, R119) and TICKET_STATUS (R120). -/

namespace Sys2Proof.Machine

/-! ## Tickets and slots -/

/-- The ticket after one: 65,535 is followed by 1 (R94). -/
def nextTicket (t : Ticket) : Ticket := if t = 0xFFFF#16 then 1 else t + 1

/-- The first ticket from `t` on that no live command holds (R94). `n` bounds the tickets looked at; 16 live commands
can make it pass over 16. -/
def Engine.freeTicket (e : Engine) : Nat → Ticket → Ticket
  | 0, t => t
  | n + 1, t => if e.table.any fun c => c.ticket == t then e.freeTicket n (nextTicket t) else t

/-- The ticket that the next accepted command takes (R94). -/
def Engine.nextFree (e : Engine) : Ticket := e.freeTicket Config.tableCapacity e.counter

/-- The record of a command at its acceptance (R95). -/
def newCmd (t : Ticket) (c : Command) : Cmd :=
  { ticket := t, command := c, phase := .queued, doneCount := 0, poisonedCount := 0, runs := 0, status := none }

/-- A command takes a slot and a ticket, and the counter advances from the ticket taken (R94, R95). -/
def State.takeSlot (s : State) (c : Command) : State :=
  let t := s.te.nextFree
  s.setTe { s.te with table := s.te.table ++ [newCmd t c], counter := nextTicket t }

/-! ## Acceptance -/

/-- The changes that acceptance makes for RETIRE and FORMAT (R97, R110): the domain becomes RETIRING, if it was not
already, and its persisted record is written (R37). -/
def State.acceptKind (s : State) (c : Command) : State :=
  match c with
  | .retire d _ => s.writeDomain d { s.domain d with state := .retiring }
  | .format _ => s.setMc { s.mc with storeState := .formatting }
  | _ => s

/-- A command that has passed its checks is accepted, and answered ACCEPTED with its ticket (R95). -/
def State.accept (s : State) (c : Command) : State :=
  ((s.takeSlot c).acceptKind c).answer .accepted (beBytes 2 s.te.nextFree.toNat)

/-- Orders 3 to 6 of R95 after the kind's own check has given the command or a refusal. -/
def State.acceptOrRefuse (s : State) (checked : Except Status Command) : State :=
  if s.mc.pendingTarget = some .config then s.answer .wrongMode []
  else
    match checked with
    | .error st => s.answer st []
    | .ok c => if Config.tableCapacity ≤ s.te.table.length then s.answer .busy [] else s.accept c

/-- The acceptance of a ticketed command other than FORMAT (R95): the mode, the store, and the rest. -/
def State.acceptance (s : State) (checked : Except Status Command) : State :=
  if s.mc.mode = .recovering then s.answer .wrongMode []
  else if s.mc.storeState ≠ .formatted then s.answer .notFormatted []
  else s.acceptOrRefuse checked

/-- The check of a range (R96). -/
def State.checkRange (s : State) (first count : Nat) (c : Except Status Command) : Except Status Command :=
  if rangeValid s.mc.poolCode first count then c else .error .badRange

/-- ASSIGN's own checks (R96). -/
def State.checkAssign (s : State) (f : List Byte) : Except Status Command :=
  match domainParam (param16 f 8), rightsOf (param8 f 10) with
  | some d, some r =>
    s.checkRange (param32 f 0) (param32 f 4)
      (if (s.domain d).state = .opened then
        .ok (.assign (param32 f 0) (param32 f 4) d r ((param8 f 11).getLsbD 0))
      else .error .unknownDomain)
  | _, _ => .error .badValue

/-- RECLAIM's own checks (R96). -/
def State.checkReclaim (s : State) (f : List Byte) : Except Status Command :=
  match domainParam (param16 f 8) with
  | some d =>
    s.checkRange (param32 f 0) (param32 f 4)
      (if (s.domain d).state = .closed then .error .unknownDomain
      else .ok (.reclaim (param32 f 0) (param32 f 4) d ((param8 f 10).getLsbD 0)))
  | none => .error .badValue

/-- The own checks of SHARE_RANGE and UNSHARE_RANGE (R96). -/
def State.checkShare (s : State) (f : List Byte) (make : Nat → Nat → ShareIx → Command) : Except Status Command :=
  match shareParam (param16 f 8) with
  | some i =>
    s.checkRange (param32 f 0) (param32 f 4)
      (if (s.share i).inUse then .ok (make (param32 f 0) (param32 f 4) i) else .error .badValue)
  | none => .error .badValue

/-- Whether a live RETIRE names a domain (R96). -/
def State.retireLive (s : State) (d : DomainId) : Bool :=
  s.te.table.any fun c => match c.command with
    | .retire e _ => e == d
    | _ => false

/-- RETIRE's own checks (R96). -/
def State.checkRetire (s : State) (f : List Byte) : Except Status Command :=
  match domainParam (param16 f 0) with
  | some d =>
    if d = 0 then .error .badValue
    else
      match (s.domain d).state with
      | .closed => .error .unknownDomain
      | .opened => .ok (.retire d true)
      | .retiring => if s.retireLive d then .error .busy else .ok (.retire d false)
  | none => .error .badValue

/-- ASSIGN (R95, R96). -/
def execAssign (s : State) : Host.Outcome State Fault Refusal :=
  s.onMessage 0x10 fun f => s.acceptance (s.checkAssign f)

/-- RECLAIM (R95, R96). -/
def execReclaim (s : State) : Host.Outcome State Fault Refusal :=
  s.onMessage 0x11 fun f => s.acceptance (s.checkReclaim f)

/-- SHARE_RANGE (R95, R96). -/
def execShareRange (s : State) : Host.Outcome State Fault Refusal :=
  s.onMessage 0x12 fun f => s.acceptance (s.checkShare f .shareRange)

/-- UNSHARE_RANGE (R95, R96). -/
def execUnshareRange (s : State) : Host.Outcome State Fault Refusal :=
  s.onMessage 0x13 fun f => s.acceptance (s.checkShare f .unshareRange)

/-- RETIRE (R37, R96, R110). -/
def execRetire (s : State) : Host.Outcome State Fault Refusal :=
  s.onMessage 0x14 fun f => s.acceptance (s.checkRetire f)

/-- RECOUNT (R95). -/
def execRecount (s : State) : Host.Outcome State Fault Refusal :=
  s.onMessage 0x15 fun _ => s.acceptance (.ok .recount)

/-- REVIVE (R95, R96). -/
def execRevive (s : State) : Host.Outcome State Fault Refusal :=
  s.onMessage 0x16 fun f =>
    s.acceptance (s.checkRange (param32 f 0) (param32 f 4) (.ok (.revive (param32 f 0) (param32 f 4))))

/-- FORMAT, with its own conditions at order 2 (R95, R97). -/
def execFormat (s : State) : Host.Outcome State Fault Refusal :=
  s.onMessage 0x17 fun _ =>
    if s.mc.mode ≠ .config then s.answer .wrongMode []
    else if s.mc.poolCode = none then s.answer .badValue []
    else if s.te.table ≠ [] then s.answer .busy []
    else s.acceptOrRefuse (.ok (.format s.mc.storeState))

/-! ## CANCEL and TICKET_STATUS -/

/-- Cancelling undoes what acceptance did (R119). -/
def State.undoAcceptance (s : State) (c : Command) : State :=
  match c with
  | .retire d true => s.writeDomain d { s.domain d with state := .opened }
  | .format kept => s.setMc { s.mc with storeState := kept }
  | _ => s

/-- A command in QUEUED or VERIFY is cancelled: its counts are 0, the engine waits for nothing more of it, and it enters
NOTIFY with status CANCELLED (R118, R119). -/
def State.cancelCommand (s : State) (c : Cmd) : State :=
  let s1 := s.updateCmd c.ticket fun c => { c with doneCount := 0, poisonedCount := 0 }
  let s2 := if c.phase = .verify then s1.setTc (s1.tc.dropParty .engine) else s1
  (s2.undoAcceptance c.command).notify c.ticket .cancelled

/-- CANCEL (R118). Where it lets a pending SUSPENDED take effect, the EVENT notice of MODE_CHANGED is placed after the
reply: the manual lets it come before or after (R166, R177; DESIGN CHOICE, log entry 43). -/
def execCancel (s : State) : Host.Outcome State Fault Refusal :=
  s.onMessage 0x18 fun f =>
    let t : Ticket := BitVec.ofNat 16 (param16 f 0)
    if s.mc.mode = .recovering then s.answer .wrongMode []
    else if t = 0 then s.answer .badValue []
    else
      match s.cmd t with
      | none => s.answer .noTicket []
      | some c =>
        if c.phase = .queued ∨ c.phase = .verify then ((s.cancelCommand c).answer .ok []).settleMode
        else s.answer .tooLate []

/-- The results of a TICKET_STATUS reply (R120, Reply bodies). -/
def Cmd.statusBytes (c : Cmd) : List Byte :=
  [c.command.code, c.phase.code] ++ beBytes 4 c.doneCount ++ beBytes 4 c.poisonedCount ++
    [BitVec.ofNat 8 c.runs, (c.status.map Completion.code).getD 0xFF]

/-- TICKET_STATUS (R120). A ticket of 0 is held by no live command. -/
def execTicketStatus (s : State) : Host.Outcome State Fault Refusal :=
  s.onMessage 0x19 fun f =>
    if s.mc.mode = .recovering then s.answer .wrongMode []
    else
      match s.cmd (BitVec.ofNat 16 (param16 f 0)) with
      | none => s.answer .noTicket []
      | some c => s.answer .ok c.statusBytes

end Sys2Proof.Machine
end

