-- ==== Sys2Proof/Machine/Resets.lean ====
section
/-! DEFINITION. The three kinds of reset (R14, R53, R92, R124, R135 to R137, R169, R180, R189 to R191) and the reads
with which recovery begins (R38, R51, R191). -/

namespace Sys2Proof.Machine

/-- MC's values while a reset is in effect (R187, R189). The mode is the one the part has when the reset
ends. -/
def resetMode (mode : Mode) (cause : ResetCause) (low : Bool) : ModeController :=
  { mode := mode, pendingTarget := none, suspendOrigin := none, storeState := .unformatted, poolCode := none,
    countsStale := false, scrubInterval := 3, decayCode := 24, drainTimeout := 20, timestamp := 0,
    decayTimer := none, recovery := none, fixups := [], cause := cause,
    inReset := some cause, resetLow := low }

/-- Every block takes its reset values; DRAM keeps what MI has stored, and MI's operations complete into nothing
(R189). -/
def State.resetBlocks (s : State) (mc : ModeController) : State :=
  { dram := { s.dram with persist := [], selfRefresh := [] }
    tc := resetCache, domains := initialDomains 0, shares := [], te := resetEngine, su := resetScrubber,
    vl := resetLog, eu := resetEvents, mc := mc, cp := resetControl, portA := resetPort, portB := resetPort,
    pending := s.pending }

/-- A power-on reset takes effect: DRAM's contents are not trusted (R14, R189). -/
def State.powerOn (s : State) : State :=
  let s1 := s.resetBlocks (resetMode .config .powerOn s.mc.resetLow)
  s1.setDram { s1.dram with mem := [], badUnits := [] }

/-- A power-on reset ends: the decay timer starts and the START notice is placed (R190). -/
def State.powerOnEnds (s : State) : State :=
  (s.setMc { s.mc with inReset := none, decayTimer := some s.mc.decayCode }).placeNotice
    (.start .powerOn .unformatted 0 0 0)

/-- A warm reset takes effect (R189). -/
def State.warmReset (s : State) (cause : ResetCause) (low : Bool) : State :=
  s.resetBlocks (resetMode .recovering cause low)

/-- A warm reset ends: recovery begins with the header read of pool size code 4 (R191). -/
def State.warmResetEnds (s : State) : State :=
  s.setMc { s.mc with inReset := none, recovery := some (.header 4) }

/-- The next pool size code whose header line is read (R191). -/
def nextCode (c : PoolCode) : Option PoolCode := if c = 0 then none else some (c - 1)

/-- Power is applied (POWER_ON, R189). -/
def execPowerOn (s : State) : Host.Outcome State Fault Refusal := .next s.powerOn

/-- Supplies and clock are stable and RESET_N is high (POWER_ON_END, R190). -/
def execPowerOnEnd (s : State) : Host.Outcome State Fault Refusal :=
  .next (if s.mc.inReset = some .powerOn ∧ s.mc.resetLow = false then s.powerOnEnds else s)

/-- RESET_N goes low (RESET_LINE, R189). A power-on reset that has not ended keeps its cause. -/
def execResetLine (s : State) : Host.Outcome State Fault Refusal :=
  .next <|
    if s.mc.resetLow then s
    else if s.mc.inReset = some .powerOn then s.setMc { s.mc with resetLow := true }
    else s.warmReset .resetLine true

/-- RESET_N goes high (RESET_LINE_END, R191). -/
def execResetLineEnd (s : State) : Host.Outcome State Fault Refusal :=
  .next <|
    if s.mc.resetLow then
      let s1 := s.setMc { s.mc with resetLow := false }
      if s.mc.inReset = some .resetLine then s1.warmResetEnds else s1
    else s

/-- The read of the store header for a pool size code completes: the first valid header is taken (R1, R191). After a
warm reset that cuts a FORMAT short this gives the outcome of R124's table, but where an earlier FORMAT's complete
header is still in DRAM; there R191 is followed (DESIGN CHOICE, log entry 14). With no valid header no walk is made, so
that the granules that a FORMAT has left SCRUBBING are not requeued (R191 against a row of R124; DESIGN CHOICE, log
entry 53). -/
def State.headerRead (s : State) (c : PoolCode) (r : ReadOutcome) : State :=
  let s1 := s.setDram (s.dram.decay (headerAddress c) r)
  if ((s1.dram.record (headerAddress c) 64 r).map (headerValidFor c)).getD false then
    s1.setMc { s1.mc with poolCode := some c, storeState := .formatted, recovery := some (.domains 0) }
  else
    match nextCode c with
    | some c' => s1.setMc { s1.mc with recovery := some (.header c') }
    | none => s1.endRecovery 0 0 0

/-- The record of a domain as its persisted record loads it (R38). A sound record of state CLOSED with a quota above 0
or the latch set, or of any state with a quota above T, is one that R18 excludes and R38 does not: it is loaded as R38
says, with the quota and the latch that it holds (DESIGN CHOICE, log entry 51). -/
def loadedDomain (p : Option PersistedDomain) : DomainRec :=
  match p with
  | some p => { state := p.state, quota := p.quota, held := 0, score := if p.latch then 256 else 0, latch := p.latch }
  | none => { state := .retiring, quota := 0, held := 0, score := 0, latch := false }

/-- The on-chip record of domain `n` is loaded from its persisted record as the read of its line found it (R38). Where
the write of a RETIRE's acceptance was lost at the reset, that record is the older one, and the domain comes back OPEN
(R22 and R38 against R124; DESIGN CHOICE, log entry 54). -/
def State.loadDomain (c : PoolCode) (r : ReadOutcome) (s : State) (n : Nat) : State :=
  let d : DomainId := BitVec.ofNat 10 n
  if n = 0 then
    s.setDomain d { state := .opened, quota := s.tenants, held := 0, score := 0, latch := false }
  else
    let p := (s.dram.record (domainAddress c n) 32 r).bind (PersistedDomain.ofStored n)
    let s1 := s.setDomain d (loadedDomain p)
    if p.isNone then s1.setMc { s1.mc with fixups := s1.mc.fixups ++ [d] } else s1

/-- The read of line `k` of the persisted domain records completes, and its two on-chip records are loaded (R38,
R191). -/
def State.domainRead (s : State) (c : PoolCode) (k : Nat) (r : ReadOutcome) : State :=
  let s1 := s.setDram (s.dram.decay (domainLineAddress c k) r)
  let s2 := s1.setMc { s1.mc with
    recovery := some (if k + 1 < Config.domainLines then .domains (k + 1) else .shares 0) }
  [2 * k, 2 * k + 1].foldl (State.loadDomain c r) s2

/-- The walk as it begins (R192, R193). -/
def newWalk : Walk :=
  { cursor := 0, busy := false, placeWait := false, runOpen := false, counting := false, heldCounts := [],
    refCounts := [], recountMark := false, tagsLost := 0, runsRequeued := 0 }

/-- The entry that the persisted record of share entry `n` gives, as the read of its line found it: `none` where it is
not sound or its owner is CLOSED (R51). -/
def State.loadedShare (s : State) (c : PoolCode) (r : ReadOutcome) (n : Nat) : Option ShareEntry :=
  ((s.dram.record (shareAddress c n) 16 r).bind (ShareEntry.ofStored n)).filter fun e =>
    !(e.inUse && (s.domain e.owner).state == .closed)

/-- The on-chip entry `n` is loaded, as FREE where its persisted record cannot stand (R51). -/
def State.loadShare (c : PoolCode) (r : ReadOutcome) (s : State) (n : Nat) : State :=
  s.setShare (BitVec.ofNat 8 n) ((s.loadedShare c r n).getD freeEntry)

/-- The read of line `k` of the persisted share records completes: its four on-chip entries are loaded, and where any of
the records cannot stand the line is written back, with a FREE record in each such place (R51, R191; log entry 10). -/
def State.shareRead (s : State) (c : PoolCode) (k : Nat) (r : ReadOutcome) : State :=
  let s1 := s.setDram (s.dram.decay (shareLineAddress c k) r)
  let s2 := s1.setMc { s1.mc with
    recovery := some (if k + 1 < Config.shareLines then .shares (k + 1) else .walk newWalk) }
  let ns := [4 * k, 4 * k + 1, 4 * k + 2, 4 * k + 3]
  let s3 := ns.foldl (State.loadShare c r) s2
  if ns.any fun n => (s2.loadedShare c r n).isNone then s3.persistShareLine k else s3

/-- A store header read completes (HEADER_READ_COMPLETE, R191). -/
def execHeaderReadComplete (read : ReadOutcome) (s : State) : Host.Outcome State Fault Refusal :=
  s.onEvent fun s =>
    match s.mc.recovery with
    | some (.header c) => if read.fits 64 then s.headerRead c read else s
    | _ => s

/-- A read of a line of persisted domain records completes (DOMAIN_RECORD_READ, R38, R191). -/
def execDomainRecordRead (read : ReadOutcome) (s : State) : Host.Outcome State Fault Refusal :=
  s.onEvent fun s =>
    match s.mc.recovery, s.mc.poolCode with
    | some (.domains n), some c => if read.fits 64 then s.domainRead c n read else s
    | _, _ => s

/-- A read of a line of persisted share records completes (SHARE_RECORD_READ, R51, R191). -/
def execShareRecordRead (read : ReadOutcome) (s : State) : Host.Outcome State Fault Refusal :=
  s.onEvent fun s =>
    match s.mc.recovery, s.mc.poolCode with
    | some (.shares n), some c => if read.fits 64 then s.shareRead c n read else s
    | _, _ => s

/-- The recovery walk takes its next tag line (WALK_STEP, R192). -/
def execWalkStep (s : State) : Host.Outcome State Fault Refusal :=
  s.onEvent fun s =>
    match s.mc.recovery with
    | some (.walk w) => if w.busy ∨ w.placeWait then s else s.walkTry.settle
    | _ => s

end Sys2Proof.Machine
end

