-- ==== Sys2Proof/Machine/Control.lean ====
section
/-! DEFINITION. The control link: receiving frames (R170 to R173), unknown kinds (R174), and frames leaving the link
(R176, R177, R179). -/

namespace Sys2Proof.Machine

/-- Adds 1 to the frame error count, which stops at 65,535 (R171). -/
def ControlPort.countError (cp : ControlPort) : ControlPort :=
  { cp with frameErrors := satInc Config.max16 cp.frameErrors }

/-- The places of the reply list that are taken or reserved (R174, R177). -/
def ControlPort.placesUsed (cp : ControlPort) : Nat := cp.replies.length + if cp.executing.isSome then 1 else 0

/-- A complete frame is offered to the inbound queue: it joins the tail, or is answered OVERRUN, or, with no free place
in the reply list, is dropped and counted (R173). -/
def State.offerFrame (s : State) (body : List Byte) : State :=
  if s.cp.inbound.length < Config.inboundCapacity then s.setCp { s.cp with inbound := s.cp.inbound ++ [body] }
  else if s.cp.placesUsed < Config.replyCapacity then
    s.placeReply { kind := replyKind (kindOf body), seq := seqOf body, status := .overrun, results := [] }
  else s.setCp s.cp.countError

/-- Puts the receiver in a state. -/
def State.setReceiver (s : State) (r : Receiver) : State := s.setCp { s.cp with receiver := r }

/-- A frame ends with its second CHECK byte: it is offered where the check matches, and discarded and counted where it
does not (R171). -/
def State.endFrame (s : State) (body : List Byte) (high low : Byte) : State :=
  let s1 := s.setReceiver .hunt
  if crcBytes (BitVec.ofNat 8 body.length :: body) = [high, low] then s1.offerFrame body
  else s1.setCp s1.cp.countError

/-- The receiver takes one byte (R170). -/
def State.takeByte (s : State) (b : Byte) : State :=
  match s.cp.receiver with
  | .hunt => if b = 0xA5 then s.setReceiver .length else s
  | .length =>
    if 3 ≤ b.toNat ∧ b.toNat ≤ 250 then s.setReceiver (.body b.toNat [])
    else (s.setReceiver .hunt).setCp (s.setReceiver .hunt).cp.countError
  | .body len got =>
    if len ≤ got.length + 1 then s.setReceiver (.check (got ++ [b]) none) else s.setReceiver (.body len (got ++ [b]))
  | .check body none => s.setReceiver (.check body (some b))
  | .check body (some high) => s.endFrame body high b

/-- The receiver takes bytes in the order in which they arrive. -/
def State.takeBytes (s : State) (bytes : List Byte) : State := bytes.foldl State.takeByte s

/-- Bytes arrive on CL_RXD (CONTROL_FRAME, R170, R171). -/
def execControlFrame (bytes : List Byte) (s : State) : Host.Outcome State Fault Refusal :=
  s.onEvent fun s => s.takeBytes bytes

/-- The gap timer expires: the frame is abandoned and counted (GAP_TIMEOUT, R172). In HUNT the timer does not run. -/
def execGapTimeout (s : State) : Host.Outcome State Fault Refusal :=
  s.onEvent fun s =>
    match s.cp.receiver with
    | .hunt => s
    | _ => (s.setReceiver .hunt).setCp (s.setReceiver .hunt).cp.countError

/-- The dispatcher executes a frame of unknown KIND: BAD_KIND, with reply kind 0xFF (BAD_KIND, R174). -/
def execBadKind (s : State) : Host.Outcome State Fault Refusal :=
  .next (if s.canDispatch && (messageLength (kindOf s.frame)).isNone then s.answer .badKind [] else s)

/-- The transmitter becomes free and its frame's place is freed; the arbiter then begins the next frame (R177). -/
def State.replyGone (s : State) : State :=
  (s.setCp { s.cp with replies := s.cp.replies.tail, transmitter := .free }).arbitrate

/-- Whether a reply is that of an executed RESET (R176). -/
def Reply.isReset (r : Reply) : Bool := r.kind == 0xCB && r.status == .ok

/-- The last byte of a reply leaves the control link (REPLY_SENT, R177). With it the warm reset of an executed RESET
takes effect, and ends at once (R176, R189). -/
def execReplySent (s : State) : Host.Outcome State Fault Refusal :=
  s.onEvent fun s =>
    match s.cp.transmitter, s.cp.replies with
    | .reply, r :: _ =>
      if s.cp.resetWait && r.isReset then (s.warmReset .soft s.mc.resetLow).warmResetEnds else s.replyGone
    | _, _ => s

/-- What the sending of a notice hands on: TE frees the slot of a COMPLETION notice's command, and a pending change to
CONFIG takes effect when the table is empty (R122, R179, R183). -/
def State.noticeHandsOn (s : State) (n : Notice) : State :=
  match n with
  | .completion t _ _ _ _ => (s.freeSlot t).tryConfig
  | _ => s

/-- The last byte of a notice leaves the control link (NOTICE_SENT, R179). What the sending hands on is done before the
arbiter begins the next frame: where a change to CONFIG takes effect, MODE_CHANGED is in an EVENT notice that is then
begun (R166, R177, R183; DESIGN CHOICE, log entry 49). -/
def execNoticeSent (s : State) : Host.Outcome State Fault Refusal :=
  s.onEvent fun s =>
    match s.cp.transmitter, s.cp.notices with
    | .notice, q :: rest =>
      ((s.setCp { s.cp with notices := rest, transmitter := .free }).noticeHandsOn q.notice).arbitrate
    | _, _ => s

end Sys2Proof.Machine
end

