-- ==== Sys2Proof/Machine/Domains.lean ====
section
/-! DEFINITION. The domain messages (R23 to R28) and the decay tick (R36). -/

namespace Sys2Proof.Machine

/-- The checks common to the four changing domain messages: mode, store, and the domain number (R23). -/
def State.onDomain (s : State) (f : List Byte) (act : DomainId → State) : State :=
  match s.tableCheck with
  | some st => s.answer st []
  | none =>
    match domainParam (param16 f 0) with
    | none => s.answer .badValue []
    | some d => act d

/-- The record of a domain that DOMAIN_OPEN opens (R24). -/
def openedDomain (quota : Nat) : DomainRec := { state := .opened, quota := quota, held := 0, score := 0, latch := false }

/-- DOMAIN_OPEN (R24). -/
def execDomainOpen (s : State) : Host.Outcome State Fault Refusal :=
  s.onMessage 0x20 fun f => s.onDomain f fun d =>
    let quota := param32 f 2
    if d = 0 then s.answer .badValue []
    else if s.tenants < quota then s.answer .badValue []
    else if (s.domain d).state ≠ .closed then s.answer .domainExists []
    else (s.writeDomain d (openedDomain quota)).answer .ok []

/-- Whether the engine holds an ASSIGN for a domain in VERIFY or MARK (R25). -/
def State.assigning (s : State) (d : DomainId) : Bool :=
  s.te.table.any fun c =>
    (c.phase == .verify || c.phase == .mark) && match c.command with
      | .assign _ _ e _ _ => e == d
      | _ => false

/-- DOMAIN_QUOTA (R25). -/
def execDomainQuota (s : State) : Host.Outcome State Fault Refusal :=
  s.onMessage 0x21 fun f => s.onDomain f fun d =>
    let quota := param32 f 2
    if d = 0 then s.answer .badValue []
    else if (s.domain d).state = .closed then s.answer .unknownDomain []
    else if s.tenants < quota then s.answer .badValue []
    else if s.assigning d then s.answer .busy []
    else if quota < (s.domain d).held then s.answer .quotaBelowHeld []
    else (s.writeDomain d { s.domain d with quota := quota }).answer .ok []

/-- Whether a live command names a domain as its domain (R26). -/
def State.domainNamed (s : State) (d : DomainId) : Bool := s.te.table.any fun c => c.command.domain? == some d

/-- DOMAIN_CLOSE (R26). -/
def execDomainClose (s : State) : Host.Outcome State Fault Refusal :=
  s.onMessage 0x22 fun f => s.onDomain f fun d =>
    if d = 0 then s.answer .badValue []
    else if (s.domain d).state = .closed then s.answer .unknownDomain []
    else if s.domainNamed d then s.answer .busy []
    else if 0 < (s.domain d).held then s.answer .holdsGranules []
    else if s.ownsShare d then s.answer .inUse []
    else (s.writeDomain d closedDomain).answer .ok []

/-- The score of a domain is cleared: score 0, the latch clear, its persisted record written if the latch was set
(R27, R34). -/
def State.clearScore (s : State) (d : DomainId) : State :=
  let r := { s.domain d with score := 0, latch := false }
  if (s.domain d).latch then s.writeDomain d r else s.setDomain d r

/-- DOMAIN_CLEAR_SCORE (R27). Taken for domain 0 it changes nothing (R20). -/
def execDomainClearScore (s : State) : Host.Outcome State Fault Refusal :=
  s.onMessage 0x23 fun f => s.onDomain f fun d =>
    if (s.domain d).state = .closed then s.answer .unknownDomain []
    else if d = 0 then s.answer .ok []
    else (s.clearScore d).answer .ok []

/-- The results of a DOMAIN_STATUS reply (R28, Reply bodies). -/
def domainBytes (d : DomainId) (r : DomainRec) (stale : Bool) : List Byte :=
  beBytes 2 d.toNat ++ [r.state.code] ++ beBytes 4 r.quota ++ beBytes 4 r.held ++ beBytes 2 r.score ++
    [r.standing.code, boolByte r.latch, boolByte stale]

/-- The record of a domain as DOMAIN_STATUS reports it: a CLOSED domain with the values of a CLOSED record (R18, R28,
R195). -/
def DomainRec.reported (r : DomainRec) : DomainRec := if r.state = .closed then closedDomain else r

/-- DOMAIN_STATUS (R28). -/
def execDomainStatus (s : State) : Host.Outcome State Fault Refusal :=
  s.onMessage 0x24 fun f =>
    if s.mc.mode = .recovering then s.answer .wrongMode []
    else
      match domainParam (param16 f 0) with
      | none => s.answer .badValue []
      | some d => s.answer .ok (domainBytes d (s.domain d).reported s.mc.countsStale)

/-- The record of domain `d` after a decay tick (R36). -/
def decayed (d : Nat) (r : DomainRec) : DomainRec :=
  if d ≠ 0 ∧ r.state ≠ .closed ∧ r.latch = false then { r with score := r.score - 1 } else r

/-- The decay timer expires (DECAY_TICK, R35, R36): the next interval has the length of the code as it stands. -/
def execDecayTick (s : State) : Host.Outcome State Fault Refusal :=
  s.onEvent fun s =>
    if s.mc.decayTimer.isSome then
      (s.setDomains (smapUpdateBelow closedDomain Config.domainCount decayed s.domains)).setMc
        { s.mc with decayTimer := some s.mc.decayCode }
    else s

end Sys2Proof.Machine
end

