-- ==== Sys2Proof/Machine/Events.lean ====
section
/-! DEFINITION. The messages of the violation log (R161, R162) and the event unit (R164, R165). -/

namespace Sys2Proof.Machine

/-- The latches and the missed count that close a LOG_READ reply (R161). -/
def Log.tailBytes (l : Log) : List Byte := [boolByte l.overflow, boolByte l.frozen] ++ beBytes 2 l.missed

/-- LOG_READ (R161). -/
def execLogRead (s : State) : Host.Outcome State Fault Refusal :=
  s.onMessage 0x38 fun f =>
    let n := (param8 f 0).toNat
    if s.mc.mode = .recovering then s.answer .wrongMode []
    else if n < 1 ∨ 4 < n then s.answer .badValue []
    else
      let out := s.vl.records.take n
      let s1 := s.setVl { s.vl with records := s.vl.records.drop n }
      s1.answer .ok ([BitVec.ofNat 8 out.length] ++ out.flatMap LogRec.carried ++
        [BitVec.ofNat 8 s1.vl.records.length] ++ s1.vl.tailBytes)

/-- The log after a LOG_CONTROL (R162). `hold` is `none` for KEEP. -/
def Log.control (l : Log) (clearOverflow : Bool) (hold : Option Bool) (unfreeze clearMissed : Bool) : Log :=
  { l with overflow := l.overflow && !clearOverflow
           hold := hold.getD l.hold
           frozen := l.frozen && !unfreeze
           missed := if clearMissed then 0 else l.missed }

/-- The results of a LOG_CONTROL reply (R162, Reply bodies). -/
def Log.controlBytes (l : Log) : List Byte :=
  [boolByte l.overflow, boolByte l.frozen, boolByte l.hold] ++ beBytes 2 l.missed ++
    [BitVec.ofNat 8 l.records.length]

/-- LOG_CONTROL (R162). -/
def execLogControl (s : State) : Host.Outcome State Fault Refusal :=
  s.onMessage 0x39 fun f =>
    if s.mc.mode = .recovering then s.answer .wrongMode []
    else
      match yesNoOf (param8 f 0), holdOf (param8 f 1), yesNoOf (param8 f 2), yesNoOf (param8 f 3) with
      | some o, some h, some u, some m =>
        let l := s.vl.control o h u m
        (s.setVl l).answer .ok l.controlBytes
      | _, _, _, _ => s.answer .badValue []

/-- The results of an EVENT_ENABLE or EVENT_CLEAR reply: the flag set and the enable mask (Reply bodies). -/
def Events.bytes (e : Events) : List Byte := flagWord e.flags ++ flagWord e.enabled

/-- A flag mask of a message: `none` where it has a 1 in a position that belongs to no flag (R164, R165). -/
def flagParam (n : Nat) : Option FlagSet := if n < 4096 then some (BitVec.ofNat 12 n) else none

/-- The enable mask changes; an enabled flag that is found set and was not enabled places an EVENT notice when none is
waiting (R164, R166). -/
def State.setEnables (s : State) (mask : FlagSet) : State :=
  let found := s.eu.flags &&& mask &&& ~~~s.eu.enabled != 0
  let s1 := s.setEu { s.eu with enabled := mask }
  if found && !s.cp.eventWaiting then s1.placeNotice (.event none) else s1

/-- EVENT_ENABLE (R164). -/
def execEventEnable (s : State) : Host.Outcome State Fault Refusal :=
  s.onMessage 0x3C fun f =>
    if s.mc.mode = .recovering then s.answer .wrongMode []
    else
      match flagParam (param16 f 0), flagParam (param16 f 2) with
      | some set, some clear =>
        let s1 := s.setEnables (maskFlags set clear s.eu.enabled)
        s1.answer .ok s1.eu.bytes
      | _, _ => s.answer .badValue []

/-- EVENT_CLEAR (R165). -/
def execEventClear (s : State) : Host.Outcome State Fault Refusal :=
  s.onMessage 0x3D fun f =>
    if s.mc.mode = .recovering then s.answer .wrongMode []
    else
      match flagParam (param16 f 0) with
      | some mask =>
        let s1 := s.setEu { s.eu with flags := s.eu.flags &&& ~~~mask }
        s1.answer .ok s1.eu.bytes
      | none => s.answer .badValue []

end Sys2Proof.Machine
end

