-- ==== Sys2Proof/Machine/Links.lean ====
section
/-! DEFINITION. The events of the request links (R138 to R149) and the completion of served operations (R69, R70). -/

namespace Sys2Proof.Machine

/-! ## The fields of a request frame (R196) -/

/-- The request tag: bits 0 to 5 of its byte (R196). -/
def tagField (b : Byte) : ReqTag := b.setWidth 6
/-- The domain: bits 0 to 9 of its field (R196). -/
def domainField (b : BitVec 16) : DomainId := b.setWidth 10
/-- The line number: bits 0 to 33 of its field (R196). -/
def lineField (b : BitVec 40) : LineNo := b.setWidth 34

/-! ## Requests -/

/-- A valid request frame on an UP link: steps 1 to 3 (R145), then CU takes the admitted request (R56). -/
def State.takeIn (s : State) (p : Port) (t : ReqTag) (d : DomainId) (op : Opcode) (n : LineNo) (data : List Byte) :
    State :=
  match s.admission p t with
  | some (reason, counted) => (if counted then s.countIntegrity p else s).refuseUnentered p t op reason
  | none =>
    (s.updatePort p fun r => { r with table := r.table ++ [r.newEntry t d op n data] }).takeRequest p t

/-- A valid request frame arrives: on an UP link it restarts the link timer and goes through admission, and on any
other link it is dropped (R141, R143, R145). -/
def State.requestArrives (s : State) (p : Port) (t : ReqTag) (d : DomainId) (op : Opcode) (n : LineNo)
    (data : List Byte) : State :=
  if (s.port p).link = .up then (s.updatePort p PortRec.restartTimer).takeIn p t d op n data else s

/-- A valid REQUEST-READ frame (REQUEST_READ, R145, R196). -/
def execRequestRead (port : Port) (tag : Byte) (domain : BitVec 16) (line : BitVec 40) (s : State) :
    Host.Outcome State Fault Refusal :=
  s.onEvent fun s => s.requestArrives port (tagField tag) (domainField domain) .read (lineField line) []

/-- A valid REQUEST-WRITE frame (REQUEST_WRITE, R145, R196). -/
def execRequestWrite (port : Port) (tag : Byte) (domain : BitVec 16) (line : BitVec 40) (data : List Byte)
    (s : State) : Host.Outcome State Fault Refusal :=
  s.onEvent fun s =>
    if data.length = 64 then
      s.requestArrives port (tagField tag) (domainField domain) .write (lineField line) data
    else s

/-! ## Announcements, silence and bad frames -/

/-- A valid ANNOUNCE frame on a link that is not DISABLED (R139, R140). -/
def State.announce (s : State) (p : Port) (tagLimit : Nat) (poison : Bool) : State :=
  match (s.port p).link with
  | .disabled => s
  | .down =>
    (s.updatePort p fun r =>
      ({ r.announced tagLimit poison with link := .up }).restartTimer.placeAck).setFlag (linkFlag p)
  | .up => s.updatePort p fun r => (r.announced tagLimit poison).restartTimer.placeAck

/-- A valid ANNOUNCE frame (ANNOUNCE, R139, R140, R196). -/
def execAnnounce (port : Port) (tagLimit : Byte) (poison : Byte) (s : State) : Host.Outcome State Fault Refusal :=
  s.onEvent fun s => s.announce port tagLimit.toNat (poison.getLsbD 0)

/-- A valid IDLE frame restarts the timer of an UP link (IDLE, R141, R143). -/
def execIdle (port : Port) (s : State) : Host.Outcome State Fault Refusal :=
  s.onEvent fun s => if (s.port port).link = .up then s.updatePort port PortRec.restartTimer else s

/-- A frame that is none of the four valid peer frames is counted on an UP link, and dropped on any other
(BAD_LINK_FRAME, R143, R144). -/
def execBadLinkFrame (port : Port) (bytes : List Byte) (s : State) : Host.Outcome State Fault Refusal :=
  s.onEvent fun s => if (s.port port).link = .up ∧ peerFrameValid bytes = false then s.countIntegrity port else s

/-- The link timer of an UP link expires (LINK_TIMEOUT, R142). Where the removals let a pending SUSPENDED take effect
in the same step, the link flag is set before MODE_CHANGED (R166, R184; DESIGN CHOICE, log entry 48). -/
def execLinkTimeout (port : Port) (s : State) : Host.Outcome State Fault Refusal :=
  s.onEvent fun s =>
    if (s.port port).link = .up ∧ (s.port port).linkTimer.isSome then (s.goDown port .down).settleMode else s

/-- The last byte of the frame being sent leaves the port (LINK_FRAME_SENT, R147). -/
def execLinkFrameSent (port : Port) (s : State) : Host.Outcome State Fault Refusal :=
  s.onEvent fun s => if (s.port port).link = .up then (s.frameSent port).settleMode else s

/-! ## Memory operations -/

/-- The response of a served operation (R69, R70). -/
def servedResponse (poison : Bool) (op : Opcode) (data : List Byte) (o : MemOutcome) : Response :=
  match o, op with
  | .ok, .read => { outcome := .data, reason := .none, data := data }
  | .ok, .write => { outcome := .done, reason := .none, data := [] }
  | .uncorrectable, _ => { outcome := damagedOutcome poison, reason := .dataError, data := [] }

/-- DRAM after a served operation: a WRITE has stored its data, or damaged the line (R64, R70). -/
def Dram.served (d : Dram) (e : Entry) (o : MemOutcome) : Dram :=
  match e.op with
  | .read => d
  | .write => d.complete (lineAddress e.lineNo) e.data o

/-- A completion UNCORRECTABLE stores its DATA_POISON record and sets the flag (R70), after the flags that storing the
record sets (DESIGN CHOICE, log entry 56). -/
def State.dataPoison (s : State) (p : Port) (e : Entry) (o : MemOutcome) : State :=
  match o with
  | .ok => s
  | .uncorrectable =>
    (s.logRecord (.dataPoison p e.domain (granuleOf e.lineNo) (lineInGranule e.lineNo) e.op)).setFlag .dataPoison

/-- A served operation completes: its response is formed and placed in the send list, or, for an orphan, its entry is
removed with none (R69, R70, R72, R146, R149). -/
def State.operationDone (s : State) (p : Port) (e : Entry) (o : MemOutcome) : State :=
  let data := s.dram.read (lineAddress e.lineNo) 64
  let s1 := (s.setDram (s.dram.served e o)).dataPoison p e o
  if e.orphan then s1.removeEntry p e.tag
  else s1.updatePort p fun r => r.respond e.tag (servedResponse r.poison e.op data o)

/-- The operation of a FORWARDED entry completes (MEMORY_OP_COMPLETE, R69, R70). -/
def execMemoryOpComplete (port : Port) (tag : ReqTag) (outcome : MemOutcome) (s : State) :
    Host.Outcome State Fault Refusal :=
  s.onEvent fun s =>
    match (s.port port).entry tag with
    | some e =>
      if e.stage = .forwarded ∧ e.response = none then (s.operationDone port e outcome).settleMode else s
    | none => s

/-! ## Tag store operations -/

/-- The read of the fill of a tag line completes (FILL_COMPLETE, R82). -/
def execFillComplete (line : Nat) (read : ReadOutcome) (s : State) : Host.Outcome State Fault Refusal :=
  s.onEvent fun s =>
    match s.tc.fill line, s.mc.poolCode with
    | some f, some c =>
      if f.stage = .reading ∧ s.tc.fillHeld line = false ∧ read.fits 64 then
        let d := s.dram.decay (tagLineAddress c line) read
        let tags := d.readTags c line read
        ((s.setDram d).completeFill f (checkedLine tags) (lostPlaces tags)).settle
      else s
    | _, _ => s

/-- The oldest write of the write list to a line, taken out of the list (R87). -/
def takeTagWrite (j : Nat) : List TagWrite → Option (TagWrite × List TagWrite)
  | [] => none
  | w :: ws => if w.line = j then some (w, ws) else (takeTagWrite j ws).map fun r => (r.1, w :: r.2)

/-- A fill of the line that waits for its writes issues its read when none is outstanding (R81, R87). -/
def TagCache.readAfterWrite (tc : TagCache) (j : Nat) : TagCache :=
  if tc.writing j then tc
  else { tc with fills := tc.fills.map fun f => if f.line = j then { f with stage := .reading } else f }

/-- The oldest write to a tag line completes (WRITE_THROUGH_COMPLETE, R87). -/
def execWriteThroughComplete (line : Nat) (outcome : MemOutcome) (s : State) : Host.Outcome State Fault Refusal :=
  s.onEvent fun s =>
    match takeTagWrite line s.tc.writes, s.mc.poolCode with
    | some (w, rest), some c =>
      let s1 := (s.setDram (s.dram.writeTags c w outcome)).setTc ({ s.tc with writes := rest }.readAfterWrite line)
      s1.takeOldestHeld.settle
    | _, _ => s

/-- The oldest issued write of a persisted record or header to an address completes; an UNCORRECTABLE outcome is not
retried (PERSIST_WRITE_COMPLETE, R22, R44, R116). -/
def execPersistWriteComplete (address : Nat) (outcome : MemOutcome) (s : State) : Host.Outcome State Fault Refusal :=
  s.onEvent fun s =>
    match takeWrite address s.dram.persist with
    | some (w, rest) => (s.setDram ({ s.dram with persist := rest }.complete address w.bytes outcome)).settleChannels
    | none => s

end Sys2Proof.Machine
end

