-- ==== Sys2Proof/Machine/ModeMsgs.lean ====
section
/-! DEFINITION. The messages of the mode controller: MODE_REQUEST (R182), SETTINGS (R1, R187), PART_STATUS (R188) and
RESET (R176, R189), the timestamp tick (R168), and the return from self-refresh (R185). -/

namespace Sys2Proof.Machine

/-- How a move from one mode to another takes effect: at once, when the command table is empty, when the conditions of
R184 hold, or when DRAM has left self-refresh (R182). -/
inductive Move where
  | atOnce
  | afterCommands
  | suspend
  | wake
deriving DecidableEq, Repr

/-- The moves of R182's table; `none` for a move that is not one of them. -/
def moveOf (mode : Mode) (origin : Option Mode) (target : Mode) : Option Move :=
  match mode, target with
  | .config, .enforce => some .atOnce
  | .config, .monitor => some .atOnce
  | .enforce, .monitor => some .atOnce
  | .monitor, .enforce => some .atOnce
  | .enforce, .config => some .afterCommands
  | .monitor, .config => some .afterCommands
  | .enforce, .suspended => some .suspend
  | .monitor, .suspended => some .suspend
  | .suspended, t => if origin = some t then some .wake else none
  | _, _ => none

/-- The return from SUSPENDED: the channels leave self-refresh. Where none has entered it, there is nothing to wait for
(log entry 15). -/
def State.wake (s : State) : State := if s.dram.selfRefresh.isEmpty then s.resume.scrubSettle else s

/-- The change that a taken MODE_REQUEST makes or sets pending (R182 to R185). -/
def State.move (s : State) (m : Move) (target : Mode) : State :=
  match m with
  | .atOnce => (s.setMc { s.mc with mode := target }).setFlag .modeChanged
  | .afterCommands => (s.setMc { s.mc with pendingTarget := some target }).tryConfig
  | .suspend => (s.setMc { s.mc with pendingTarget := some target }).settleMode
  | .wake => (s.setMc { s.mc with pendingTarget := some target }).wake

/-- MODE_REQUEST (R182). -/
def execModeRequest (s : State) : Host.Outcome State Fault Refusal :=
  s.onMessage 0x48 fun f =>
    if s.mc.mode = .recovering then s.answer .wrongMode []
    else
      match targetOf (param8 f 0) with
      | none => s.answer .badValue []
      | some target =>
        if s.mc.pendingTarget ≠ none then s.answer .busy []
        else
          match moveOf s.mc.mode s.mc.suspendOrigin target with
          | none => s.answer .wrongMode []
          | some m =>
            if s.mc.mode = .config ∧ s.mc.storeState ≠ .formatted then s.answer .notFormatted []
            else (s.move m target).answer .ok []

/-- Disables an enabled aperture that reaches the new T (R151). -/
def PortRec.trimAperture (p : PortRec) (t : Nat) : PortRec :=
  if p.apertureOn ∧ t ≤ p.apertureLast then { p with apertureOn := false } else p

/-- Domain 0's quota becomes T; where that changes it, its persisted record is written, at its place in the store of the
pool as it now stands (R20, R22; log entry 25). -/
def State.setQuota0 (s : State) : State :=
  if (s.domain 0).quota = s.tenants then s else s.writeDomain 0 { s.domain 0 with quota := s.tenants }

/-- The pool size code changes: domain 0's quota becomes the new T, and apertures that reach it are disabled (R20, R151,
R187). -/
def State.setPool (s : State) (code : Option PoolCode) : State :=
  let s1 := s.setMc { s.mc with poolCode := code }
  (s1.setQuota0.updatePort .a fun p => p.trimAperture s1.tenants).updatePort .b fun p => p.trimAperture s1.tenants

/-- A drain timeout of 0 is taken as 1 ms (R187). -/
def clampTimeout (b : Byte) : Byte := if b = 0 then 1 else b

/-- The settings other than the pool size, each loaded unless its keep bit is 1 (R187). -/
def ModeController.loadSettings (m : ModeController) (f : List Byte) : ModeController :=
  let keep := fun i => (param8 f 0).getLsbD i
  { m with scrubInterval := if keep 1 then m.scrubInterval else param8 f 2
           decayCode := if keep 2 then m.decayCode else param8 f 3
           drainTimeout := if keep 3 then m.drainTimeout else clampTimeout (param8 f 4) }

/-- The four settings as a SETTINGS reply carries them (R187). -/
def ModeController.settingBytes (m : ModeController) : List Byte :=
  [poolCodeByte m.poolCode, m.scrubInterval, m.decayCode, m.drainTimeout]

/-- The settings of a taken SETTINGS are loaded, and the reply carries them as they stand after it (R187). -/
def State.settingsTaken (s : State) (f : List Byte) : State :=
  let s1 := s.setMc (s.mc.loadSettings f)
  s1.answer .ok s1.mc.settingBytes

/-- SETTINGS (R1, R187). -/
def execSettings (s : State) : Host.Outcome State Fault Refusal :=
  s.onMessage 0x49 fun f =>
    if s.mc.mode = .recovering then s.answer .wrongMode []
    else if (param8 f 0).getLsbD 0 then s.settingsTaken f
    else if s.mc.mode ≠ .config ∨ s.mc.storeState ≠ .unformatted then s.answer .wrongMode []
    else
      match poolCodeOf (param8 f 1) with
      | none => s.answer .badValue []
      | some code => (s.setPool code).settingsTaken f

/-- The results of a PART_STATUS reply (R188, Reply bodies). -/
def State.partBytes (s : State) : List Byte :=
  [0x44, 0x20, 1, s.mc.mode.code, optModeCode s.mc.pendingTarget, optModeCode s.mc.suspendOrigin, s.mc.storeState.code,
    poolCodeByte s.mc.poolCode, boolByte s.mc.countsStale, s.mc.scrubInterval, s.mc.decayCode, s.mc.drainTimeout] ++
    flagWord s.eu.flags ++ beBytes 2 s.cp.frameErrors ++ beBytes 4 s.mc.timestamp.toNat

/-- PART_STATUS (R188). -/
def execPartStatus (s : State) : Host.Outcome State Fault Refusal :=
  s.onMessage 0x4A fun _ => s.answer .ok s.partBytes

/-- RESET: its reply enters the reply list, and the dispatcher begins no further frame (R176). -/
def execReset (s : State) : Host.Outcome State Fault Refusal :=
  s.onMessage 0x4B fun _ => (s.setCp { s.cp with resetWait := true }).answer .ok []

/-- The timestamp counter advances by one microsecond (TIMESTAMP_TICK, R168). -/
def execTimestampTick (s : State) : Host.Outcome State Fault Refusal :=
  s.onEvent fun s => s.setMc { s.mc with timestamp := s.mc.timestamp + 1 }

/-- The last DRAM channel leaves self-refresh, so the mode returns to the suspend origin and the scrubber takes up its
work (SELF_REFRESH_EXIT, R133, R185). MODE_CHANGED is set before the scrubber goes on, and so its notice comes before a
COMPLETION notice that the scrubber's work leads to (DESIGN CHOICE, log entry 48). -/
def execSelfRefreshExit (s : State) : Host.Outcome State Fault Refusal :=
  s.onEvent fun s =>
    if s.mc.mode = .suspended ∧ s.mc.pendingTarget.isSome then s.resume.scrubSettle else s

end Sys2Proof.Machine
end

