-- ==== Sys2Proof/Machine/Phases.lean ====
section
/-! DEFINITION. The rows of the transition engine (R98 to R117). A phase that works through a range takes one granule
at a time, FORMAT's tag writes one line at a time (log entry 9): each of these commands is the engine's next unit of
work in the phase, and leaves the state as it is while the engine waits or holds another command or phase. -/

namespace Sys2Proof.Machine

/-- What the engine holds at the start of a command (R98). -/
def newWork (t : Ticket) (start : Nat) : Work :=
  { ticket := t, cursor := start, busy := false, scrubWait := none, begun := false, shareOwner := 0,
    heldCounts := [], refCounts := [], lossReported := false, credited := [], snapshot := [], timer := none,
    timedOut := false, runOpened := false, runOpen := false, placeWait := false }

/-- The QUEUED command that was accepted first (R98). -/
def Engine.oldestQueued (e : Engine) : Option Cmd := e.table.find? fun c => c.phase == .queued

/-- Whether the mode lets the engine start a command (R98, R123). -/
def State.mayStart (s : State) : Bool := s.mc.mode != .suspended && s.mc.pendingTarget != some .suspended

/-- The IDLE engine starts the oldest QUEUED command, which enters VERIFY (COMMAND_START, R98). -/
def execCommandStart (s : State) : Host.Outcome State Fault Refusal :=
  s.onEvent fun s =>
    match s.te.current, s.te.oldestQueued with
    | none, some c =>
      if s.mayStart then
        let s1 := s.updateCmd c.ticket fun c => { c with phase := .verify }
        s1.setTe { s1.te with current := some (newWork c.ticket c.command.start) }
      else s
    | _, _ => s

/-- The engine's next unit of work, when it holds a command of the given kind in the given phase and waits for nothing
in TC. -/
def State.onPhase (s : State) (phase : Phase) (kind : Command → Bool) (act : Work → Command → State → State) :
    Host.Outcome State Fault Refusal :=
  s.onEvent fun s =>
    match s.currentCmd with
    | some (w, c) => if c.phase = phase ∧ kind c.command = true ∧ w.busy = false then (act w c.command s).settle else s
    | none => s

def Command.isAssign : Command → Bool
  | .assign .. => true
  | _ => false
def Command.isReclaim : Command → Bool
  | .reclaim .. => true
  | _ => false
def Command.isShareRange : Command → Bool
  | .shareRange .. => true
  | _ => false
def Command.isUnshareRange : Command → Bool
  | .unshareRange .. => true
  | _ => false
def Command.isRetire : Command → Bool
  | .retire .. => true
  | _ => false
def Command.isRecount : Command → Bool
  | .recount => true
  | _ => false
def Command.isRevive : Command → Bool
  | .revive .. => true
  | _ => false
def Command.isFormat : Command → Bool
  | .format .. => true
  | _ => false

/-- A unit of VERIFY of a command whose VERIFY has a first part of its own: that part, and then tag after tag. -/
def verifyUnit (w : Work) (c : Command) (s : State) : State :=
  if w.begun = false then s.beginVerify w c
  else if w.scrubWait.isSome then s
  else s.engineTry

/-- A unit of a phase that takes tag after tag. -/
def tagUnit (_ : Work) (_ : Command) (s : State) : State := s.engineTry

/-- A unit of HANDOFF: the first run is opened before any tag is taken, and a unit waits for a place in a full scrub
list (R107). -/
def handoffUnit (w : Work) (_ : Command) (s : State) : State :=
  if w.placeWait then s
  else if w.runOpened = false then s.openRun w
  else s.engineTry

/-- The VERIFY of an ASSIGN (ASSIGN_VERIFY, R101). -/
def execAssignVerify (s : State) : Host.Outcome State Fault Refusal := s.onPhase .verify Command.isAssign verifyUnit

/-- The apply of an ASSIGN (ASSIGN_APPLY, R102). -/
def execAssignApply (s : State) : Host.Outcome State Fault Refusal := s.onPhase .mark Command.isAssign tagUnit

/-- The VERIFY of a RECLAIM (RECLAIM_VERIFY, R103). -/
def execReclaimVerify (s : State) : Host.Outcome State Fault Refusal := s.onPhase .verify Command.isReclaim tagUnit

/-- The MARK of a RECLAIM (RECLAIM_MARK, R104). -/
def execReclaimMark (s : State) : Host.Outcome State Fault Refusal := s.onPhase .mark Command.isReclaim tagUnit

/-- The drain timer expires with entries in the snapshot: the snapshot is discarded, a REVIVE completes DRAIN_TIMEOUT,
and the tags of a RECLAIM or RETIRE are taken from the first (R106). -/
def State.expireDrain (s : State) (w : Work) (c : Command) : State :=
  let s1 := s.updateWork fun w => { w with snapshot := [], timer := none, timedOut := true, cursor := c.start }
  if c.isRevive then s1.notify w.ticket .drainTimeout else s1

/-- A unit of a drain timeout: the expiry, and then tag after tag (R106). -/
def drainUnit (w : Work) (c : Command) (s : State) : State :=
  if w.timedOut then s.engineTry
  else if w.timer.isSome then s.expireDrain w c
  else s

/-- The drain timer expires with entries still in the snapshot (DRAIN_TIMEOUT, R106). -/
def execDrainTimeout (s : State) : Host.Outcome State Fault Refusal := s.onPhase .drain (fun _ => true) drainUnit

/-- The HANDOFF of a RECLAIM or REVIVE (HANDOFF, R107). -/
def execHandoff (s : State) : Host.Outcome State Fault Refusal :=
  s.onPhase .handoff (fun c => c.isReclaim || c.isRevive) handoffUnit

/-- The MARK of a RETIRE, which passes VERIFY with its first unit (RETIRE_MARK, R109). -/
def execRetireMark (s : State) : Host.Outcome State Fault Refusal :=
  s.onEvent fun s =>
    match s.currentCmd with
    | some (w, c) =>
      if c.command.isRetire = true ∧ w.busy = false then
        match c.phase with
        | .verify => ((s.enterMark w.ticket c.command.start).engineTry).settle
        | .mark => s.engineTry.settle
        | _ => s
      else s
    | none => s

/-- The HANDOFF of a RETIRE (RETIRE_HANDOFF, R110). -/
def execRetireHandoff (s : State) : Host.Outcome State Fault Refusal :=
  s.onPhase .handoff Command.isRetire handoffUnit

/-- The VERIFY of a SHARE_RANGE (SHARE_RANGE_VERIFY, R112). -/
def execShareRangeVerify (s : State) : Host.Outcome State Fault Refusal :=
  s.onPhase .verify Command.isShareRange verifyUnit

/-- The apply of a SHARE_RANGE (SHARE_RANGE_APPLY, R112). -/
def execShareRangeApply (s : State) : Host.Outcome State Fault Refusal :=
  s.onPhase .mark Command.isShareRange tagUnit

/-- The VERIFY of an UNSHARE_RANGE (UNSHARE_RANGE_VERIFY, R112). -/
def execUnshareRangeVerify (s : State) : Host.Outcome State Fault Refusal :=
  s.onPhase .verify Command.isUnshareRange verifyUnit

/-- The apply of an UNSHARE_RANGE (UNSHARE_RANGE_APPLY, R112). -/
def execUnshareRangeApply (s : State) : Host.Outcome State Fault Refusal :=
  s.onPhase .mark Command.isUnshareRange tagUnit

/-- The VERIFY of a REVIVE (REVIVE_VERIFY, R113). -/
def execReviveVerify (s : State) : Host.Outcome State Fault Refusal := s.onPhase .verify Command.isRevive tagUnit

/-- The sweep of a RECOUNT (RECOUNT_SWEEP, R114). -/
def execRecountSweep (s : State) : Host.Outcome State Fault Refusal := s.onPhase .verify Command.isRecount tagUnit

/-- Whether a port's table holds a FORWARDED entry (R115). -/
def PortRec.forwarding (p : PortRec) : Bool := p.table.any fun e => e.stage == .forwarded

/-- The VERIFY of a FORMAT ends when the scrub list is empty and neither port holds a FORWARDED entry (FORMAT_VERIFY,
R115). -/
def execFormatVerify (s : State) : Host.Outcome State Fault Refusal :=
  s.onPhase .verify Command.isFormat fun w c s =>
    if s.su.runs.isEmpty && !s.portA.forwarding && !s.portB.forwarding then s.enterMark w.ticket c.start else s

/-- The MARK of a FORMAT writes the fixed parts of the store (FORMAT_MARK, R116). -/
def execFormatMark (s : State) : Host.Outcome State Fault Refusal :=
  s.onPhase .mark Command.isFormat fun w _ s =>
    match s.mc.poolCode with
    | some c => (s.writeFixedParts c).updateCmd w.ticket fun c => { c with phase := .handoff }
    | none => s

/-- A unit of FORMAT's HANDOFF: a run is opened whenever none is open, and otherwise the next line is installed
(R107, R117). -/
def formatUnit (w : Work) (_ : Command) (s : State) : State :=
  if w.placeWait then s
  else if w.runOpen = false then s.openRun w
  else s.engineTry

/-- The HANDOFF of a FORMAT (FORMAT_HANDOFF, R117). -/
def execFormatHandoff (s : State) : Host.Outcome State Fault Refusal :=
  s.onPhase .handoff Command.isFormat formatUnit

/-! ## The scrubber's rows -/

/-- The pacing timer expires (PACING_TIMER_EXPIRY, R128, R132). -/
def execPacingTimerExpiry (s : State) : Host.Outcome State Fault Refusal :=
  s.onEvent fun s =>
    if s.su.pacing.isSome then (s.setSu { s.su with pacing := none }).scrubSettle else s

/-- The write granule after one of its writes has completed (R128). -/
def WriteGranule.completes (w : WriteGranule) (line : Nat) (o : MemOutcome) : WriteGranule :=
  { w with completed := w.completed + 1
           inFlight := w.inFlight.filter fun k => k != line
           failed := w.failed || o == .uncorrectable }

/-- The 64 zero bytes of a scrub write (R128). -/
def zeroLine : List Byte := List.replicate 64 0

/-- A zero write to a line of the write granule completes (SCRUB_WRITE_COMPLETE, R128, R129). -/
def execScrubWriteComplete (line : Nat) (outcome : MemOutcome) (s : State) : Host.Outcome State Fault Refusal :=
  s.onEvent fun s =>
    match s.su.write with
    | some w =>
      if w.inFlight.contains line then
        ((s.setDram (s.dram.complete (4096 * w.granule + 64 * line) zeroLine outcome)).setSu
          { s.su with write := some (w.completes line outcome) }).settle
      else s
    | none => s

end Sys2Proof.Machine
end

