-- ==== Sys2Proof/Machine/PortMsgs.lean ====
section
/-! DEFINITION. The port messages: PORT_SET, PORT_STATUS and PORT_CLEAR (R150 to R156). -/

namespace Sys2Proof.Machine

/-- The positions of PORT_SET's masks: ENABLE 0, APERTURE 1, WATCH 2, FREEZE 3 (Request bodies). A flag is to be set by
a 1 in the set mask alone (R154). -/
def setAlone (f : List Byte) (i : Nat) : Bool := (param8 f 1).getLsbD i && !(param8 f 2).getLsbD i

/-- A flag is to be cleared by a 1 in the clear mask alone (R154). -/
def clearAlone (f : List Byte) (i : Nat) : Bool := (param8 f 2).getLsbD i && !(param8 f 1).getLsbD i

/-- Orders 3 to 7 of PORT_SET's checks, which all give BAD_VALUE (R154). -/
def State.portSetBad (s : State) (f : List Byte) : Bool :=
  decide (16 ≤ (param8 f 1).toNat) || decide (16 ≤ (param8 f 2).toNat) ||
  (decide (4 ≤ (param8 f 15).toNat) && param8 f 15 != 0xFF) ||
  (setAlone f 1 && (decide (param32 f 7 < param32 f 3) || decide (s.tenants ≤ param32 f 7))) ||
  (setAlone f 2 && decide (Config.maxGranule < param32 f 11)) ||
  (setAlone f 3 && ((param8 f 16 == 0 || decide (64 < (param8 f 16).toNat)) || (yesNoOf (param8 f 17)).isNone))

/-- The aperture after a PORT_SET (R151). -/
def PortRec.setAperture (p : PortRec) (f : List Byte) : PortRec :=
  if setAlone f 1 then { p with apertureOn := true, apertureFirst := param32 f 3, apertureLast := param32 f 7 }
  else if clearAlone f 1 then { p with apertureOn := false }
  else p

/-- The watch entry after a PORT_SET (R152). -/
def PortRec.setWatch (p : PortRec) (f : List Byte) : PortRec :=
  if setAlone f 2 then { p with watchOn := true, watchGranule := param32 f 11 }
  else if clearAlone f 2 then { p with watchOn := false }
  else p

/-- The capability record after a PORT_SET: frozen with the values given, or unfrozen (R150). -/
def PortRec.setFreeze (p : PortRec) (f : List Byte) : PortRec :=
  if setAlone f 3 then
    { p with tagLimit := (param8 f 16).toNat, poison := (yesNoOf (param8 f 17)).getD false, origin := .frozen }
  else if clearAlone f 3 ∧ p.origin = .frozen then { p with origin := .none }
  else p

/-- The link timeout code after a PORT_SET: loaded unless it is KEEP (R154). -/
def PortRec.setTimeout (p : PortRec) (f : List Byte) : PortRec :=
  if param8 f 15 = 0xFF then p else { p with timeoutCode := (param8 f 15).toNat }

/-- The enable of a port after a PORT_SET, with its change of link state (R138, R142). -/
def State.setEnable (s : State) (p : Port) (f : List Byte) : State :=
  if setAlone f 0 ∧ (s.port p).enabled = false then
    (s.updatePort p fun r => { r with enabled := true, link := .down }).setFlag (linkFlag p)
  else if clearAlone f 0 ∧ (s.port p).enabled = true then
    let s1 := s.updatePort p fun r => { r with enabled := false }
    if (s.port p).link = .up then s1.goDown p .disabled
    else (s1.updatePort p fun r => { r with link := .disabled }).setFlag (linkFlag p)
  else s

/-- The changes of a PORT_SET to one port, made together (R154). -/
def State.setOnePort (s : State) (f : List Byte) (p : Port) : State :=
  (s.setEnable p f).updatePort p fun r => (((r.setAperture f).setWatch f).setFreeze f).setTimeout f

/-- PORT_SET (R154). Where its removals let a pending SUSPENDED take effect, the EVENT notice of MODE_CHANGED is placed
after the reply: the manual lets it come before or after (R166, R177; DESIGN CHOICE, log entry 43). -/
def execPortSet (s : State) : Host.Outcome State Fault Refusal :=
  s.onMessage 0x40 fun f =>
    if s.mc.mode = .recovering then s.answer .wrongMode []
    else
      match portsOf (param8 f 0) with
      | none => s.answer .badPort []
      | some ps =>
        if s.portSetBad f then s.answer .badValue []
        else ((ps.foldl (fun s p => s.setOnePort f p) s).answer .ok []).settleMode

/-- The results of a PORT_STATUS reply (R155, Reply bodies). -/
def PortRec.statusBytes (p : PortRec) : List Byte :=
  [boolByte p.enabled, p.link.code, BitVec.ofNat 8 p.tagLimit, boolByte p.poison, p.origin.code,
    boolByte p.apertureOn] ++ beBytes 4 p.apertureFirst ++ beBytes 4 p.apertureLast ++ [boolByte p.watchOn] ++
    beBytes 4 p.watchGranule ++
    [BitVec.ofNat 8 p.timeoutCode, BitVec.ofNat 8 p.integrity, p.lastReason.code, BitVec.ofNat 8 p.table.length,
      BitVec.ofNat 8 (p.table.filter Entry.orphan).length,
      BitVec.ofNat 8 (p.table.filter fun e => e.stage == .forwarded).length]

/-- PORT_STATUS (R155). -/
def execPortStatus (s : State) : Host.Outcome State Fault Refusal :=
  s.onMessage 0x41 fun f =>
    if s.mc.mode = .recovering then s.answer .wrongMode []
    else
      match portOf (param8 f 0) with
      | none => s.answer .badPort []
      | some p => s.answer .ok (s.port p).statusBytes

/-- The port record after a PORT_CLEAR (R156). -/
def PortRec.clear (p : PortRec) (integrity reason : Bool) : PortRec :=
  { p with integrity := if integrity then 0 else p.integrity
           lastReason := if reason then .none else p.lastReason }

/-- PORT_CLEAR (R156). -/
def execPortClear (s : State) : Host.Outcome State Fault Refusal :=
  s.onMessage 0x42 fun f =>
    if s.mc.mode = .recovering then s.answer .wrongMode []
    else
      match portOf (param8 f 0) with
      | none => s.answer .badPort []
      | some p =>
        match yesNoOf (param8 f 1), yesNoOf (param8 f 2) with
        | some i, some r => (s.updatePort p fun x => x.clear i r).answer .ok []
        | _, _ => s.answer .badValue []

end Sys2Proof.Machine
end

