-- ==== Sys2Proof/Machine/Shares.lean ====
section
/-! DEFINITION. The share messages (R45 to R48). -/

namespace Sys2Proof.Machine

/-- The parameters of SHARE_CREATE as an entry, or the refusal of orders 1 to 3 (R46). -/
def createdEntry (f : List Byte) : Option ShareEntry :=
  match domainParam (param16 f 0), domainParam (param16 f 2), domainParam (param16 f 4), rightsOf (param8 f 6) with
  | some o, some p, some m, some r =>
    some { inUse := true, owner := o, pattern := p, mask := m, rights := r, refcount := 0 }
  | _, _, _, _ => none

/-- SHARE_CREATE (R45, R46). -/
def execShareCreate (s : State) : Host.Outcome State Fault Refusal :=
  s.onMessage 0x28 fun f =>
    match s.tableCheck with
    | some st => s.answer st []
    | none =>
      match createdEntry f with
      | none => s.answer .badValue []
      | some e =>
        if (s.domain e.owner).state ≠ .opened then s.answer .unknownDomain []
        else
          match s.lowestFreeShare with
          | none => s.answer .tableFull []
          | some i => (s.writeShare i e).answer .ok [i]

/-- Whether a live command names a share entry (R47). -/
def State.shareNamed (s : State) (i : ShareIx) : Bool := s.te.table.any fun c => c.command.share? == some i

/-- SHARE_DELETE (R45, R47). -/
def execShareDelete (s : State) : Host.Outcome State Fault Refusal :=
  s.onMessage 0x29 fun f =>
    match s.tableCheck with
    | some st => s.answer st []
    | none =>
      match shareParam (param16 f 0) with
      | none => s.answer .badValue []
      | some i =>
        if (s.share i).inUse = false then s.answer .badValue []
        else if s.shareNamed i then s.answer .busy []
        else if 0 < (s.share i).refcount then s.answer .inUse []
        else (s.writeShare i freeEntry).answer .ok []

/-- The results of a SHARE_STATUS reply (R48, Reply bodies). A FREE entry holds zeros in the fields that are absent
(R39, R195). -/
def shareBytes (i : ShareIx) (e : ShareEntry) (stale : Bool) : List Byte :=
  [i, boolByte e.inUse] ++ beBytes 2 e.owner.toNat ++ beBytes 2 e.pattern.toNat ++ beBytes 2 e.mask.toNat ++
    [e.rights.code] ++ beBytes 4 e.refcount ++ [boolByte stale]

/-- SHARE_STATUS (R48). -/
def execShareStatus (s : State) : Host.Outcome State Fault Refusal :=
  s.onMessage 0x2A fun f =>
    if s.mc.mode = .recovering then s.answer .wrongMode []
    else
      match shareParam (param16 f 0) with
      | none => s.answer .badValue []
      | some i => s.answer .ok (shareBytes i (s.share i) s.mc.countsStale)

end Sys2Proof.Machine
end

