-- ==== Sys2Proof/Machine/Tags.lean ====
section
/-! DEFINITION. The tag queries: TAG_READ (R15 to R17) and SURVEY (R74 to R76). -/

namespace Sys2Proof.Machine

/-- A query is taken: the dispatcher is executing it, and it looks its first line up (R16, R76, R175). Where it ends in
this step and a pending SUSPENDED then takes effect, the reply comes before MODE_CHANGED (DESIGN CHOICE, log
entry 43). -/
def State.beginQuery (s : State) (q : Query) : State :=
  (State.queryTry 4 (s.setCp { s.cp with executing := some q })).settleMode

/-- TAG_READ (R15). -/
def execTagRead (s : State) : Host.Outcome State Fault Refusal :=
  s.onMessage 0x30 fun f =>
    let g := param32 f 0
    match s.tableCheck with
    | some st => s.answer st []
    | none =>
      if granules s.mc.poolCode ≤ g then s.answer .badRange []
      else if s.tenants ≤ g then s.answer .ok (carriedPrivate g)
      else s.beginQuery (.tagRead g)

/-- Whether the first granule of a SURVEY is a multiple of 16, at most T − 16 (R74). -/
def State.surveyGranule (s : State) (g : Nat) : Bool := g % 16 == 0 && decide (g + 16 ≤ s.tenants)

/-- Whether the first domain of a SURVEY is a multiple of 16, at most 1008 (R74). -/
def surveyDomain (w : Nat) : Bool := w % 16 == 0 && decide (w ≤ 1008)

/-- SURVEY (R74). Orientation 0 is GRANULE, 1 is DOMAIN. -/
def execSurvey (s : State) : Host.Outcome State Fault Refusal :=
  s.onMessage 0x31 fun f =>
    match s.tableCheck with
    | some st => s.answer st []
    | none =>
      match opcodeOf (param8 f 6), yesNoOf (param8 f 7) with
      | some op, some byDomain =>
        if !s.surveyGranule (param32 f 0) then s.answer .badRange []
        else if !surveyDomain (param16 f 4) then s.answer .badRange []
        else s.beginQuery (.survey (param32 f 0) (param16 f 4) op byDomain [])
      | _, _ => s.answer .badValue []

end Sys2Proof.Machine
end

