-- ==== Sys2Proof/Machine/Dispatch.lean ====
section
/-! DEFINITION. The meaning of every row of the table: one arm for each constructor, in the table's order. -/

namespace Sys2Proof.Machine

def exec (i : Instr) (s : State) : Host.Outcome State Fault Refusal :=
  match i with
  | .controlFrame bytes => Sys2Proof.Machine.execControlFrame bytes s
  | .gapTimeout => Sys2Proof.Machine.execGapTimeout s
  | .badKind => Sys2Proof.Machine.execBadKind s
  | .assign => Sys2Proof.Machine.execAssign s
  | .reclaim => Sys2Proof.Machine.execReclaim s
  | .shareRange => Sys2Proof.Machine.execShareRange s
  | .unshareRange => Sys2Proof.Machine.execUnshareRange s
  | .retire => Sys2Proof.Machine.execRetire s
  | .recount => Sys2Proof.Machine.execRecount s
  | .revive => Sys2Proof.Machine.execRevive s
  | .format => Sys2Proof.Machine.execFormat s
  | .cancel => Sys2Proof.Machine.execCancel s
  | .ticketStatus => Sys2Proof.Machine.execTicketStatus s
  | .domainOpen => Sys2Proof.Machine.execDomainOpen s
  | .domainQuota => Sys2Proof.Machine.execDomainQuota s
  | .domainClose => Sys2Proof.Machine.execDomainClose s
  | .domainClearScore => Sys2Proof.Machine.execDomainClearScore s
  | .domainStatus => Sys2Proof.Machine.execDomainStatus s
  | .shareCreate => Sys2Proof.Machine.execShareCreate s
  | .shareDelete => Sys2Proof.Machine.execShareDelete s
  | .shareStatus => Sys2Proof.Machine.execShareStatus s
  | .tagRead => Sys2Proof.Machine.execTagRead s
  | .survey => Sys2Proof.Machine.execSurvey s
  | .logRead => Sys2Proof.Machine.execLogRead s
  | .logControl => Sys2Proof.Machine.execLogControl s
  | .eventEnable => Sys2Proof.Machine.execEventEnable s
  | .eventClear => Sys2Proof.Machine.execEventClear s
  | .portSet => Sys2Proof.Machine.execPortSet s
  | .portStatus => Sys2Proof.Machine.execPortStatus s
  | .portClear => Sys2Proof.Machine.execPortClear s
  | .modeRequest => Sys2Proof.Machine.execModeRequest s
  | .settings => Sys2Proof.Machine.execSettings s
  | .partStatus => Sys2Proof.Machine.execPartStatus s
  | .reset => Sys2Proof.Machine.execReset s
  | .replySent => Sys2Proof.Machine.execReplySent s
  | .noticeSent => Sys2Proof.Machine.execNoticeSent s
  | .requestRead port tag domain line => Sys2Proof.Machine.execRequestRead port tag domain line s
  | .requestWrite port tag domain line data => Sys2Proof.Machine.execRequestWrite port tag domain line data s
  | .announce port tagLimit poison => Sys2Proof.Machine.execAnnounce port tagLimit poison s
  | .idle port => Sys2Proof.Machine.execIdle port s
  | .badLinkFrame port bytes => Sys2Proof.Machine.execBadLinkFrame port bytes s
  | .linkTimeout port => Sys2Proof.Machine.execLinkTimeout port s
  | .linkFrameSent port => Sys2Proof.Machine.execLinkFrameSent port s
  | .memoryOpComplete port tag outcome => Sys2Proof.Machine.execMemoryOpComplete port tag outcome s
  | .fillComplete line read => Sys2Proof.Machine.execFillComplete line read s
  | .writeThroughComplete line outcome => Sys2Proof.Machine.execWriteThroughComplete line outcome s
  | .commandStart => Sys2Proof.Machine.execCommandStart s
  | .assignVerify => Sys2Proof.Machine.execAssignVerify s
  | .assignApply => Sys2Proof.Machine.execAssignApply s
  | .reclaimVerify => Sys2Proof.Machine.execReclaimVerify s
  | .reclaimMark => Sys2Proof.Machine.execReclaimMark s
  | .drainTimeout => Sys2Proof.Machine.execDrainTimeout s
  | .handoff => Sys2Proof.Machine.execHandoff s
  | .retireMark => Sys2Proof.Machine.execRetireMark s
  | .retireHandoff => Sys2Proof.Machine.execRetireHandoff s
  | .shareRangeVerify => Sys2Proof.Machine.execShareRangeVerify s
  | .shareRangeApply => Sys2Proof.Machine.execShareRangeApply s
  | .unshareRangeVerify => Sys2Proof.Machine.execUnshareRangeVerify s
  | .unshareRangeApply => Sys2Proof.Machine.execUnshareRangeApply s
  | .reviveVerify => Sys2Proof.Machine.execReviveVerify s
  | .recountSweep => Sys2Proof.Machine.execRecountSweep s
  | .formatVerify => Sys2Proof.Machine.execFormatVerify s
  | .formatMark => Sys2Proof.Machine.execFormatMark s
  | .formatHandoff => Sys2Proof.Machine.execFormatHandoff s
  | .persistWriteComplete address outcome => Sys2Proof.Machine.execPersistWriteComplete address outcome s
  | .pacingTimerExpiry => Sys2Proof.Machine.execPacingTimerExpiry s
  | .scrubWriteComplete line outcome => Sys2Proof.Machine.execScrubWriteComplete line outcome s
  | .decayTick => Sys2Proof.Machine.execDecayTick s
  | .timestampTick => Sys2Proof.Machine.execTimestampTick s
  | .selfRefreshExit => Sys2Proof.Machine.execSelfRefreshExit s
  | .powerOn => Sys2Proof.Machine.execPowerOn s
  | .powerOnEnd => Sys2Proof.Machine.execPowerOnEnd s
  | .resetLine => Sys2Proof.Machine.execResetLine s
  | .resetLineEnd => Sys2Proof.Machine.execResetLineEnd s
  | .headerReadComplete read => Sys2Proof.Machine.execHeaderReadComplete read s
  | .domainRecordRead read => Sys2Proof.Machine.execDomainRecordRead read s
  | .shareRecordRead read => Sys2Proof.Machine.execShareRecordRead read s
  | .walkStep => Sys2Proof.Machine.execWalkStep s

end Sys2Proof.Machine
end

