-- ==== Sys2Proof/Safety.lean ====
section
/-! DEFINITION. The terms in which claims are stated: which blocks a command may change, what an answered message
leaves in the control port, and the conditions that every step keeps. -/

namespace Sys2Proof.Safety

open Sys2Proof.Machine

/-! ## Frames: what stays as it was -/

/-- The blocks of the part, and its DRAM. -/
inductive Block where
  | dram
  | tc
  | domains
  | shares
  | te
  | su
  | vl
  | eu
  | mc
  | cp
  | portA
  | portB
deriving DecidableEq, Repr

/-- Whether two states hold a block alike. -/
def Block.same : Block → State → State → Prop
  | .dram, s, t => t.dram = s.dram
  | .tc, s, t => t.tc = s.tc
  | .domains, s, t => t.domains = s.domains
  | .shares, s, t => t.shares = s.shares
  | .te, s, t => t.te = s.te
  | .su, s, t => t.su = s.su
  | .vl, s, t => t.vl = s.vl
  | .eu, s, t => t.eu = s.eu
  | .mc, s, t => t.mc = s.mc
  | .cp, s, t => t.cp = s.cp
  | .portA, s, t => t.portA = s.portA
  | .portB, s, t => t.portB = s.portB

/-- At most the blocks of a list differ; the queue of waiting commands is the same. -/
def OnlyChanges (bs : List Block) (s t : State) : Prop := t.pending = s.pending ∧ ∀ b, b ∉ bs → b.same s t

/-- The block of a port. -/
def portBlock : Port → Block
  | .a => .portA
  | .b => .portB

/-- The other port. -/
def otherPort : Port → Port
  | .a => .b
  | .b => .a

/-- Every byte of DRAM reads as before. -/
def SameBytes (s t : State) : Prop := ∀ a, t.dram.readByte a = s.dram.readByte a

/-- Whether MI holds a write given to it now: the channel of its address is in self-refresh (R185). A list of four
channels names every channel. -/
def heldAt (s : State) (a : Nat) : Bool :=
  decide (s.dram.selfRefresh.length = 4) || s.dram.selfRefresh.contains (Config.channelOf a)

/-- MI is given writes of persisted records, by address and bytes and in this order, each held where its channel is in
self-refresh, and DRAM is otherwise as before: no byte has changed yet (R22, R44, R185). -/
def Issues (s t : State) (ws : List (Nat × List Byte)) : Prop :=
  SameBytes s t ∧ t.dram.badUnits = s.dram.badUnits ∧ t.dram.damageCount = s.dram.damageCount ∧
    t.dram.selfRefresh = s.dram.selfRefresh ∧
    t.dram.persist = s.dram.persist ++
      ws.map fun w => { address := w.1, bytes := w.2, held := heldAt s w.1 }

/-- An operation to a byte address that has been issued and has not completed: a fill or a write of a tag line, a write
of a persisted record that is not held, or a write of the scrubber (R91, R184). -/
def InFlight (s : State) (a : Nat) : Prop :=
  (∃ c, s.mc.poolCode = some c ∧
    ((∃ f ∈ s.tc.fills, a = tagLineAddress c f.line) ∨ ∃ w ∈ s.tc.writes, a = tagLineAddress c w.line)) ∨
  (∃ w ∈ s.dram.persist, w.held = false ∧ a = w.address) ∨
  ∃ x, s.su.write = some x ∧ ∃ k ∈ x.inFlight, a = 4096 * x.granule + 64 * k

/-- The channels that have no operation in flight enter self-refresh, those in it stay, and DRAM is otherwise as before
(R184, R185). -/
def EnterSelfRefresh (s t : State) : Prop :=
  t.dram = { s.dram with selfRefresh := t.dram.selfRefresh } ∧
    ∀ ch : Fin 4, ch ∈ t.dram.selfRefresh ↔ ch ∈ s.dram.selfRefresh ∨ ∀ a, InFlight s a → Config.channelOf a ≠ ch

/-- What the scrubber may change when it goes on: its own state, the tags and the commands that it reports to, and the
place that a waiting run takes, but no byte of DRAM and neither the mode nor a flag (R126 to R133). -/
def ScrubberGoesOn (s t : State) : Prop :=
  OnlyChanges [.dram, .tc, .domains, .shares, .te, .su, .mc, .cp] s t ∧ SameBytes s t ∧
    t.dram.selfRefresh = s.dram.selfRefresh ∧
    t.mc = { s.mc with storeState := t.mc.storeState, recovery := t.mc.recovery } ∧
    t.cp.inbound = s.cp.inbound ∧ t.cp.executing = s.cp.executing ∧ t.cp.replies = s.cp.replies

/-- Line `k` of the persisted domain records, as the on-chip records of its two domains give it (R4, R6). -/
def domainLineOf (s : State) (k : Nat) : List Byte :=
  storedDomain (2 * k) (s.domain (BitVec.ofNat 10 (2 * k))) ++
    storedDomain (2 * k + 1) (s.domain (BitVec.ofNat 10 (2 * k + 1)))

/-- Line `k` of the persisted share records, as the on-chip entries of its four places give it (R4, R6). -/
def shareLineOf (s : State) (k : Nat) : List Byte :=
  storedShare (4 * k) (s.share (BitVec.ofNat 8 (4 * k))) ++
    storedShare (4 * k + 1) (s.share (BitVec.ofNat 8 (4 * k + 1))) ++
    storedShare (4 * k + 2) (s.share (BitVec.ofNat 8 (4 * k + 2))) ++
    storedShare (4 * k + 3) (s.share (BitVec.ofNat 8 (4 * k + 3)))

/-- The write of the line that holds a domain's persisted record, as the on-chip records stand in `s` (R4, R22). -/
def domainWrite (s : State) (c : PoolCode) (d : DomainId) : Nat × List Byte :=
  (domainAddress c (2 * (d.toNat / 2)), domainLineOf s (d.toNat / 2))

/-- The write of the line that holds a share entry's persisted record, as the on-chip entries stand in `s` (R4, R44). -/
def shareWrite (s : State) (c : PoolCode) (i : ShareIx) : Nat × List Byte :=
  (shareAddress c (4 * (i.toNat / 4)), shareLineOf s (i.toNat / 4))

/-- The record of one domain becomes `r`, and every other domain's stays as it was. -/
def DomainBecomes (s t : State) (d : DomainId) (r : DomainRec) : Prop :=
  t.domain d = r ∧ ∀ e, e ≠ d → t.domain e = s.domain e

/-- One share entry becomes `x`, and every other entry stays as it was. -/
def ShareBecomes (s t : State) (i : ShareIx) (x : ShareEntry) : Prop :=
  t.share i = x ∧ ∀ k, k ≠ i → t.share k = s.share k

/-- The live command of a ticket becomes `c`, and every other live command stays as it was. -/
def CmdBecomes (s t : State) (k : Ticket) (c : Cmd) : Prop :=
  t.cmd k = some c ∧ t.te.counter = s.te.counter ∧ ∀ j, j ≠ k → t.cmd j = s.cmd j

/-! ## Messages -/

/-- The dispatcher can begin the oldest frame, whose body is `f`; `rest` waits behind it (R174). -/
def Begins (s : State) (f : List Byte) (rest : List (List Byte)) : Prop :=
  s.mc.inReset = none ∧ s.cp.executing = none ∧ s.cp.resetWait = false ∧ s.cp.replies.length < 8 ∧
    s.cp.inbound = f :: rest

/-- The control port once the frame has been answered with reply kind KIND + 0x80: the frame has left the inbound queue
and the reply stands at the end of the reply list; a free transmitter has begun the oldest reply (R174, R175, R177). -/
def answeredCp (cp : ControlPort) (f : List Byte) (rest : List (List Byte)) (st : Status) (results : List Byte) :
    ControlPort :=
  { cp with
    inbound := rest
    executing := none
    replies := cp.replies ++ [{ kind := f.headD 0 + 0x80, seq := f.getD 1 0, status := st, results := results }]
    transmitter := if cp.transmitter = .free then .reply else cp.transmitter }

/-- The message has been answered with a status and results, and has changed nothing but the control port. -/
def Answered (s t : State) (f : List Byte) (rest : List (List Byte)) (st : Status) (results : List Byte) : Prop :=
  OnlyChanges [.cp] s t ∧ t.cp = answeredCp s.cp f rest st results

/-- A refused message: its reply carries a status and no results, and nothing else has changed (R175). -/
def Refused (s t : State) (f : List Byte) (rest : List (List Byte)) (st : Status) : Prop := Answered s t f rest st []

/-! ## Tags -/

/-- A set of the tag cache in order: eight ways numbered apart, and no line in two of them (R77, R78). -/
def setWf (ws : CacheSet) : Prop :=
  ws.length = 8 ∧ (ws.map Prod.fst).Nodup ∧
    (ws.filterMap fun w => match w.2 with
      | .empty => none
      | .valid j _ => some j
      | .pending j => some j).Nodup

/-- The tag cache in order: each set in order, and each fill's way PENDING for its line (R77, R78, R79). -/
def cacheWf (tc : TagCache) : Prop :=
  (∀ j, setWf (tc.set j)) ∧ (tc.fills.map Fill.line).Nodup ∧
    ∀ f ∈ tc.fills, (f.way, WayState.pending f.line) ∈ tc.set f.line

/-- A tag line is cached with these records, in a set in order. -/
def Cached (s : State) (j : Nat) (line : TagLine) : Prop :=
  setWf (s.tc.set j) ∧ ∃ way, (way, WayState.valid j line) ∈ s.tc.set j

/-- TC holds what it held, but for the recency order of the set of a line (R77). -/
def OnlyRecency (s t : State) (j : Nat) : Prop :=
  t.tc.fills = s.tc.fills ∧ t.tc.stalled = s.tc.stalled ∧ t.tc.writes = s.tc.writes ∧ t.tc.held = s.tc.held ∧
    (∀ k, Machine.setOf k ≠ Machine.setOf j → t.tc.set k = s.tc.set k) ∧ (t.tc.set j).Perm (s.tc.set j)

/-- One record of a cached line is replaced, and the write-through of the line placed in the write list; every other
line is cached as before (R7, R86). -/
def Rewrites (s t : State) (g : Nat) (line : TagLine) (r : TagRec) : Prop :=
  t.tc.fills = s.tc.fills ∧ t.tc.stalled = s.tc.stalled ∧ t.tc.held = s.tc.held ∧
    t.tc.writes = s.tc.writes ++ [{ line := lineOf g, recs := line.set (g % 4) r }] ∧
    Cached t (lineOf g) (line.set (g % 4) r) ∧ ∀ k, k ≠ lineOf g → t.tc.validLine k = s.tc.validLine k

/-- A change or a completion waits for room in the write list, the last of those that wait; TC is otherwise as before,
but for the recency order of the set of a line (R86, R87). -/
def Holds (s t : State) (j : Nat) (h : Held) : Prop :=
  t.tc.held = s.tc.held ++ [h] ∧ OnlyRecency s (t.setTc { t.tc with held := s.tc.held }) j

/-- The scrubber has nothing to do until a run is closed, and no change to SUSPENDED is near: the list is empty or its
head is open, no granule is being written or waits for its change, and the timer is stopped (R127). -/
def Quiet (s : State) : Prop :=
  s.su.write = none ∧ s.su.waiting = none ∧ s.su.pacing = none ∧ (∀ r ∈ s.su.runs.head?, r.isOpen = true) ∧
    s.mc.mode ≠ .suspended ∧ s.mc.pendingTarget ≠ some .suspended

/-- The engine holds this command with this work, ready for its next unit, and no reset is in effect. -/
def Engaged (s : State) (w : Work) (c : Cmd) : Prop :=
  s.mc.inReset = none ∧ s.te.current = some w ∧ s.cmd w.ticket = some c ∧ w.busy = false

/-! ## Requests -/

/-- The decision order of R54 from step 4 on in ENFORCE, as one list of conditions: the reason, whether the step is
scored, and whether it is logged. `tag` is the tag of the request's granule. -/
def enforceStep (s : State) (e : Entry) (tag : Tag) : Reason × Bool × Bool :=
  let a := 64 * e.lineNo.toNat
  let g := a / 4096
  let d := s.domain e.domain
  if s.mc.poolCode = none ∨ granules s.mc.poolCode * 4096 ≤ a then (.unbacked, false, false)
  else if d.state = .closed then (.unknownDomain, false, true)
  else if d.state = .retiring then (.retiring, false, true)
  else if d.score ≥ 256 then (.quarantined, false, true)
  else if e.outside = true then (.outsideAperture, true, true)
  else if s.tenants ≤ g then (.privateRegion, true, true)
  else if tag.kind = .poisoned then (.poisoned, false, true)
  else if tag.kind = .draining ∨ tag.kind = .scrubbing then (.reclaiming, tag.owner ≠ some e.domain, true)
  else if tag.kind = .free then (.freeGranule, true, true)
  else if s.applicableRights e.domain tag = none then (.notOwner, true, true)
  else if e.op = .write ∧ s.applicableRights e.domain tag = some .ro then (.writeDenied, true, true)
  else if e.op = .write ∧ 128 ≤ d.score then (.restricted, true, true)
  else (.none, false, false)

/-- The same in MONITOR: steps 7 and 16 are not applied (R67). The last component says whether the request is served. -/
def monitorStep (s : State) (e : Entry) (tag : Tag) : Reason × Bool × Bool × Bool :=
  let a := 64 * e.lineNo.toNat
  let g := a / 4096
  let d := s.domain e.domain
  let early := decide (g < s.tenants) && (tag.kind = .owned || tag.kind = .shared)
  if s.mc.poolCode = none ∨ granules s.mc.poolCode * 4096 ≤ a then (.unbacked, false, false, false)
  else if d.state = .closed then (.unknownDomain, false, true, early)
  else if d.state = .retiring then (.retiring, false, true, early)
  else if e.outside = true then (.outsideAperture, true, true, early)
  else if s.tenants ≤ g then (.privateRegion, true, true, false)
  else if tag.kind = .poisoned then (.poisoned, false, true, false)
  else if tag.kind = .draining ∨ tag.kind = .scrubbing then (.reclaiming, tag.owner ≠ some e.domain, true, false)
  else if tag.kind = .free then (.freeGranule, true, true, false)
  else if s.applicableRights e.domain tag = none then (.notOwner, true, true, true)
  else if e.op = .write ∧ s.applicableRights e.domain tag = some .ro then (.writeDenied, true, true, true)
  else (.none, false, false, true)

/-! ## Conditions that every step keeps -/

/-- The record of a domain within the bounds of R31: score at most 256, and 256 exactly with the latch set (R34). -/
def scoreWf (r : DomainRec) : Prop := r.score ≤ 256 ∧ (r.latch = true ↔ r.score = 256)

/-- The domain table within its bounds: every score within R31's, and domain 0 OPEN with score 0 (R20), which no live
RETIRE names (R96). Recovery reads the 512 lines of the persisted domain records and no other (R4, R38). -/
def domainsWf (s : State) : Prop :=
  (∀ d, scoreWf (s.domain d)) ∧ (s.domain 0).state = .opened ∧ (s.domain 0).score = 0 ∧
    (∀ c ∈ s.te.table, ∀ b, c.command ≠ .retire 0 b) ∧
    ∀ n, s.mc.recovery = some (.domains n) → n < 512

/-- A port within its capacities: a tag limit of 1 to 64, at most 64 entries with distinct tags, at most 8 unentered
refusals and one ANNOUNCE_ACK (R137, R146, R147). -/
def portWf (p : PortRec) : Prop :=
  1 ≤ p.tagLimit ∧ p.tagLimit ≤ 64 ∧ p.table.length ≤ 64 ∧ (p.table.map Entry.tag).Nodup ∧
    (p.sendList.filter SendItem.isRefusal).length ≤ 8 ∧ (p.sendList.filter SendItem.isAck).length ≤ 1

/-- The collections within their capacities (R78, R93, R125, R159, R173, R177), the drain snapshot within the 128
entries of the two ports (R105). The notice queue stands in `noticesWf`. -/
def withinCapacity (s : State) : Prop :=
  s.cp.inbound.length ≤ 4 ∧ s.cp.placesUsed ≤ 8 ∧ s.vl.records.length ≤ 32 ∧ s.te.table.length ≤ 16 ∧
    s.su.runs.length ≤ 64 ∧ s.tc.fills.length ≤ 16 ∧ s.tc.writes.length ≤ 32 ∧ portWf s.portA ∧ portWf s.portB ∧
    ∀ w, s.te.current = some w → w.snapshot.length ≤ 128

/-- An EVENT notice that waits to be begun (R166). -/
def isWaitingEvent (q : QueuedNotice) : Bool :=
  match q.notice, q.number with
  | .event _, none => true
  | _, _ => false

/-- The ticket of a COMPLETION notice (R122). -/
def completionTicket (q : QueuedNotice) : Option Ticket :=
  match q.notice with
  | .completion k _ _ _ _ => some k
  | _ => none

/-- A START notice (R194). -/
def isStart (q : QueuedNotice) : Bool :=
  match q.notice with
  | .start _ _ _ _ _ => true
  | _ => false

/-- The mode during a warm reset and during recovery is RECOVERING, with no change pending; no recovery goes on while a
reset is in effect (R181, R189, R191). -/
def recoveryWf (s : State) : Prop :=
  (s.mc.inReset ≠ none → s.mc.recovery = none) ∧
    (s.mc.inReset = some .resetLine ∨ s.mc.recovery ≠ none →
      s.mc.mode = .recovering ∧ s.mc.pendingTarget = none)

/-- The mode, the suspend origin and the pending target in order: the origin is ENFORCE or MONITOR in SUSPENDED and absent
in any other mode (R181); in SUSPENDED only the return to the origin is pending, in ENFORCE or MONITOR only CONFIG or
SUSPENDED, and in any other mode nothing (R182). -/
def modeWf (s : State) : Prop :=
  (if s.mc.mode = .suspended then s.mc.suspendOrigin = some .enforce ∨ s.mc.suspendOrigin = some .monitor
   else s.mc.suspendOrigin = none) ∧
    ∀ t, s.mc.pendingTarget = some t →
      if s.mc.mode = .suspended then s.mc.suspendOrigin = some t
      else (s.mc.mode = .enforce ∨ s.mc.mode = .monitor) ∧ (t = .config ∨ t = .suspended)

/-- The scrubber's write granule in order: its writes, completed and in flight, are at most its 64 lines (R128), and
outside SUSPENDED one whose writes have all completed has given its place to the change that waits, unless another
change waits (R129, R133). The mode is in order, so that no mode but the origin follows SUSPENDED. -/
def scrubberWf (s : State) : Prop :=
  recoveryWf s ∧ modeWf s ∧
    ∀ x, s.su.write = some x →
      x.completed + x.inFlight.length ≤ 64 ∧
        (s.mc.mode ≠ .suspended → x.completed < 64 ∨ s.su.waiting.isSome = true)

/-- The notice queue and the command table in order. The queue holds at most 18 notices (R178): one COMPLETION notice
at most for each live command, which is in NOTIFY (R122), one waiting EVENT notice (R166), a START notice at its head
alone; a notice has its number exactly when it is being sent. Live commands have distinct tickets (R94), and the
engine's is one of them, in a phase from VERIFY to HANDOFF (R98). During a reset and during recovery there is neither
notice nor command, and nothing that could place one (R189, R191). -/
def noticesWf (s : State) : Prop :=
  s.cp.notices.length ≤ 18 ∧ s.te.table.length ≤ 16 ∧ (s.te.table.map Cmd.ticket).Nodup ∧
    (∀ w, s.te.current = some w →
      ∃ c, s.cmd w.ticket = some c ∧ c.phase ≠ .queued ∧ c.phase ≠ .scrub ∧ c.phase ≠ .notify) ∧
    (s.cp.notices.filterMap completionTicket).Nodup ∧
    (∀ k ∈ s.cp.notices.filterMap completionTicket, ∃ c, s.cmd k = some c ∧ c.phase = .notify) ∧
    s.cp.notices.countP isWaitingEvent ≤ 1 ∧ (∀ q ∈ s.cp.notices.tail, q.number = none ∧ isStart q = false) ∧
    (s.cp.transmitter = .notice ↔ ∃ q, s.cp.notices.head? = some q ∧ q.number ≠ none) ∧
    recoveryWf s ∧
    (s.mc.inReset ≠ none ∨ s.mc.recovery ≠ none →
      s.cp.notices = [] ∧ s.te.table = [] ∧ s.te.current = none ∧ s.eu.enabled = 0 ∧ s.mc.pendingTarget = none)

/-! ## What resets leave -/

/-- The values that every kind of reset brings to the blocks and the tables when it takes effect (R21, R50, R77, R92,
R124, R135 to R137, R169, R180, R187, R189). -/
def ResetValues (t : State) : Prop :=
  t.vl.records = [] ∧ t.vl.overflow = false ∧ t.vl.frozen = false ∧ t.vl.hold = false ∧ t.vl.missed = 0 ∧
    t.eu.flags = 0 ∧ t.eu.enabled = 0 ∧ t.eu.alertLow = false ∧
    (t.cp.receiver = .hunt ∧ t.cp.inbound = [] ∧ t.cp.executing = none ∧ t.cp.resetWait = false ∧ t.cp.replies = [] ∧
      t.cp.notices = [] ∧ t.cp.transmitter = .free ∧ t.cp.noticeNumber = 0 ∧ t.cp.frameErrors = 0) ∧
    (t.tc.fills = [] ∧ t.tc.stalled = [] ∧ t.tc.writes = [] ∧ t.tc.held = [] ∧
      ∀ j, t.tc.set j = (List.range 8).map fun way => (way, WayState.empty)) ∧
    (t.te.table = [] ∧ t.te.current = none ∧ t.te.counter = 1) ∧
    (t.su.runs = [] ∧ t.su.write = none ∧ t.su.waiting = none ∧ t.su.pacing = none) ∧
    (t.dram.persist = [] ∧ t.dram.selfRefresh = []) ∧
    (t.mc.pendingTarget = none ∧ t.mc.suspendOrigin = none ∧ t.mc.storeState = .unformatted ∧ t.mc.poolCode = none ∧
      t.mc.countsStale = false ∧ t.mc.scrubInterval = 3 ∧ t.mc.decayCode = 24 ∧ t.mc.drainTimeout = 20 ∧
      t.mc.timestamp = 0 ∧ t.mc.decayTimer = none) ∧
    (∀ d : DomainId, t.domain d =
      { state := if d = 0 then .opened else .closed, quota := 0, held := 0, score := 0, latch := false }) ∧
    (∀ i : ShareIx, t.share i = { inUse := false, owner := 0, pattern := 0, mask := 0, rights := .ro, refcount := 0 }) ∧
    ∀ p, (t.port p).enabled = true ∧ (t.port p).link = .down ∧ (t.port p).tagLimit = 64 ∧ (t.port p).poison = false ∧
      (t.port p).origin = .none ∧ (t.port p).timeoutCode = 2 ∧ (t.port p).linkTimer = none ∧
      (t.port p).apertureOn = false ∧ (t.port p).apertureFirst = 0 ∧ (t.port p).apertureLast = 0 ∧
      (t.port p).watchOn = false ∧ (t.port p).watchGranule = 0 ∧ (t.port p).integrity = 0 ∧
      (t.port p).lastReason = .none ∧ (t.port p).table = [] ∧ (t.port p).sendList = [] ∧ (t.port p).ackAgain = false

/-! ## The recovery walk -/

/-- The four records of a line in granule order (R7). -/
def lineTags (line : TagLine) : List TagRec := [line.r0, line.r1, line.r2, line.r3]

/-- The domain that holds a granule with this tag: the owner of an OWNED or SHARED tag (R11). -/
def heldBy : Tag → Option DomainId
  | .owned o _ => some o
  | .shared o _ _ => some o
  | _ => none

/-- Whether the walk requeues a tag (R192). -/
def requeues (t : Tag) : Bool := t.kind == .draining || t.kind == .scrubbing

/-- A record as the walk leaves it: a DRAINING or SCRUBBING tag is SCRUBBING with its owner and no ticket, a SHARED tag
whose entry is not IN_USE with its owner is OWNED, and any other stands (R52, R192). -/
def walkedRec (s : State) (r : TagRec) : TagRec :=
  if requeues r.tag then { r with tag := .scrubbing r.tag.owner none }
  else
    match r.tag with
    | .shared o rights i =>
      if (s.share i).inUse = true ∧ (s.share i).owner = o then r else { r with tag := .owned o rights }
    | _ => r

/-- Whether the walk writes a record: it requeues its tag, or changes it (R192). -/
def walkWrites (s : State) (r : TagRec) : Bool := requeues r.tag || decide (walkedRec s r ≠ r)

/-- A line of which the walk has taken the places from `k` to before `n`. -/
def walkedLine (s : State) (line : TagLine) (k n : Nat) : TagLine :=
  let rec_ (i : Nat) : TagRec := if k ≤ i ∧ i < n then walkedRec s (line.get i) else line.get i
  { r0 := rec_ 0, r1 := rec_ 1, r2 := rec_ 2, r3 := rec_ 3 }

/-- The scrub list as the walk builds it, whether its run is open, and the runs it has requeued (R192). -/
structure WalkRuns where
  runs : List Run
  isOpen : Bool
  requeued : Nat

/-- The open run is closed, and counted when it holds a granule (R192). -/
def WalkRuns.close (x : WalkRuns) : WalkRuns :=
  match x.isOpen, x.runs.getLast? with
  | true, some r =>
    { runs := x.runs.dropLast ++ [{ r with isOpen := false }], isOpen := false
      requeued := x.requeued + if r.count = 0 then 0 else 1 }
  | _, _ => { x with isOpen := false }

/-- The walk takes a granule: one to be requeued joins the open run, which is opened for it where there is none and
closed when it holds 1,048,576; any other closes the open run (R192). -/
def WalkRuns.take (x : WalkRuns) (g : Nat) (t : Tag) : WalkRuns :=
  if requeues t then
    let y := if x.isOpen then x else
      { x with runs := x.runs ++ [{ first := g, count := 0, ticket := none, isOpen := true }], isOpen := true }
    match y.runs.getLast? with
    | none => y
    | some r =>
      let z := { y with runs := y.runs.dropLast ++ [{ r with count := r.count + 1 }] }
      if 1048576 ≤ r.count + 1 then z.close else z
  else x.close

/-! ## The control port -/

/-- The messages of the host with the KIND and the length of body that their rows give (Request bodies). -/
def messageRows : List (Instr × Byte × Nat) :=
  [(.assign, 0x10, 14), (.reclaim, 0x11, 13), (.shareRange, 0x12, 12), (.unshareRange, 0x13, 12), (.retire, 0x14, 4),
    (.recount, 0x15, 3), (.revive, 0x16, 10), (.format, 0x17, 3), (.cancel, 0x18, 4), (.ticketStatus, 0x19, 4),
    (.domainOpen, 0x20, 8), (.domainQuota, 0x21, 8), (.domainClose, 0x22, 4), (.domainClearScore, 0x23, 4),
    (.domainStatus, 0x24, 4)] ++
  [(.shareCreate, 0x28, 9), (.shareDelete, 0x29, 4), (.shareStatus, 0x2A, 4), (.tagRead, 0x30, 6), (.survey, 0x31, 10),
    (.logRead, 0x38, 3), (.logControl, 0x39, 6), (.eventEnable, 0x3C, 6), (.eventClear, 0x3D, 4), (.portSet, 0x40, 20),
    (.portStatus, 0x41, 3), (.portClear, 0x42, 5), (.modeRequest, 0x48, 3), (.settings, 0x49, 7),
    (.partStatus, 0x4A, 3), (.reset, 0x4B, 3)]

/-- The control port once its arbiter has looked: a free transmitter begins the oldest reply, else the oldest notice,
which takes the notice number, and an EVENT notice the flag set as it stands (R166, R177, R178). -/
def begins (cp : ControlPort) (flags : FlagSet) : ControlPort :=
  if cp.transmitter ≠ .free then cp
  else
    match cp.replies, cp.notices with
    | _ :: _, _ => { cp with transmitter := .reply }
    | [], [] => cp
    | [], q :: rest =>
      let sent := match q.notice with
        | .event none => Notice.event (some flags)
        | n => n
      { cp with notices := { notice := sent, number := some cp.noticeNumber } :: rest
                transmitter := .notice
                noticeNumber := cp.noticeNumber + 1 }

/-- The control port once a notice has been placed (R178). -/
def noticed (cp : ControlPort) (flags : FlagSet) (n : Notice) : ControlPort :=
  begins { cp with notices := cp.notices ++ [{ notice := n, number := none }] } flags

/-- The command record of a command that has entered NOTIFY (R93, R122). -/
def notified (c : Cmd) (st : Completion) : Cmd := { c with phase := .notify, status := some st }

/-- The control port once a command's COMPLETION notice has been placed (R122). -/
def completed (s : State) (c : Cmd) (st : Completion) : ControlPort :=
  noticed s.cp s.eu.flags (.completion c.ticket c.command st c.doneCount c.poisonedCount)

/-- A ticketed command has been accepted: it has the last place of the table, phase QUEUED, its counts 0, with the next
ticket that no live command holds, and its reply carries that ticket (R94, R95). -/
def Accepted (s t : State) (f : List Byte) (rest : List (List Byte)) (c : Command) : Prop :=
  let k := s.te.nextFree
  t.cp = answeredCp s.cp f rest .accepted (beBytes 2 k.toNat) ∧
    t.te = { s.te with
      table := s.te.table ++
        [{ ticket := k, command := c, phase := .queued, doneCount := 0, poisonedCount := 0, runs := 0, status := none }]
      counter := nextTicket k }

/-- The part takes ticketed commands other than FORMAT (R95, orders 1 to 3 and 5). -/
def Accepting (s : State) : Prop :=
  s.mc.mode ≠ .recovering ∧ s.mc.storeState = .formatted ∧ s.mc.pendingTarget ≠ some .config ∧ s.te.table.length < 16

/-- The refusal of a ticketed command other than FORMAT, kind's own checks included (R95). -/
def refusalOf (s : State) (own : Option Status) : Option Status :=
  if s.mc.mode = .recovering then some .wrongMode
  else if s.mc.storeState ≠ .formatted then some .notFormatted
  else if s.mc.pendingTarget = some .config then some .wrongMode
  else if own ≠ none then own
  else if 16 ≤ s.te.table.length then some .busy
  else none

/-- A range within the tenant granules, of 1 to 1,048,576 granules (R96). -/
abbrev rangeOk (s : State) (first count : Nat) : Prop := 1 ≤ count ∧ count ≤ 1048576 ∧ first + count ≤ s.tenants

/-- The part takes the messages that change the domain and share tables (R23, R45). -/
def TablesOpen (s : State) : Prop :=
  s.mc.mode ≠ .recovering ∧ s.mc.mode ≠ .suspended ∧ s.mc.storeState = .formatted

/-- The refusal of a message that changes the domain or share tables, its own checks included (R23, R45). -/
def tableRefusal (s : State) (own : Option Status) : Option Status :=
  if s.mc.mode = .recovering ∨ s.mc.mode = .suspended then some .wrongMode
  else if s.mc.storeState ≠ .formatted then some .notFormatted
  else own

/-! ## Bytes -/

/-- The bytes of DRAM from an address on read as `new`, and every byte outside them reads as before. -/
def WritesAt (d e : Dram) (a : Nat) (new : List Byte) : Prop :=
  e.read a new.length = new ∧ ∀ b, b < a ∨ a + new.length ≤ b → e.readByte b = d.readByte b

/-- No byte outside `n` bytes from an address on has changed. -/
def OnlyBytesAt (d e : Dram) (a n : Nat) : Prop := ∀ b, b < a ∨ a + n ≤ b → e.readByte b = d.readByte b

/-! ## What a decision leaves -/

/-- A record handed to VL, and the freezing of the log with the record of an entry to QUARANTINED (R33, R160). -/
def storeEvent (timestamp : BitVec 32) (l : Log) (e : LogEvent) : Log :=
  let l' := l.store { event := e, timestamp := timestamp, superseded := 0 }
  match e with
  | .standing _ .quarantined => if l.hold then { l' with frozen := true } else l'
  | _ => l'

/-- Whether a ruling is counted against the domain: the step is scored and the domain is not domain 0 (R31). -/
def counts (e : Entry) (r : Ruling) : Bool := r.scored && e.domain != 0

/-- The standing that a ruling leaves its domain with (R31, R32). -/
def standingAfter (s : State) (e : Entry) (r : Ruling) : Standing :=
  if counts e r then standingOf (min ((s.domain e.domain).score + 8) 256) else (s.domain e.domain).standing

/-- Whether a port's watch entry sees a decision (R71). -/
def watched (s : State) (p : Port) (e : Entry) : Bool :=
  (s.port p).watchOn && (s.port p).watchGranule == granuleOf e.lineNo

/-- The log records that a decision hands over, in the order of R65. -/
def decisionEvents (s : State) (p : Port) (e : Entry) (r : Ruling) : List LogEvent :=
  (if r.logged then
    [LogEvent.deny p e.domain (granuleOf e.lineNo) (lineInGranule e.lineNo) e.op r.reason r.served r.seen] else []) ++
  (if standingAfter s e r ≠ (s.domain e.domain).standing ∧
      (standingAfter s e r = .restricted ∨ standingAfter s e r = .quarantined) then
    [LogEvent.standing e.domain (standingAfter s e r)] else []) ++
  (if watched s p e then [LogEvent.watch p e.domain (granuleOf e.lineNo) (lineInGranule e.lineNo) e.op r.seen] else [])

/-- The flags of a list have become set; every other flag and every enable is as it was. -/
def FlagsSet (s t : State) (fs : List EventFlag) : Prop :=
  t.eu.enabled = s.eu.enabled ∧ ∀ f, hasFlag t.eu.flags f = (hasFlag s.eu.flags f || decide (f ∈ fs))

/-- The flags that storing one or more records sets: LOG_OVERFLOW where OVERFLOW becomes set, LOG_NONEMPTY where the log
held no unread record and was not FROZEN (R159). -/
def storingFlags (s t : State) : List EventFlag :=
  (if t.vl.overflow && !s.vl.overflow then [.logOverflow] else []) ++
    if s.vl.frozen = false ∧ s.vl.records = [] then [.logNonempty] else []

/-- The conditions under which a request with a tag is admitted: the port is UP and steps 1 to 3 pass (R54, R145). -/
def Admits (s : State) (p : Port) (t : ReqTag) : Prop :=
  s.mc.inReset = none ∧ (s.port p).link = .up ∧ (s.port p).table.length < (s.port p).tagLimit ∧
    (∀ e ∈ (s.port p).table, e.tag ≠ t) ∧ (s.mc.mode = .enforce ∨ s.mc.mode = .monitor) ∧
    s.mc.pendingTarget ≠ some .suspended

/-- The entry of a request as R146 has it at admission. -/
def admitted (p : PortRec) (t : ReqTag) (d : DomainId) (op : Opcode) (n : LineNo) (data : List Byte) : Entry :=
  { tag := t, domain := d, op := op, lineNo := n, data := data
    outside := p.apertureOn && (decide (granuleOf n < p.apertureFirst) || decide (p.apertureLast < granuleOf n))
    stage := .checking, orphan := false, response := none }

/-- The outcome of a refusal: POISON for a READ of a peer that supports poison, else ABORT (R68). -/
def refusalOutcome (p : PortRec) (op : Opcode) : RespOutcome := if op = .read ∧ p.poison = true then .poison else .abort

/-- A port once a decision has been carried out on its entry `e` (R64, R68, R72, R146): served, the entry is FORWARDED;
refused, its response is the newest frame of the send list, or, for an orphan, the entry is removed. -/
def portDecides (p : PortRec) (e : Entry) (served : Bool) (reason : Reason) : PortRec :=
  if served then { p with table := p.table.map fun x => if x.tag = e.tag then { x with stage := .forwarded } else x }
  else if e.orphan then { p with table := p.table.filter fun x => x.tag != e.tag }
  else
    let resp : Response := { outcome := refusalOutcome p e.op, reason := reason, data := [] }
    { p with
      table := p.table.map fun x => if x.tag = e.tag then { x with data := [], response := some resp } else x
      sendList := p.sendList ++ [.response e.tag] }

/-- The drain snapshot and the command in DRAIN after the removal of entries (R105): entries that are not in the
snapshot change nothing, the removal of the last ones ends the drain, and any others leave the snapshot. -/
def SnapshotLoses (s t : State) (xs : List (Port × ReqTag)) : Prop :=
  match s.te.current with
  | none => t.te = s.te
  | some w =>
    let left := w.snapshot.filter fun y => !xs.contains y
    if left = w.snapshot then t.te = s.te
    else if left ≠ [] then t.te = { s.te with current := some { w with snapshot := left } }
    else
      ∀ c, s.cmd w.ticket = some c →
        CmdBecomes s t w.ticket { c with phase := .handoff } ∧
          t.te.current = some { w with snapshot := [], timer := none, cursor := c.command.start }

/-- The entries of a port that are answered in its send list, by port and tag (R142). -/
def answeredIn (s : State) (p : Port) : List (Port × ReqTag) :=
  (s.port p).sendList.filterMap fun i => match i with
    | .response t => some (p, t)
    | _ => none

/-- The port record of a link that has gone to DOWN or DISABLED (R142): the entries answered in the send list removed,
the others orphans, the send list empty, the integrity count 0, the timer stopped. -/
def downRecord (p : PortRec) (dest : LinkState) : PortRec :=
  { p with
    table := (p.table.filter fun e => !(p.sendList.contains (SendItem.response e.tag))).map
      fun e => { e with orphan := true }
    sendList := [], ackAgain := false, integrity := 0, linkTimer := none, link := dest }

/-! ## What the engine's units leave -/

/-- The row that takes VERIFY from tag to tag for a command. -/
def verifyRow : Command → Option Instr
  | .assign .. => some .assignVerify
  | .reclaim .. => some .reclaimVerify
  | .shareRange .. => some .shareRangeVerify
  | .unshareRange .. => some .unshareRangeVerify
  | .revive .. => some .reviveVerify
  | _ => none

/-- The status with which VERIFY fails on a tag, `none` where the tag passes (R101, R103, R112, R113). `owner` is the
owner that a SHARE_RANGE has read of its entry, `inRun` whether the granule lies in a run. An ASSIGN's wait for a
SCRUBBING tag stands apart. -/
def tagFails (owner : DomainId) (inRun : Bool) (t : Tag) : Command → Option Completion
  | .assign .. => if t = .free then none else some .notFree
  | .reclaim _ _ o force =>
    if t.kind = .owned ∧ t.owner = some o then none
    else if t.kind = .shared ∧ t.owner = some o then (if force then none else some .sharedInUse)
    else some .wrongOwner
  | .shareRange .. =>
    if t.kind = .owned ∧ t.owner = some owner then none
    else if t.kind = .shared then some .alreadyShared
    else some .wrongOwner
  | .unshareRange _ _ i => if t.share = some i then none else some .wrongShare
  | .revive .. => if t.kind = .poisoned ∧ inRun = false then none else some .notPoisoned
  | _ => none

/-- The status with which VERIFY fails after its last tag has passed, `none` where it passes (R101, R112). -/
def lastFails (s : State) (owner : DomainId) : Command → Option Completion
  | .assign _ _ d _ _ => if (s.domain d).state = .opened then none else some .unknownDomain
  | .shareRange _ _ i => if (s.share i).inUse = true ∧ (s.share i).owner = owner then none else some .wrongShare
  | _ => none

/-- The engine's command has entered NOTIFY with a status: its slot holds it, the engine is IDLE, and its COMPLETION
notice has been placed (R98, R122). `c` is the command's record with its counts as they are in the notice. -/
def Notified (s u : State) (c : Cmd) (st : Completion) : Prop :=
  CmdBecomes s u c.ticket (notified c st) ∧ u.te.current = none ∧ u.cp = completed s c st

/-- DONE, or DONE_WITH_POISON when granules of the command ended POISONED (R102, R108). -/
def doneOf (c : Cmd) : Completion := if c.poisonedCount = 0 then .done else .doneWithPoison

/-- The engine goes on with the granule after the one it has reached, its command's record now `c` (R99). -/
def GoesOn (s u : State) (w : Work) (c : Cmd) : Prop :=
  CmdBecomes s u w.ticket c ∧ u.te.current = some { w with cursor := w.cursor + 1 }

/-- The entries of both ports that are FORWARDED and whose granule satisfies a condition, by port and tag, in a drain
snapshot (R105). -/
def forwardedIn (s : State) (p : Nat → Bool) : List (Port × ReqTag) :=
  ((s.portA.table.filter fun e => e.stage == .forwarded && p (granuleOf e.lineNo)).map fun e => (Port.a, e.tag)) ++
    (s.portB.table.filter fun e => e.stage == .forwarded && p (granuleOf e.lineNo)).map fun e => (Port.b, e.tag)

/-- A command has entered its drain with a snapshot: DRAIN with the timer started, or HANDOFF at once where the
snapshot is empty (R105, R106). -/
def Drains (s u : State) (w : Work) (c : Cmd) (snapshot : List (Port × ReqTag)) : Prop :=
  CmdBecomes s u w.ticket { c with phase := if snapshot = [] then .handoff else .drain } ∧
    u.te.current = some { w with
      snapshot := snapshot
      timer := if snapshot = [] then none else some s.mc.drainTimeout.toNat
      cursor := c.command.start }

/-- The record that an apply writes over a granule's record, `none` where it skips it (R102, R112). -/
def applied (r : TagRec) : Command → Option TagRec
  | .assign _ _ d rights _ => if r.tag = .free then some { tag := .owned d rights, generation := r.generation + 1 } else none
  | .shareRange _ _ i =>
    match r.tag with
    | .owned o rights => some { r with tag := .shared o rights i }
    | _ => none
  | .unshareRange _ _ i =>
    match r.tag with
    | .shared o rights k => if k = i then some { r with tag := .owned o rights } else none
    | _ => none
  | _ => none

/-- The row of an apply. -/
def applyRow : Command → Option Instr
  | .assign .. => some .assignApply
  | .shareRange .. => some .shareRangeApply
  | .unshareRange .. => some .unshareRangeApply
  | _ => none

/-- The counts that an apply changes with a tag: the held count of an ASSIGN's domain, the refcount of a share command's
entry (R11, R102, R112). -/
def AppliesCounts (s u : State) : Command → Prop
  | .assign _ _ d _ _ => DomainBecomes s u d { s.domain d with held := (s.domain d).held + 1 } ∧ u.shares = s.shares
  | .shareRange _ _ i => ShareBecomes s u i { s.share i with refcount := (s.share i).refcount + 1 } ∧ u.domains = s.domains
  | .unshareRange _ _ i =>
    ShareBecomes s u i { s.share i with refcount := (s.share i).refcount - 1 } ∧ u.domains = s.domains
  | _ => True

/-- The domain whose tags a RECLAIM or RETIRE moves to DRAINING (R104, R109). -/
def draining? : Command → Option DomainId
  | .reclaim _ _ o _ => some o
  | .retire d _ => some d
  | _ => none

/-- What MARK's move of a tag to DRAINING takes from the counts: 1 from the owner's held count, and for a SHARED tag 1
from the refcount of its entry (R11, R104). -/
def MarkCounts (s u : State) (o : DomainId) (t : Tag) : Prop :=
  DomainBecomes s u o { s.domain o with held := (s.domain o).held - 1 } ∧
    match t.share with
    | some i => ShareBecomes s u i { s.share i with refcount := (s.share i).refcount - 1 }
    | none => u.shares = s.shares

/-- The tag that HANDOFF writes over a tag, `none` where the granule cannot be converted (R107). -/
def converted (t : Tag) (k : Ticket) : Command → Option Tag
  | .revive .. => if t.kind = .poisoned then some (.scrubbing t.owner (some k)) else none
  | _ => if t.kind = .draining ∧ t.ticket = some k then some (.scrubbing t.owner (some k)) else none

/-- The row of HANDOFF for a RECLAIM, REVIVE or RETIRE. -/
def handoffRow : Command → Option Instr
  | .reclaim .. => some .handoff
  | .revive .. => some .handoff
  | .retire .. => some .retireHandoff
  | _ => none

/-- HANDOFF has gone on by `n` granules, with `c` its command's record, `runs` the scrub list and `isOpen` whether the
engine's run is open (R98, R107). After the last granule the run is closed, the engine is IDLE and the command in
SCRUB. -/
def HandoffGoes (s u : State) (w : Work) (c : Cmd) (runs : List Run) (isOpen : Bool) (n : Nat) : Prop :=
  if w.cursor + n < c.command.stop s.tenants then
    u.su = { s.su with runs := runs } ∧ CmdBecomes s u w.ticket c ∧
      u.te.current = some { w with busy := false, cursor := w.cursor + n, runOpen := isOpen }
  else
    u.su = { s.su with
      runs := if isOpen then runs.dropLast ++ runs.getLast?.toList.map fun r => { r with isOpen := false } else runs } ∧
      CmdBecomes s u w.ticket { c with phase := .scrub } ∧ u.te.current = none

/-- What follows the last granule of HANDOFF: a command with no run outstanding enters NOTIFY (R98). -/
def handoffEnd (s u : State) (w : Work) (c : Cmd) (n : Nat) : State :=
  if c.command.stop s.tenants ≤ w.cursor + n ∧ c.runs = 0 then u.notify w.ticket (doneOf c) else u

/-- The scrub list with `n` granules added to the run at its tail, which is closed at 1,048,576 granules (R107). -/
def grown (older : List Run) (tail : Run) (n : Nat) : List Run :=
  older ++ [{ tail with count := tail.count + n, isOpen := tail.isOpen && decide (tail.count + n < 1048576) }]

/-- The row with which the engine takes the tag, or FORMAT the line, that it has reached (R99). -/
def tagRow (w : Work) (c : Cmd) : Option Instr :=
  match c.phase, c.command with
  | .verify, .recount => some .recountSweep
  | .verify, .reclaim .. => some .reclaimVerify
  | .verify, .revive .. => some .reviveVerify
  | .verify, command => if w.begun = true ∧ w.scrubWait = none then verifyRow command else none
  | .mark, .reclaim .. => some .reclaimMark
  | .mark, .retire .. => some .retireMark
  | .mark, command => applyRow command
  | .drain, .format _ => none
  | .drain, _ => if w.timedOut then some .drainTimeout else none
  | .handoff, .format _ => if w.runOpen = true ∧ w.placeWait = false then some .formatHandoff else none
  | .handoff, command => if w.runOpened = true ∧ w.placeWait = false then handoffRow command else none
  | _, _ => none

/-- The record that the engine's next unit writes over a granule's record, `none` where it writes none (R102, R104,
R106, R107, R109, R112). -/
def unitWrites (w : Work) (c : Cmd) (r : TagRec) : Option TagRec :=
  match c.phase, c.command with
  | .mark, .reclaim _ _ o _ =>
    if (r.tag.kind = .owned ∨ r.tag.kind = .shared) ∧ r.tag.owner = some o then
      some { r with tag := .draining o w.ticket }
    else none
  | .mark, .retire o _ =>
    if (r.tag.kind = .owned ∨ r.tag.kind = .shared) ∧ r.tag.owner = some o then
      some { r with tag := .draining o w.ticket }
    else none
  | .mark, command => applied r command
  | .drain, .format _ => none
  | .drain, _ =>
    if r.tag.kind = .draining ∧ r.tag.ticket = some w.ticket then
      some { r with tag := .poisoned r.tag.owner .drainTimeout }
    else none
  | .handoff, .format _ => none
  | .handoff, command =>
    if w.runOpen then (converted r.tag w.ticket command).map fun t => { r with tag := t } else none
  | _, _ => none

/-! ## What the scrubber leaves -/

/-- The first granule and the ticket of the run that takes a freed place of the scrub list: the engine's, where it waits
for one, or with no command in the engine the recovery walk's (R125). -/
def placeTaker (s : State) : Option (Nat × Option Ticket) :=
  match s.te.current, s.mc.recovery with
  | some w, _ => if w.placeWait then some (w.cursor, some w.ticket) else none
  | none, some (.walk w) => if w.placeWait then some (w.cursor, none) else none
  | _, _ => none

/-- The run `head` has left the head of the scrub list: it no longer counts among the runs of its command, and the one
that waits for a place has it, with an open run (R125, R126, R131). The command's entry to NOTIFY stands apart. -/
def RunRemoved (s v : State) (head : Run) (rest : List Run) : Prop :=
  OnlyChanges [.su, .te, .mc] s v ∧
    v.su = { s.su with
      runs := rest ++ ((placeTaker s).map fun y => { first := y.1, count := 0, ticket := y.2, isOpen := true }).toList } ∧
    (∀ t : Ticket, v.cmd t = (s.cmd t).map fun c =>
      { c with runs := c.runs - (if head.ticket = some t then 1 else 0) +
        if (placeTaker s).bind (·.2) = some t then 1 else 0 }) ∧
    v.te.counter = s.te.counter ∧
    v.te.current = s.te.current.map (fun w =>
      if w.placeWait = true then { w with runOpened := true, runOpen := true, placeWait := false } else w) ∧
    v.mc = { s.mc with recovery :=
      match (placeTaker s), s.mc.recovery with
      | some (_, none), some (.walk w) => some (.walk { w with runOpen := true, placeWait := false })
      | _, recovery => recovery }

/-! ## What the completion of a fill leaves -/

/-- The record that a read finds in place `i` of a tag line: `none` where it is not sound (R9, R82). -/
def readTag (d : Dram) (c : PoolCode) (j : Nat) (read : ReadOutcome) (i : Nat) : Option TagRec :=
  (d.record (tagLineAddress c j + 16 * i) 16 read).bind TagRec.ofStored

/-- The places of a tag line whose records a read finds unsound (R82). -/
def lostIn (d : Dram) (c : PoolCode) (j : Nat) (read : ReadOutcome) : List Nat :=
  (List.range 4).filter fun i => (readTag d c j read i).isNone

/-- The four records of a tag line as its fill takes them: an unsound one is POISONED with cause TAG_LOST, no owner and
generation 0 (R9, R82). -/
def filledLine (d : Dram) (c : PoolCode) (j : Nat) (read : ReadOutcome) : TagLine :=
  let rec_ (i : Nat) : TagRec := (readTag d c j read i).getD { tag := .poisoned none .tagLost, generation := 0 }
  { r0 := rec_ 0, r1 := rec_ 1, r2 := rec_ 2, r3 := rec_ 3 }

/-- MI holds the read of a fill, none is held for room with its line, and no reset is in effect (R82). -/
def Reading (s : State) (f : Fill) : Prop :=
  s.mc.inReset = none ∧ s.tc.fills.find? (fun x => x.line == f.line) = some f ∧ f.stage = .reading ∧
    ∀ recs lost, Held.fill f.line recs lost ∉ s.tc.held

/-- A line that neither hits nor can be filled: no way holds it, and the miss list is full or every way of its set
PENDING (R79, R80). -/
def Stuck (tc : TagCache) (j : Nat) : Prop :=
  (∀ x ∈ tc.set j, x.2.isValid j = false ∧ x.2.isPendingFor j = false) ∧
    (16 ≤ tc.fills.length ∨ ∀ x ∈ tc.set j, x.2.isPending = true)

/-- TC once the fill `f` is complete with `recs` in its way, written back where `write` says so (R82, R88). -/
def Filled (s x : State) (f : Fill) (recs : TagLine) (write : Bool) : Prop :=
  x.tc.set f.line = (s.tc.set f.line).filter (fun w => w.1 != f.way) ++ [(f.way, .valid f.line recs)] ∧
    (∀ k, Machine.setOf k ≠ Machine.setOf f.line → x.tc.set k = s.tc.set k) ∧
    x.tc.fills = s.tc.fills.filter (fun y => y.line != f.line) ∧
    x.tc.writes = s.tc.writes ++ (if write then [{ line := f.line, recs := recs }] else []) ∧
    x.tc.stalled = s.tc.stalled ∧ x.tc.held = s.tc.held

/-- What the report of a fill's lost tags leaves (R83, R114, R193). -/
def LossReported (s x : State) (f : Fill) (lost : List Nat) : Prop :=
  if lost = [] then OnlyChanges [.tc] s x
  else if s.mc.mode = .recovering then
    OnlyChanges [.tc, .mc] s x ∧
      x.mc = match s.mc.recovery with
        | some (.walk w) =>
          { s.mc with recovery := some (.walk { w with
              tagsLost := w.tagsLost + lost.length
              recountMark := w.recountMark || decide (f.line < w.cursor / 4) }) }
        | _ => s.mc
  else
    OnlyChanges [.tc, .te, .vl, .eu, .mc, .cp] s x ∧ x.mc = { s.mc with countsStale := true } ∧
      x.vl = (lost.map fun i => LogEvent.tagLost f.origin (4 * f.line + i)).foldl (storeEvent s.mc.timestamp) s.vl ∧
      FlagsSet s x ([.tagLost] ++ storingFlags s x) ∧ x.te.table = s.te.table ∧
      x.te.counter = s.te.counter ∧
      match s.te.current with
      | none => x.te.current = none
      | some w =>
        ∀ c, s.cmd w.ticket = some c →
          x.te.current = some { w with lossReported := w.lossReported || decide (c.command = .recount) }

/-- What a fill whose records are known leaves (R82 to R84, R88): its line is VALID, lost tags are reported, or the
engine's HANDOFF goes on where FORMAT has installed the line; then the attached parties and the stalled ones are
taken. -/
def FillTaken (s u : State) (f : Fill) (read : TagLine) (lost : List Nat) : Prop :=
  ∃ x, u = (f.parties.foldl State.retake x).stalledPass ∧
    match f.install with
    | none => Filled s x f read (decide (lost ≠ [])) ∧ LossReported s x f lost
    | some recs =>
      Filled s x f recs true ∧
        ∀ (w : Work) (c : Cmd) (older : List Run) (tail : Run), s.te.current = some w → s.cmd w.ticket = some c →
          w.runOpen = true → s.su.runs = older ++ [tail] →
          ∃ y, x = handoffEnd s y w c 4 ∧ OnlyChanges [.tc, .su, .te] s y ∧
            HandoffGoes s y w c (grown older tail 4) (decide (tail.count + 4 < 1048576)) 4

end Sys2Proof.Safety
end

