-- ==== Sys2Proof/Certificates/Slice0/Obligations.lean ====
section
/-! DEFINITION. The statements for the provers. Each docstring names the rules of the manual that the statement comes
from, and says where a clause rests on a choice of the model. -/

section

open Sys2Proof Sys2Proof.Machine Sys2Proof.Safety

/-! ## The step -/

/-- A step runs the command at the front of the queue on the state with the rest of the queue. On an empty queue the
part idles, which is the model's choice (log entry 8). -/
def Obligations.StepTakesFrontCommand : Prop :=
  (∀ (s : State) (c : Instr) (rest : List Instr), s.pending = c :: rest → step s = exec c (s.setPending rest)) ∧
    ∀ s : State, s.pending = [] → step s = .next s

/-- Every command answers a next state, whatever the state, and leaves the queue of waiting commands alone: the part
has no step that stops it (INVENTORY.md, Faults; log entry 1). -/
def Obligations.EveryCommandAnswers : Prop :=
  ∀ (c : Instr) (s : State), ∃ t, exec c s = .next t ∧ t.pending = s.pending

/-! ## Resets and recovery -/

/-- R169, with the values of R21, R50, R77, R92, R124, R135 to R137, R180, R187 and R189: each of the three resets,
when it takes effect, brings every block, the domain table and the share table to their values; the operations that MI
has in flight complete into nothing, and no channel stays in self-refresh. A warm reset keeps every byte of DRAM (R14).
While a power-on reset has not ended, RESET_N going low changes nothing but the level of the pin, and the cause stays.
The two tables take the values of R21 and R50 at once at a warm reset, before recovery loads them: that is the model's
inference (log entry 20). That the mode field is RECOVERING while RESET_N is still low, and that a power-on reset keeps
its values through RESET_N, is the model's choice (log entry 22). -/
def Obligations.ResetsBringResetValues : Prop :=
  (∀ s : State, ∃ t, exec .powerOn s = .next t ∧ ResetValues t ∧ t.mc.inReset = some .powerOn) ∧
  (∀ s : State, s.mc.resetLow = false → s.mc.inReset ≠ some .powerOn →
    ∃ t, exec .resetLine s = .next t ∧ ResetValues t ∧ SameBytes s t ∧ t.mc.inReset = some .resetLine ∧
      t.mc.cause = .resetLine ∧ t.mc.mode = .recovering) ∧
  (∀ s : State, s.mc.resetLow = false → s.mc.inReset = some .powerOn →
    exec .resetLine s = .next (s.setMc { s.mc with resetLow := true })) ∧
  ∀ (s : State) (r : Reply) (rest : List Reply), s.mc.inReset = none → s.cp.transmitter = .reply →
    s.cp.replies = r :: rest → s.cp.resetWait = true → r.kind = 0xCB → r.status = .ok →
    ∃ t, exec .replySent s = .next t ∧ ResetValues t ∧ SameBytes s t ∧ t.mc.inReset = none ∧ t.mc.cause = .soft ∧
      t.mc.mode = .recovering ∧ t.mc.recovery = some (.header 4)

/-- R190 and R14: from every state with RESET_N high, power applied and then stable leaves the part as State.reset has
it, but for the queue and for the number of the next free value. The reading of unwritten bytes and the START notice
that is being sent are the model's (log entries 4 and 24). -/
def Obligations.PowerOnLeadsToReset : Prop :=
  ∀ s : State, s.mc.resetLow = false →
    ∃ t, exec .powerOn s = .next t ∧
      exec .powerOnEnd t = .next { State.reset with
        pending := s.pending, dram := { State.reset.dram with damageCount := s.dram.damageCount } }

/-- R191: a warm reset that ends begins recovery with the header line of code 4. A header line that is valid for its
code makes the pool that code and the store FORMATTED, and MC goes on to the domain records; an invalid one leads to
the next lower code, and after code 0 to the end of recovery with the three counts 0 (R194). R191 loads the domain and
share tables with the values of R21 and R50 at that end. In the model they hold those values since the reset took
effect, and no header read changes them (log entry 20): a table that holds them before the read holds them after it.
After a reset that cut a FORMAT short, a header of an earlier FORMAT that is still complete is taken, as R191 says; the
table of R124 says otherwise, and following R191 is the model's choice (log entry 14). That a complete flag of a byte
other than 1 is not true, and that a FORMAT's granules are not requeued where no header is valid, are the model's too
(log entries 52 and 53). The bytes that a read finds
decayed stay in DRAM, which is the model's (log entry 31). -/
def Obligations.RecoveryReadsHeaders : Prop :=
  (∀ s : State, s.mc.resetLow = true → s.mc.inReset = some .resetLine →
    exec .resetLineEnd s =
      .next (s.setMc { s.mc with resetLow := false, inReset := none, recovery := some (.header 4) })) ∧
  ∀ (s : State) (c : PoolCode) (read : ReadOutcome), s.mc.inReset = none → s.mc.recovery = some (.header c) →
    read.fits 64 = true →
    let found := ((s.dram.decay (headerAddress c) read).record (headerAddress c) 64 read).map (headerValidFor c)
    let initial (u : State) : Prop :=
      (∀ d : DomainId, u.domain d =
        { state := if d = 0 then .opened else .closed, quota := 0, held := 0, score := 0, latch := false }) ∧
      ∀ i : ShareIx, u.share i = freeEntry
    ∃ t, exec (.headerReadComplete read) s = .next t ∧ t.dram = s.dram.decay (headerAddress c) read ∧
      (initial s → initial t) ∧
      (if found = some true then
        OnlyChanges [.dram, .mc] s t ∧
          t.mc = { s.mc with poolCode := some c, storeState := .formatted, recovery := some (.domains 0) }
      else if c = 0 then
        OnlyChanges [.dram, .mc, .cp] s t ∧
          t.mc = { s.mc with mode := .config, countsStale := false, decayTimer := some s.mc.decayCode,
                             recovery := none, fixups := [] } ∧
          t.cp = noticed s.cp s.eu.flags (.start s.mc.cause s.mc.storeState 0 0 0)
      else OnlyChanges [.dram, .mc] s t ∧ t.mc = { s.mc with recovery := some (.header (c - 1)) })

/-- R38 and R51, with R4 and R191: the persisted records are read a line at a time, and what each record is loaded as. A
domain record that is not sound gives a RETIRING domain whose quota is set later; a share record that is not sound, or
whose owner is CLOSED, gives a FREE entry, and a line that holds one is written back. One line with each command, and
one write of a line with several such entries, are the model's (log entry 10), and so is what a latch byte that is
neither 0 nor 1 stands for (log entry 46); that a sound record with values that R18 excludes, such as a CLOSED one with
a quota, is loaded as it stands is the model's choice (log entry 51), as is that a RETIRE's domain comes back OPEN
where the write of its acceptance was lost (log entry 54). That what is loaded causes no other write of a record is the
model's inference (log entry 26); the bytes that a read finds decayed stay in DRAM (log entry 31). -/
def Obligations.RecoveryLoadsTables : Prop :=
  (∀ (s : State) (c : PoolCode) (k : Nat) (read : ReadOutcome), s.mc.inReset = none → s.mc.poolCode = some c →
    k < 512 → s.mc.recovery = some (.domains k) → read.fits 64 = true →
    let d := s.dram.decay (domainAddress c (2 * k)) read
    let found (n : Nat) : Option PersistedDomain :=
      (d.record (domainAddress c n) 32 read).bind (PersistedDomain.ofStored n)
    let loaded (n : Nat) : DomainRec :=
      if n = 0 then { state := .opened, quota := tenantGranules (some c), held := 0, score := 0, latch := false }
      else
        match found n with
        | some p =>
          { state := p.state, quota := p.quota, held := 0, score := if p.latch then 256 else 0, latch := p.latch }
        | none => { state := .retiring, quota := 0, held := 0, score := 0, latch := false }
    ∃ t, exec (.domainRecordRead read) s = .next t ∧ OnlyChanges [.dram, .domains, .mc] s t ∧ t.dram = d ∧
      (∀ x : DomainId, t.domain x = if x.toNat / 2 = k then loaded x.toNat else s.domain x) ∧
      t.mc = { s.mc with
        recovery := some (if k = 511 then .shares 0 else .domains (k + 1))
        fixups := s.mc.fixups ++
          ([2 * k, 2 * k + 1].filter fun n => decide (n ≠ 0 ∧ found n = none)).map (BitVec.ofNat 10) }) ∧
  ∀ (s : State) (c : PoolCode) (k : Nat) (read : ReadOutcome), s.mc.inReset = none → s.mc.poolCode = some c →
    k < 64 → s.mc.recovery = some (.shares k) → read.fits 64 = true →
    let d := s.dram.decay (shareAddress c (4 * k)) read
    let stands (n : Nat) : Option ShareEntry :=
      match (d.record (shareAddress c n) 16 read).bind (ShareEntry.ofStored n) with
      | some e => if e.inUse = true ∧ (s.domain e.owner).state = .closed then none else some e
      | none => none
    ∃ t, exec (.shareRecordRead read) s = .next t ∧ OnlyChanges [.dram, .shares, .mc] s t ∧
      (∀ i : ShareIx, t.share i = if i.toNat / 4 = k then (stands i.toNat).getD freeEntry else s.share i) ∧
      (if ∀ i < 4, stands (4 * k + i) ≠ none then t.dram = d
       else Issues (s.setDram d) t [(shareAddress c (4 * k), shareLineOf t k)]) ∧
      ∃ r, t.mc = { s.mc with recovery := some r } ∧
        (k < 63 → r = .shares (k + 1)) ∧
        (k = 63 → ∃ w, r = .walk w ∧ w.cursor = 0 ∧ w.busy = false ∧ w.placeWait = false ∧ w.runOpen = false ∧
          w.counting = false ∧ w.recountMark = false ∧ w.tagsLost = 0 ∧ w.runsRequeued = 0 ∧
          w.heldCounts = [] ∧ w.refCounts = [])

/-- R192 and R193, with R52: the walk takes the granules of a cached line, from the place it has reached. In the first
pass an OWNED or SHARED tag of a CLOSED owner makes that owner RETIRING; a SHARED tag whose entry is not its owner's is
rewritten OWNED; DRAINING and SCRUBBING tags are rewritten SCRUBBING with no ticket and built into runs; any other tag
closes the run. At a tag that needs a place in a full list, or room in a full write list (R86), the walk waits, with the
granules before it taken. A counting pass changes no tag. Either counts the tags
of the line for their owners and entries once it is taken, and goes on, or ends its pass (WalkEnds). One line with each
command is the model's unit (log entry 9), and so is the point at which a line is counted (log entry 17); `settle` is
what follows in the same step: a run that is closed at the head of the list is begun, or removed where it is empty
(ScrubberWrites), and a change to SUSPENDED may take effect (SuspendAndReturn). -/
def Obligations.WalkTakesLine : Prop :=
  ∀ (s : State) (w : Walk) (j k : Nat) (line : TagLine), s.mc.inReset = none → s.mc.recovery = some (.walk w) →
    w.busy = false → w.placeWait = false → k < 4 → w.cursor = 4 * j + k → 4 * j + 4 ≤ s.tenants → Cached s j line →
    let after (u : State) : State := if 4 * j + 4 < s.tenants then u else u.endPass
    let counted (w' : Walk) (line' : TagLine) : Prop :=
      w'.cursor = 4 * j + 4 ∧ w'.busy = false ∧ w'.placeWait = false ∧ w'.counting = w.counting ∧
        w'.recountMark = w.recountMark ∧ w'.tagsLost = w.tagsLost ∧
        (∀ d : DomainId, smapGet 0 w'.heldCounts d.toNat =
          smapGet 0 w.heldCounts d.toNat + (lineTags line').countP (fun r => decide (heldBy r.tag = some d))) ∧
        ∀ i : ShareIx, smapGet 0 w'.refCounts i.toNat =
          smapGet 0 w.refCounts i.toNat + (lineTags line').countP (fun r => decide (r.tag.share = some i))
    (w.counting = true →
      ∃ u w', exec .walkStep s = .next (after u).settle ∧ OnlyChanges [.tc, .mc] s u ∧ OnlyRecency s u j ∧
        u.mc = { s.mc with recovery := some (.walk w') } ∧ counted w' line ∧ w'.runOpen = w.runOpen ∧
        w'.runsRequeued = w.runsRequeued) ∧
    (w.counting = false →
      let upTo (n : Nat) := (List.range n).filter fun i => decide (k ≤ i)
      let written (n : Nat) := (upTo n).filter fun i => walkWrites s (line.get i)
      let owners (n : Nat) := (upTo n).filterMap fun i => heldBy (line.get i).tag
      let runs (n : Nat) := (upTo n).foldl (fun x i => x.take (4 * j + i) (line.get i).tag)
        (WalkRuns.mk s.su.runs w.runOpen w.runsRequeued)
      let fits (n : Nat) : Prop := (runs n).runs.length ≤ 64 ∧ s.tc.writes.length + (written n).length ≤ 32
      let took (u : State) (n : Nat) (owners : List DomainId) (x : WalkRuns) (w' : Walk) : Prop :=
        OnlyChanges [.tc, .su, .domains, .mc] s u ∧ Cached u j (walkedLine s line k n) ∧
          (∀ m, m ≠ j → u.tc.validLine m = s.tc.validLine m) ∧
          u.tc.fills = s.tc.fills ∧ u.tc.stalled = s.tc.stalled ∧
          u.tc.writes =
            s.tc.writes ++ (written n).map (fun i => { line := j, recs := walkedLine s line k (i + 1) }) ∧
          u.su = { s.su with runs := x.runs } ∧
          (∀ d : DomainId, u.domain d =
            if d ∈ owners ∧ (s.domain d).state = .closed then
              { s.domain d with state := .retiring, score := 0, latch := false }
            else s.domain d) ∧
          { u.mc with fixups := [] } = { s.mc with recovery := some (.walk w'), fixups := [] } ∧
          ∀ d, d ∈ u.mc.fixups ↔ d ∈ s.mc.fixups ∨ (d ∈ owners ∧ (s.domain d).state = .closed)
      (fits 4 →
        ∃ u w', exec .walkStep s = .next (after u).settle ∧ took u 4 (owners 4) (runs 4) w' ∧ u.tc.held = s.tc.held ∧
          counted w' (walkedLine s line k 4) ∧ w'.runOpen = (runs 4).isOpen ∧ w'.runsRequeued = (runs 4).requeued) ∧
      ∀ n, k ≤ n → n < 4 → fits n →
        let r := line.get n
        (requeues r.tag = true → (runs n).isOpen = false → 64 ≤ (runs n).runs.length →
          ∃ u, exec .walkStep s = .next u.settle ∧ u.tc.held = s.tc.held ∧
            took u n (owners n) (runs n) { w with
              cursor := 4 * j + n, runOpen := false, runsRequeued := (runs n).requeued, placeWait := true }) ∧
        (walkWrites s r = true → 32 ≤ s.tc.writes.length + (written n).length →
          requeues r.tag = false ∨ (runs n).isOpen = true ∨ (runs n).runs.length < 64 →
          let x : WalkRuns :=
            if requeues r.tag = false then (runs n).close
            else if (runs n).isOpen then runs n
            else { runs n with
              runs := (runs n).runs ++ [{ first := 4 * j + n, count := 0, ticket := none, isOpen := true }], isOpen := true }
          ∃ u, exec .walkStep s = .next u.settle ∧ u.tc.held = s.tc.held ++ [.change .walk j] ∧
            took u n (owners (n + 1)) x { w with
              cursor := 4 * j + n, runOpen := x.isOpen, runsRequeued := x.requeued, busy := true })) ∧
    (w.counting = false → w.runOpen = false → requeues (line.get k).tag = true → 64 ≤ s.su.runs.length →
      ∃ u, exec .walkStep s = .next u.settle ∧ OnlyChanges [.tc, .mc] s u ∧ OnlyRecency s u j ∧
        u.mc = { s.mc with recovery := some (.walk { w with placeWait := true }) })

/-- R193, R194 and R38: a pass of the walk that has taken the last line closes its run. With the recount mark set a
counting pass begins at line 0, its counts 0. Otherwise recovery ends: the counts become those of the domains and of
the IN_USE entries; the quota of a domain to be set becomes its held count, one below its held count is raised to it,
each written back, and domain 0's is T, which is not written back (log entry 37); the mode becomes CONFIG, and the START
notice carries T and the counts of lost tags and of runs. The manual gives no order among the records written back:
that they are taken in increasing domain number, one write of the line for each, and so what each of those writes
carries, is the model's choice (log entry 47). -/
def Obligations.WalkEnds : Prop :=
  ∀ (s : State) (w : Walk), s.mc.recovery = some (.walk w) →
    let runs := (WalkRuns.mk s.su.runs w.runOpen w.runsRequeued).close
    let t := s.endPass
    t.su = { s.su with runs := runs.runs } ∧
    (w.recountMark = true →
      OnlyChanges [.su, .mc] s t ∧
        t.mc = { s.mc with recovery := some (.walk { w with
          cursor := 0, runOpen := false, counting := true, heldCounts := [], refCounts := [], recountMark := false
          runsRequeued := runs.requeued }) }) ∧
    (w.recountMark = false →
      let held (d : DomainId) : Nat := smapGet 0 w.heldCounts d.toNat
      let fixed (d : DomainId) : Prop := d ≠ 0 ∧ (d ∈ s.mc.fixups ∨ (s.domain d).quota < held d)
      OnlyChanges [.su, .mc, .domains, .shares, .dram, .cp] s t ∧
        (∀ d : DomainId, t.domain d = { s.domain d with
          held := held d
          quota := if d = 0 then s.tenants else if fixed d then held d else (s.domain d).quota }) ∧
        (∀ i : ShareIx, t.share i = if (s.share i).inUse = true then
          { s.share i with refcount := smapGet 0 w.refCounts i.toNat } else s.share i) ∧
        t.mc = { s.mc with mode := .config, countsStale := false, decayTimer := some s.mc.decayCode, recovery := none,
                           fixups := [] } ∧
        t.cp = noticed s.cp s.eu.flags (.start s.mc.cause s.mc.storeState s.tenants w.tagsLost runs.requeued) ∧
        ∀ c, s.mc.poolCode = some c →
          Issues s t (((List.range 1024).filter fun n => decide (fixed (BitVec.ofNat 10 n))).map fun n =>
            (domainAddress c (2 * (n / 2)),
              storedDomain (2 * (n / 2)) (t.domain (BitVec.ofNat 10 (2 * (n / 2)))) ++
                storedDomain (2 * (n / 2) + 1)
                  (if n % 2 = 0 then s.domain (BitVec.ofNat 10 (n + 1)) else t.domain (BitVec.ofNat 10 n)))))

/-! ## The control link -/

/-- R170, R171 and R173: after noise without a SYNC byte, a frame whose check matches is offered to the inbound queue.
It joins the tail while the queue holds fewer than 4 frames; else it is answered OVERRUN in a free place of the reply
list; else it is dropped and counted.

R170 to R172: a frame whose check does not match, a frame with a bad LEN and a frame abandoned by the gap timer are
each discarded whole: the frame error count rises by 1, up to 65,535, the receiver hunts again, and nothing else
changes. -/
def Obligations.FramesAreReceived : Prop :=
  (∀ (s : State) (noise body : List Byte), s.mc.inReset = none → s.cp.receiver = .hunt →
     (∀ b ∈ noise, b ≠ 0xA5) → 3 ≤ body.length → body.length ≤ 250 →
     ∃ t, exec (.controlFrame (noise ++ controlFrame body)) s = .next t ∧ OnlyChanges [.cp] s t ∧
       t.cp =
         if s.cp.inbound.length < 4 then { s.cp with inbound := s.cp.inbound ++ [body] }
         else if s.cp.replies.length + (if s.cp.executing = none then 0 else 1) < 8 then
           { s.cp with
             replies := s.cp.replies ++
               [{ kind := if messageLength (body.headD 0) = none then 0xFF else body.headD 0 + 0x80,
                  seq := body.getD 1 0, status := .overrun, results := [] }]
             transmitter := if s.cp.transmitter = .free then .reply else s.cp.transmitter }
         else { s.cp with frameErrors := min (s.cp.frameErrors + 1) 65535 }) ∧
  (let counted (s : State) : State :=
     s.setCp { s.cp with receiver := .hunt, frameErrors := min (s.cp.frameErrors + 1) 65535 }
   (∀ (s : State) (body : List Byte) (high low : Byte), s.mc.inReset = none → s.cp.receiver = .hunt →
     3 ≤ body.length → body.length ≤ 250 → [high, low] ≠ crcBytes (BitVec.ofNat 8 body.length :: body) →
     exec (.controlFrame (0xA5 :: BitVec.ofNat 8 body.length :: body ++ [high, low])) s = .next (counted s)) ∧
   (∀ (s : State) (len : Byte), s.mc.inReset = none → s.cp.receiver = .hunt → (len.toNat < 3 ∨ 250 < len.toNat) →
     exec (.controlFrame [0xA5, len]) s = .next (counted s)) ∧
   ∀ s : State, s.mc.inReset = none → s.cp.receiver ≠ .hunt → exec .gapTimeout s = .next (counted s))

/-- R174: a frame of unknown KIND is answered BAD_KIND with reply kind 0xFF, and a frame of a known KIND whose length is
not that KIND's is answered BAD_LENGTH by the message's own row; neither changes anything but the control port.

R176: a RESET is answered OK, and from then on the dispatcher begins no further frame. -/
def Obligations.DispatcherAnswers : Prop :=
  ((∀ (s : State) (f : List Byte) (rest : List (List Byte)), Begins s f rest →
     (∀ row ∈ messageRows, row.2.1 ≠ f.headD 0) →
     ∃ t, exec .badKind s = .next t ∧ OnlyChanges [.cp] s t ∧
       t.cp = { answeredCp s.cp f rest .badKind [] with
         replies := s.cp.replies ++ [{ kind := 0xFF, seq := f.getD 1 0, status := .badKind, results := [] }] }) ∧
   ∀ row ∈ messageRows, ∀ (s : State) (f : List Byte) (rest : List (List Byte)), Begins s f rest →
     f.headD 0 = row.2.1 → f.length ≠ row.2.2 → ∃ t, exec row.1 s = .next t ∧ Refused s t f rest .badLength) ∧
  (∀ (s : State) (seq pad : Byte) (rest : List (List Byte)), Begins s [0x4B, seq, pad] rest →
     ∃ t, exec .reset s = .next t ∧ OnlyChanges [.cp] s t ∧
       t.cp = { answeredCp s.cp [0x4B, seq, pad] rest .ok [] with resetWait := true } ∧ t.canDispatch = false)

/-- R177 to R179 and R122: a reply that has been sent leaves the reply list, and a notice that has been sent leaves the
notice queue; the arbiter then begins the oldest reply, else the oldest notice, which takes the notice number and, for
an EVENT notice, the flag set as it stands. The sending of a COMPLETION notice frees its command's slot, and changes
nothing else while no change to CONFIG is pending or another command is live.

R179 and R183: the sending of the last live command's COMPLETION notice lets a pending change to CONFIG take
effect, and MODE_CHANGED is set, with an EVENT notice where none waits (R166); the arbiter then begins the oldest
reply, else the oldest notice. That MODE_CHANGED
comes first, so that an EVENT notice which waited and is begun carries it, is the model's choice (log entry 49). -/
def Obligations.SentFramesLeaveTheLink : Prop :=
  ((∀ (s : State) (r : Reply) (rest : List Reply), s.mc.inReset = none → s.cp.transmitter = .reply →
     s.cp.replies = r :: rest → ¬ (s.cp.resetWait = true ∧ r.kind = 0xCB ∧ r.status = .ok) →
     ∃ t, exec .replySent s = .next t ∧ OnlyChanges [.cp] s t ∧
       t.cp = begins { s.cp with replies := rest, transmitter := .free } s.eu.flags) ∧
   (∀ (s : State) (q : QueuedNotice) (rest : List QueuedNotice), s.mc.inReset = none → s.cp.transmitter = .notice →
     s.cp.notices = q :: rest → (∀ t c st d p, q.notice ≠ .completion t c st d p) →
     ∃ t, exec .noticeSent s = .next t ∧ OnlyChanges [.cp] s t ∧
       t.cp = begins { s.cp with notices := rest, transmitter := .free } s.eu.flags) ∧
   ∀ (s : State) (q : QueuedNotice) (rest : List QueuedNotice) (k : Ticket) (c : Command) (st : Completion)
       (d p : Nat), s.mc.inReset = none → s.cp.transmitter = .notice → s.cp.notices = q :: rest →
     q.notice = .completion k c st d p → s.mc.pendingTarget ≠ some .config ∨ (∃ x ∈ s.te.table, x.ticket ≠ k) →
     ∃ t, exec .noticeSent s = .next t ∧ OnlyChanges [.cp, .te] s t ∧
       t.te = { s.te with table := s.te.table.filter fun x => x.ticket != k } ∧
       t.cp = begins { s.cp with notices := rest, transmitter := .free } s.eu.flags) ∧
  (∀ (s : State) (q : QueuedNotice) (rest : List QueuedNotice) (k : Ticket) (c : Command) (st : Completion)
       (d p : Nat), s.mc.inReset = none → s.cp.transmitter = .notice → s.cp.notices = q :: rest →
     q.notice = .completion k c st d p → s.mc.pendingTarget = some .config → (∀ x ∈ s.te.table, x.ticket = k) →
     ∃ t, exec .noticeSent s = .next t ∧ OnlyChanges [.cp, .te, .mc, .eu] s t ∧ t.te.table = [] ∧
       t.mc = { s.mc with mode := .config, pendingTarget := none } ∧ hasFlag t.eu.flags .modeChanged = true ∧
       t.eu.enabled = s.eu.enabled ∧ (∀ f, f ≠ .modeChanged → hasFlag t.eu.flags f = hasFlag s.eu.flags f) ∧
       let free : ControlPort := { s.cp with notices := rest, transmitter := .free }
       t.cp = if hasFlag s.eu.enabled .modeChanged = true ∧ hasFlag s.eu.flags .modeChanged = false ∧
           rest.any isWaitingEvent = false then
         noticed free t.eu.flags (.event none) else begins free t.eu.flags)

/-! ## Ticketed commands -/

/-- R94: the ticket that an acceptance takes is the first value from the counter on, 65,535 being followed by 1, that no
live command holds; it is never 0.

R95 and R96: ASSIGN, RECLAIM, SHARE_RANGE, UNSHARE_RANGE, REVIVE and RECOUNT whose checks pass are accepted with
the parameters of their frames, and change nothing but the command table and the control port.

R37, R97 and R110: the acceptance of a RETIRE moves an OPEN domain to RETIRING, leaves a RETIRING one as it is, and
writes its persisted record in either case; the acceptance of a FORMAT makes the store FORMATTING and keeps the state
it replaced. -/
def Obligations.CommandsAccepted : Prop :=
  ((∀ t : Ticket, t ≠ 0xFFFF#16 → (nextTicket t).toNat = t.toNat + 1) ∧ nextTicket 0xFFFF#16 = 1 ∧
   ∀ s : State, s.te.table.length ≤ 16 → s.te.counter ≠ 0 →
     s.te.nextFree ≠ 0 ∧ (∀ c ∈ s.te.table, c.ticket ≠ s.te.nextFree) ∧
       ∃ n, s.te.nextFree = nextTicket^[n] s.te.counter ∧
         ∀ m < n, ∃ c ∈ s.te.table, c.ticket = nextTicket^[m] s.te.counter) ∧
  (∀ (s : State) (seq : Byte) (rest : List (List Byte)), Accepting s →
     (∀ (first count : Nat) (d : DomainId) (rights : Rights) (wait : Byte), rangeOk s first count →
       (s.domain d).state = .opened →
       let f := [0x10, seq] ++ beBytes 4 first ++ beBytes 4 count ++ beBytes 2 d.toNat ++ [rights.code, wait]
       Begins s f rest → ∃ t, exec .assign s = .next t ∧ OnlyChanges [.te, .cp] s t ∧
         Accepted s t f rest (.assign first count d rights (wait.getLsbD 0))) ∧
     (∀ (first count : Nat) (d : DomainId) (force : Byte), rangeOk s first count → (s.domain d).state ≠ .closed →
       let f := [0x11, seq] ++ beBytes 4 first ++ beBytes 4 count ++ beBytes 2 d.toNat ++ [force]
       Begins s f rest → ∃ t, exec .reclaim s = .next t ∧ OnlyChanges [.te, .cp] s t ∧
         Accepted s t f rest (.reclaim first count d (force.getLsbD 0))) ∧
     (∀ (first count : Nat) (i : ShareIx), rangeOk s first count → (s.share i).inUse = true →
       let body := [seq] ++ beBytes 4 first ++ beBytes 4 count ++ beBytes 2 i.toNat
       (Begins s (0x12 :: body) rest → ∃ t, exec .shareRange s = .next t ∧ OnlyChanges [.te, .cp] s t ∧
         Accepted s t (0x12 :: body) rest (.shareRange first count i)) ∧
       (Begins s (0x13 :: body) rest → ∃ t, exec .unshareRange s = .next t ∧ OnlyChanges [.te, .cp] s t ∧
         Accepted s t (0x13 :: body) rest (.unshareRange first count i))) ∧
     (∀ first count : Nat, rangeOk s first count →
       let f := [0x16, seq] ++ beBytes 4 first ++ beBytes 4 count
       Begins s f rest → ∃ t, exec .revive s = .next t ∧ OnlyChanges [.te, .cp] s t ∧
         Accepted s t f rest (.revive first count)) ∧
     ∀ pad : Byte, Begins s [0x15, seq, pad] rest → ∃ t, exec .recount s = .next t ∧ OnlyChanges [.te, .cp] s t ∧
       Accepted s t [0x15, seq, pad] rest .recount) ∧
  (∀ (s : State) (seq : Byte) (rest : List (List Byte)),
     (∀ (d : DomainId) (c : PoolCode), Accepting s → s.mc.poolCode = some c → d ≠ 0 → (s.domain d).state = .opened →
       let f := [0x14, seq] ++ beBytes 2 d.toNat
       let r := { s.domain d with state := .retiring }
       Begins s f rest → ∃ t, exec .retire s = .next t ∧ OnlyChanges [.te, .cp, .domains, .dram] s t ∧
         Accepted s t f rest (.retire d true) ∧ DomainBecomes s t d r ∧
         Issues s t [domainWrite t c d]) ∧
     (∀ (d : DomainId) (c : PoolCode), Accepting s → s.mc.poolCode = some c → d ≠ 0 → (s.domain d).state = .retiring →
       (∀ x ∈ s.te.table, ∀ moved, x.command ≠ .retire d moved) →
       let f := [0x14, seq] ++ beBytes 2 d.toNat
       Begins s f rest → ∃ t, exec .retire s = .next t ∧ OnlyChanges [.te, .cp, .domains, .dram] s t ∧
         Accepted s t f rest (.retire d false) ∧ DomainBecomes s t d (s.domain d) ∧
         Issues s t [domainWrite t c d]) ∧
     ∀ pad : Byte, s.mc.mode = .config → s.mc.poolCode ≠ none → s.te.table = [] → s.mc.pendingTarget ≠ some .config →
       Begins s [0x17, seq, pad] rest → ∃ t, exec .format s = .next t ∧ OnlyChanges [.te, .cp, .mc] s t ∧
         t.mc = { s.mc with storeState := .formatting } ∧ Accepted s t [0x17, seq, pad] rest (.format s.mc.storeState))

/-- R95, R96 and R97: the first check that fails gives the reply of a ticketed command, in the order of the rules, and a
refused command changes nothing else. -/
def Obligations.CommandsRefusedInOrder : Prop :=
  ∀ (s : State) (seq : Byte) (rest : List (List Byte)),
    (∀ (first count : BitVec 32) (d : BitVec 16) (rights wait : Byte) (st : Status),
      let f := [0x10, seq] ++ beBytes 4 first.toNat ++ beBytes 4 count.toNat ++ beBytes 2 d.toNat ++ [rights, wait]
      Begins s f rest →
      refusalOf s (if 1023 < d.toNat ∨ 1 < rights.toNat then some .badValue
        else if ¬ rangeOk s first.toNat count.toNat then some .badRange
        else if (s.domain (d.setWidth 10)).state ≠ .opened then some .unknownDomain else none) = some st →
      ∃ t, exec .assign s = .next t ∧ Refused s t f rest st) ∧
    (∀ (first count : BitVec 32) (d : BitVec 16) (force : Byte) (st : Status),
      let f := [0x11, seq] ++ beBytes 4 first.toNat ++ beBytes 4 count.toNat ++ beBytes 2 d.toNat ++ [force]
      Begins s f rest →
      refusalOf s (if 1023 < d.toNat then some .badValue
        else if ¬ rangeOk s first.toNat count.toNat then some .badRange
        else if (s.domain (d.setWidth 10)).state = .closed then some .unknownDomain else none) = some st →
      ∃ t, exec .reclaim s = .next t ∧ Refused s t f rest st) ∧
    (∀ (first count : BitVec 32) (i : BitVec 16) (st : Status),
      let body := [seq] ++ beBytes 4 first.toNat ++ beBytes 4 count.toNat ++ beBytes 2 i.toNat
      refusalOf s (if 255 < i.toNat then some .badValue
        else if ¬ rangeOk s first.toNat count.toNat then some .badRange
        else if (s.share (i.setWidth 8)).inUse = false then some .badValue else none) = some st →
      (Begins s (0x12 :: body) rest → ∃ t, exec .shareRange s = .next t ∧ Refused s t (0x12 :: body) rest st) ∧
      (Begins s (0x13 :: body) rest → ∃ t, exec .unshareRange s = .next t ∧ Refused s t (0x13 :: body) rest st)) ∧
    (∀ (d : BitVec 16) (st : Status),
      let f := [0x14, seq] ++ beBytes 2 d.toNat
      Begins s f rest →
      refusalOf s (if d = 0 ∨ 1023 < d.toNat then some .badValue
        else if (s.domain (d.setWidth 10)).state = .closed then some .unknownDomain
        else if (s.domain (d.setWidth 10)).state = .retiring ∧
          (s.te.table.any fun c => c.command.code == 0x14 && c.command.domain? == some (d.setWidth 10)) = true then
          some .busy
        else none) = some st →
      ∃ t, exec .retire s = .next t ∧ Refused s t f rest st) ∧
    (∀ (first count : BitVec 32) (st : Status),
      let f := [0x16, seq] ++ beBytes 4 first.toNat ++ beBytes 4 count.toNat
      Begins s f rest →
      refusalOf s (if ¬ rangeOk s first.toNat count.toNat then some .badRange else none) = some st →
      ∃ t, exec .revive s = .next t ∧ Refused s t f rest st) ∧
    (∀ (pad : Byte) (st : Status), Begins s [0x15, seq, pad] rest → refusalOf s none = some st →
      ∃ t, exec .recount s = .next t ∧ Refused s t [0x15, seq, pad] rest st) ∧
    ∀ (pad : Byte) (st : Status), Begins s [0x17, seq, pad] rest →
      (if s.mc.mode ≠ .config then some Status.wrongMode
        else if s.mc.poolCode = none then some .badValue
        else if s.te.table ≠ [] then some .busy
        else if s.mc.pendingTarget = some .config then some .wrongMode else none) = some st →
      ∃ t, exec .format s = .next t ∧ Refused s t [0x17, seq, pad] rest st

/-- R118 and R119: a CANCEL of a command in QUEUED or VERIFY ends it CANCELLED with counts 0, frees the engine if it
holds the command, and undoes what acceptance did; any other CANCEL is refused and changes nothing. That the COMPLETION
notice is placed before the reply is the model's order (log entry 12); `settleMode` is what follows in the same step
(SuspendAndReturn), after the reply (log entry 43). -/
def Obligations.CancelEndsWaitingCommand : Prop :=
  ∀ (s : State) (seq : Byte) (k : Ticket) (rest : List (List Byte)),
    let f := [0x18, seq] ++ beBytes 2 k.toNat
    Begins s f rest →
    (s.mc.mode = .recovering → ∃ t, exec .cancel s = .next t ∧ Refused s t f rest .wrongMode) ∧
    (s.mc.mode ≠ .recovering → k = 0 → ∃ t, exec .cancel s = .next t ∧ Refused s t f rest .badValue) ∧
    (s.mc.mode ≠ .recovering → k ≠ 0 → s.cmd k = none →
      ∃ t, exec .cancel s = .next t ∧ Refused s t f rest .noTicket) ∧
    ∀ c : Cmd, s.mc.mode ≠ .recovering → k ≠ 0 → s.cmd k = some c →
      if c.phase ≠ .queued ∧ c.phase ≠ .verify then ∃ t, exec .cancel s = .next t ∧ Refused s t f rest .tooLate
      else
        let c' := { c with doneCount := 0, poisonedCount := 0 }
        ∃ u, exec .cancel s = .next u.settleMode ∧ CmdBecomes s u k (notified c' .cancelled) ∧
          u.te.current = s.te.current.filter (fun w => w.ticket != k) ∧
          u.cp = answeredCp (completed s c' .cancelled) f rest .ok [] ∧
          u.tc.sets = s.tc.sets ∧ u.tc.writes = s.tc.writes ∧
          match c.command with
          | .retire d true =>
            let r := { s.domain d with state := .opened }
            OnlyChanges [.tc, .te, .cp, .domains, .dram] s u ∧ DomainBecomes s u d r ∧ SameBytes s u ∧
              ∀ p, s.mc.poolCode = some p → Issues s u [domainWrite u p d]
          | .format kept => OnlyChanges [.tc, .te, .cp, .mc] s u ∧ u.mc = { s.mc with storeState := kept }
          | _ => OnlyChanges [.tc, .te, .cp] s u

/-! ## Domains -/

/-- R24 and R25, with R20 and R23: the checks of DOMAIN_OPEN and DOMAIN_QUOTA in their order, and what they change.

R26, with R18, R20 and R23: the checks of DOMAIN_CLOSE in their order, and the CLOSED record it leaves.

R27, with R20 and R23: DOMAIN_CLEAR_SCORE makes the score 0 and clears the latch, writing the persisted record if
the latch was set; it stores no log record and sets no flag. Taken before a counted refusal it leaves 8, after one 0,
and with a decay tick 0 in either order; the records and flags of the refusal stay. -/
def Obligations.DomainOpenQuotaClose : Prop :=
  (∀ (s : State) (seq : Byte) (x : BitVec 16) (quota : BitVec 32) (rest : List (List Byte)),
     let d : DomainId := x.setWidth 10
     let body := [seq] ++ beBytes 2 x.toNat ++ beBytes 4 quota.toNat
     let taken (t : State) (f : List Byte) (r : DomainRec) : Prop :=
       OnlyChanges [.domains, .dram, .cp] s t ∧ t.cp = answeredCp s.cp f rest .ok [] ∧ DomainBecomes s t d r ∧
         SameBytes s t ∧
         ∀ c, s.mc.poolCode = some c → Issues s t [domainWrite t c d]
     (Begins s (0x20 :: body) rest → ∃ t, exec .domainOpen s = .next t ∧
       match tableRefusal s (if 1023 < x.toNat ∨ d = 0 ∨ s.tenants < quota.toNat then some .badValue
         else if (s.domain d).state ≠ .closed then some .domainExists else none) with
       | some st => Refused s t (0x20 :: body) rest st
       | none => taken t (0x20 :: body) { state := .opened, quota := quota.toNat, held := 0, score := 0, latch := false }) ∧
     (Begins s (0x21 :: body) rest → ∃ t, exec .domainQuota s = .next t ∧
       match tableRefusal s (if 1023 < x.toNat ∨ d = 0 then some .badValue
         else if (s.domain d).state = .closed then some .unknownDomain
         else if s.tenants < quota.toNat then some .badValue
         else if (s.te.table.any fun c => (c.phase == .verify || c.phase == .mark) && c.command.code == 0x10 &&
           c.command.domain? == some d) = true then some .busy
         else if quota.toNat < (s.domain d).held then some .quotaBelowHeld else none) with
       | some st => Refused s t (0x21 :: body) rest st
       | none => taken t (0x21 :: body) { s.domain d with quota := quota.toNat })) ∧
  (∀ (s : State) (seq : Byte) (x : BitVec 16) (rest : List (List Byte)),
     let d : DomainId := x.setWidth 10
     let f := [0x22, seq] ++ beBytes 2 x.toNat
     let r : DomainRec := { state := .closed, quota := 0, held := 0, score := 0, latch := false }
     Begins s f rest →
     ((∃ i : ShareIx, (s.share i).inUse = true ∧ (s.share i).owner = d) ↔ s.ownsShare d = true) ∧
     ∃ t, exec .domainClose s = .next t ∧
       match tableRefusal s (if 1023 < x.toNat ∨ d = 0 then some .badValue
         else if (s.domain d).state = .closed then some .unknownDomain
         else if (s.te.table.any fun c => c.command.domain? == some d) = true then some .busy
         else if 0 < (s.domain d).held then some .holdsGranules
         else if s.ownsShare d then some .inUse else none) with
       | some st => Refused s t f rest st
       | none =>
         OnlyChanges [.domains, .dram, .cp] s t ∧ t.cp = answeredCp s.cp f rest .ok [] ∧ DomainBecomes s t d r ∧
           SameBytes s t ∧
           ∀ c, s.mc.poolCode = some c → Issues s t [domainWrite t c d]) ∧
  (∀ (s : State) (seq : Byte) (x : BitVec 16) (rest : List (List Byte)),
    let d : DomainId := x.setWidth 10
    let f := [0x23, seq] ++ beBytes 2 x.toNat
    let r := { s.domain d with score := 0, latch := false }
    Begins s f rest → ∃ t, exec .domainClearScore s = .next t ∧
      match tableRefusal s (if 1023 < x.toNat then some .badValue
        else if (s.domain d).state = .closed then some .unknownDomain else none) with
      | some st => Refused s t f rest st
      | none =>
        if d = 0 then Answered s t f rest .ok []
        else
          OnlyChanges [.domains, .dram, .cp] s t ∧ t.cp = answeredCp s.cp f rest .ok [] ∧ DomainBecomes s t d r ∧
            r.standing = .good ∧ SameBytes s t ∧ ((s.domain d).latch = false → t.dram = s.dram) ∧
            ∀ c, (s.domain d).latch = true → s.mc.poolCode = some c →
              Issues s t [domainWrite t c d]) ∧
  ∀ (s : State) (d : DomainId),
    let ticked (s : State) : State := s.setDomains (smapUpdateBelow closedDomain 1024 decayed s.domains)
    (((s.clearScore d).countRefusal d).domain d).score = 8 ∧ (((s.clearScore d).countRefusal d).domain d).standing = .good ∧
      (((s.countRefusal d).clearScore d).domain d).score = 0 ∧ ((ticked (s.clearScore d)).domain d).score = 0 ∧
      (((ticked s).clearScore d).domain d).score = 0 ∧ (s.clearScore d).vl = s.vl ∧ (s.clearScore d).eu = s.eu

/-- R28, with R18 and R195: the reply of DOMAIN_STATUS. A CLOSED domain is reported with the values of a CLOSED record.

R120: the reply of TICKET_STATUS.

R48, with R195: the reply of SHARE_STATUS. The absent fields of a FREE entry are sent as 0, which is what the entry
holds (R39).

R188: the reply of PART_STATUS, which is taken in every mode. None of the four changes anything.

R168: the timestamp advances by 1 and returns to 0 after 4,294,967,295, in every mode outside a reset. -/
def Obligations.StatusReplies : Prop :=
  (∀ (s : State) (seq : Byte) (x : BitVec 16) (rest : List (List Byte)),
     let r : DomainRec := if (s.domain (x.setWidth 10)).state = .closed then
         { state := .closed, quota := 0, held := 0, score := 0, latch := false }
       else s.domain (x.setWidth 10)
     let f := [0x24, seq] ++ beBytes 2 x.toNat
     Begins s f rest → ∃ t, exec .domainStatus s = .next t ∧
       if s.mc.mode = .recovering then Refused s t f rest .wrongMode
       else if 1023 < x.toNat then Refused s t f rest .badValue
       else
         Answered s t f rest .ok (beBytes 2 x.toNat ++ [r.state.code] ++ beBytes 4 r.quota ++ beBytes 4 r.held ++
           beBytes 2 r.score ++ [r.standing.code, boolByte r.latch, boolByte s.mc.countsStale])) ∧
  (∀ (s : State) (seq : Byte) (k : Ticket) (rest : List (List Byte)),
     let f := [0x19, seq] ++ beBytes 2 k.toNat
     Begins s f rest → ∃ t, exec .ticketStatus s = .next t ∧
       if s.mc.mode = .recovering then Refused s t f rest .wrongMode
       else
         match s.te.table.find? (fun c => c.ticket == k) with
         | none => Refused s t f rest .noTicket
         | some c =>
           Answered s t f rest .ok ([c.command.code, c.phase.code] ++ beBytes 4 c.doneCount ++
             beBytes 4 c.poisonedCount ++ [BitVec.ofNat 8 c.runs] ++
             [match c.status with
               | some st => st.code
               | none => 0xFF])) ∧
  (∀ (s : State) (seq : Byte) (x : BitVec 16) (rest : List (List Byte)),
     let e := s.share (x.setWidth 8)
     let f := [0x2A, seq] ++ beBytes 2 x.toNat
     Begins s f rest → ∃ t, exec .shareStatus s = .next t ∧
       if s.mc.mode = .recovering then Refused s t f rest .wrongMode
       else if 255 < x.toNat then Refused s t f rest .badValue
       else
         Answered s t f rest .ok ([x.setWidth 8, boolByte e.inUse] ++ beBytes 2 e.owner.toNat ++
           beBytes 2 e.pattern.toNat ++ beBytes 2 e.mask.toNat ++ [e.rights.code] ++ beBytes 4 e.refcount ++
           [boolByte s.mc.countsStale])) ∧
  (∀ (s : State) (seq pad : Byte) (rest : List (List Byte)),
     let f := [0x4A, seq, pad]
     let modeByte (m : Option Mode) : Byte := match m with
       | none => 0xFF
       | some m => m.code
     Begins s f rest → ∃ t, exec .partStatus s = .next t ∧
       Answered s t f rest .ok ([0x44, 0x20, 1, s.mc.mode.code, modeByte s.mc.pendingTarget,
         modeByte s.mc.suspendOrigin, s.mc.storeState.code,
         match s.mc.poolCode with
         | none => 0x0F
         | some c => BitVec.ofNat 8 c.val,
         boolByte s.mc.countsStale, s.mc.scrubInterval, s.mc.decayCode, s.mc.drainTimeout] ++
         beBytes 2 s.eu.flags.toNat ++ beBytes 2 s.cp.frameErrors ++ beBytes 4 s.mc.timestamp.toNat)) ∧
  (∀ s : State, s.mc.inReset = none → ∃ t, exec .timestampTick s = .next t ∧ OnlyChanges [.mc] s t ∧
     { t.mc with timestamp := s.mc.timestamp } = s.mc ∧
     t.mc.timestamp.toNat = if s.mc.timestamp.toNat = 4294967295 then 0 else s.mc.timestamp.toNat + 1)

/-- R36: a decay tick lowers by 1 the score of every domain that is OPEN or RETIRING, is not domain 0, has a score above
0 and does not have the latch set, and does nothing more than start the next interval. The outcomes where a tick and a
counted refusal of one domain meet are those of the rule's text and table. -/
def Obligations.DecayTick : Prop :=
  (∀ s : State, s.mc.inReset = none → s.mc.decayTimer ≠ none →
    ∃ t, exec .decayTick s = .next t ∧ OnlyChanges [.domains, .mc] s t ∧
      t.mc = { s.mc with decayTimer := some s.mc.decayCode } ∧
      ∀ d : DomainId, t.domain d =
        if d ≠ 0 ∧ ((s.domain d).state = .opened ∨ (s.domain d).state = .retiring) ∧ 0 < (s.domain d).score ∧
          (s.domain d).latch = false then { s.domain d with score := (s.domain d).score - 1 }
        else s.domain d) ∧
  ∀ (d : Nat) (r : DomainRec), d ≠ 0 → r.state ≠ .closed → r.latch = false →
    let tickFirst := (decayed d r).scoreUp
    let refusalFirst := decayed d r.scoreUp
    (1 ≤ r.score → r.score ≤ 247 → tickFirst = { r with score := r.score + 7 } ∧ refusalFirst = tickFirst) ∧
    (r.score = 0 → tickFirst = { r with score := 8 } ∧ refusalFirst = { r with score := 7 }) ∧
    (r.score = 248 → tickFirst = { r with score := 255 } ∧ tickFirst.standing = .restricted ∧
      refusalFirst = { r with score := 256, latch := true } ∧ refusalFirst.standing = .quarantined) ∧
    (r.score = 249 ∨ r.score = 250 → tickFirst = { r with score := 256, latch := true } ∧
      refusalFirst = { r with score := 256, latch := true })

/-! ## Share entries -/

/-- R46, with R45: the checks of SHARE_CREATE in their order, and the lowest FREE entry that it takes.

R47, with R39 and R45: the checks of SHARE_DELETE in their order, and the FREE entry that it leaves.

R40 and R41: which domains a share entry matches, and the rights that apply on an OWNED or SHARED tag. The owner is
judged by the rights of the tag alone. -/
def Obligations.ShareCreateAndDelete : Prop :=
  (∀ (s : State) (seq : Byte) (o p m : BitVec 16) (rights : Byte) (rest : List (List Byte)),
     let f := [0x28, seq] ++ beBytes 2 o.toNat ++ beBytes 2 p.toNat ++ beBytes 2 m.toNat ++ [rights]
     Begins s f rest → ∃ t, exec .shareCreate s = .next t ∧
       match tableRefusal s (if 1023 < o.toNat ∨ 1023 < p.toNat ∨ 1023 < m.toNat ∨ 1 < rights.toNat then some .badValue
         else if (s.domain (o.setWidth 10)).state ≠ .opened then some .unknownDomain
         else none) with
       | some st => Refused s t f rest st
       | none =>
         if ∀ i : ShareIx, (s.share i).inUse = true then Refused s t f rest .tableFull
         else
           ∃ i : ShareIx, (s.share i).inUse = false ∧ (∀ k < i, (s.share k).inUse = true) ∧
             let e : ShareEntry :=
               { inUse := true, owner := o.setWidth 10, pattern := p.setWidth 10, mask := m.setWidth 10,
                 rights := if rights = 0 then .ro else .rw, refcount := 0 }
             OnlyChanges [.shares, .dram, .cp] s t ∧ t.cp = answeredCp s.cp f rest .ok [i] ∧ ShareBecomes s t i e ∧
               SameBytes s t ∧
               ∀ c, s.mc.poolCode = some c → Issues s t [shareWrite t c i]) ∧
  (∀ (s : State) (seq : Byte) (x : BitVec 16) (rest : List (List Byte)),
     let i : ShareIx := x.setWidth 8
     let f := [0x29, seq] ++ beBytes 2 x.toNat
     let e : ShareEntry := { inUse := false, owner := 0, pattern := 0, mask := 0, rights := .ro, refcount := 0 }
     Begins s f rest → ∃ t, exec .shareDelete s = .next t ∧
       match tableRefusal s (if 255 < x.toNat ∨ (s.share i).inUse = false then some .badValue
         else if (s.te.table.any fun c => c.command.share? == some i) = true then some .busy
         else if 0 < (s.share i).refcount then some .inUse else none) with
       | some st => Refused s t f rest st
       | none =>
         OnlyChanges [.shares, .dram, .cp] s t ∧ t.cp = answeredCp s.cp f rest .ok [] ∧ ShareBecomes s t i e ∧
           SameBytes s t ∧
           ∀ c, s.mc.poolCode = some c → Issues s t [shareWrite t c i]) ∧
  (∀ (e : ShareEntry) (x : DomainId),
    e.covers x = true ↔ ∀ n < 10, e.mask.getLsbD n = false → x.getLsbD n = e.pattern.getLsbD n) ∧
  (∀ (s : State) (x o : DomainId) (r : Rights), s.applicableRights x (.owned o r) = if x = o then some r else none) ∧
  ∀ (s : State) (x o : DomainId) (r : Rights) (i : ShareIx),
    (x = o → s.applicableRights x (.shared o r i) = some r) ∧
    (x ≠ o → (s.share i).covers x = true → s.applicableRights x (.shared o r i) = some (s.share i).rights) ∧
    (x ≠ o → (s.share i).covers x = false → s.applicableRights x (.shared o r i) = none)

/-! ## The access check -/

/-- R54 and R57 to R63 in ENFORCE, R67 in MONITOR, with R66: for a request whose tag has been read, CU's ruling is that
of the first step of the decision order whose condition holds (`enforceStep`, `monitorStep`), in reason, scoring,
logging, serving and tag state seen.

R56 and R60: a request is ruled before its tag is read exactly when that step needs no tag: steps 4 to 9 in ENFORCE;
step 4, and every step for a granule at or above T, in MONITOR, which records the tag state otherwise. In every other
mode it is not ready. -/
def Obligations.DecisionFollowsOrder : Prop :=
  ∀ (s : State) (e : Entry) (tag : TagRec),
    (s.mc.mode = .enforce →
      let (reason, scored, logged) := enforceStep s e tag.tag
      s.decideRequest e (some tag) = .ruled
        { reason := reason, scored := scored, logged := logged, served := decide (reason = .none)
          seen := if reason = .privateRegion then .privateRegion
            else if reason = .unbacked ∨ reason = .unknownDomain ∨ reason = .retiring ∨ reason = .quarantined ∨
              reason = .outsideAperture then .unread
            else .state tag.tag.kind }) ∧
    (s.mc.mode = .monitor →
      let (reason, scored, logged, served) := monitorStep s e tag.tag
      s.decideRequest e (some tag) = .ruled
        { reason := reason, scored := scored, logged := logged, served := served
          seen := if reason = .unbacked then .unread
            else if s.tenants ≤ granuleOf e.lineNo then .privateRegion else .state tag.tag.kind }) ∧
    (s.mc.mode = .enforce →
      s.decideRequest e none =
        if (enforceStep s e tag.tag).1 ∈
            [.unbacked, .unknownDomain, .retiring, .quarantined, .outsideAperture, .privateRegion] then
          s.decideRequest e (some tag)
        else .needTag) ∧
    (s.mc.mode = .monitor →
      s.decideRequest e none =
        if (monitorStep s e tag.tag).1 = .unbacked ∨ s.tenants ≤ granuleOf e.lineNo then s.decideRequest e (some tag)
        else .needTag) ∧
    (s.mc.mode ≠ .enforce → s.mc.mode ≠ .monitor → ∀ read, s.decideRequest e read = .notReady)

/-- R31 to R34, R65 and R71: what a decision hands to the other blocks, in order: the score and latch of the domain,
with its persisted record when the latch becomes set; the DENY, STANDING and WATCH records; and the flags, those of a
change of standing, of a watched granule and of what the log has stored (R159), and no other. A decision that hands over
nothing changes nothing. -/
def Obligations.DecisionEffects : Prop :=
  ∀ (s : State) (p : Port) (e : Entry) (r : Ruling),
    let t := s.ruleEffects p e r
    let old := s.domain e.domain
    let new := { old with score := min (old.score + 8) 256, latch := old.latch || decide (256 ≤ old.score + 8) }
    OnlyChanges [.domains, .dram, .vl, .eu, .cp] s t ∧ SameBytes s t ∧
      t.vl = (decisionEvents s p e r).foldl (storeEvent s.mc.timestamp) s.vl ∧
      (if counts e r then DomainBecomes s t e.domain new else t.domains = s.domains) ∧
      (if counts e r = true ∧ new.latch ≠ old.latch then
        ∀ c, s.mc.poolCode = some c →
          Issues s t [domainWrite t c e.domain]
      else t.dram = s.dram) ∧
      FlagsSet s t (
        (if counts e r = true ∧ new.standing ≠ old.standing then
          match new.standing with
          | .warned => [.domainWarned]
          | .restricted => [.domainRestricted]
          | .quarantined => [.domainQuarantined]
          | _ => []
        else []) ++
        (if watched s p e then [.watchHit] else []) ++
        if decisionEvents s p e r ≠ [] then storingFlags s t else []) ∧
      (r.logged = false → counts e r = false → watched s p e = false → t = s)

/-- R54, R56, R60, R64, R68, R79 and R146: CU takes an admitted request in the step in which it is admitted. One that is
ruled without its tag is decided at once, and TC is not asked; one whose tag line is cached is decided against its tag;
any other stays in CHECKING and waits in TC, attached to a fill, with a fill of its own, or stalled (LookupOutcomes,
WaitingPartiesTaken). Decided, the entry is FORWARDED when served, and otherwise its refusal is placed in the send list.
The decision's effects on the other blocks are those of DecisionEffects. -/
def Obligations.RequestsDecided : Prop :=
  ∀ (s : State) (p : Port) (tag : Byte) (domain : BitVec 16) (line : BitVec 40) (data : List Byte)
    (c : Instr) (op : Opcode),
    (c = .requestRead p tag domain line ∧ op = .read ∧ data = []) ∨
      (c = .requestWrite p tag domain line data ∧ op = .write ∧ data.length = 64) →
    Admits s p (tag.setWidth 6) →
    let n : LineNo := line.setWidth 34
    let g := 64 * n.toNat / 4096
    let e := admitted (s.port p) (tag.setWidth 6) (domain.setWidth 10) op n data
    let taken : PortRec := { s.port p with
      linkTimer := some (s.port p).timeoutCode, table := (s.port p).table ++ [e] }
    let ruled (u : State) (r : Ruling) : Prop :=
      let v := s.ruleEffects p e r
      u.port p = portDecides taken e r.served r.reason ∧
        u.domains = v.domains ∧ u.dram = v.dram ∧ u.vl = v.vl ∧ u.eu = v.eu ∧ u.cp = v.cp
    (∀ r, s.decideRequest e none = .ruled r →
      ∃ u, exec c s = .next u ∧ OnlyChanges [portBlock p, .domains, .dram, .vl, .eu, .cp] s u ∧ ruled u r) ∧
    (s.decideRequest e none = .needTag →
      (∀ recs : TagLine, Cached s (g / 4) recs →
        ∃ u r, exec c s = .next u ∧ s.decideRequest e (some (recs.get (g % 4))) = .ruled r ∧
          OnlyChanges [portBlock p, .tc, .domains, .dram, .vl, .eu, .cp] s u ∧ OnlyRecency s u (g / 4) ∧ ruled u r) ∧
      ((∀ x ∈ s.tc.set (g / 4), x.2.isValid (g / 4) = false) →
        ∃ u, exec c s = .next u ∧ OnlyChanges [portBlock p, .tc] s u ∧ u.port p = taken ∧
          u.tc = (s.tc.lookup (.request p (tag.setWidth 6)) (g / 4)).1)) ∧
    s.decideRequest e none ≠ .notReady

/-- R57 and R67: whatever the command, a request that becomes FORWARDED addresses a tenant granule, in ENFORCE or
MONITOR. No request to a granule at or above T is ever served. -/
def Obligations.OnlyTenantGranulesServed : Prop :=
  ∀ (c : Instr) (s t : State) (p : Port) (e : Entry), (∀ q, ((s.port q).table.map Entry.tag).Nodup) →
    exec c s = .next t → e ∈ (t.port p).table → e.stage = .forwarded →
    (∃ old ∈ (s.port p).table, old.tag = e.tag ∧ old.lineNo = e.lineNo ∧ old.stage = .forwarded) ∨
      ((s.mc.mode = .enforce ∨ s.mc.mode = .monitor) ∧ 64 * e.lineNo.toNat / 4096 < s.tenants)

/-- R145 and R148, with R54, R55 and R68: a request on an UP link that fails step 1, 2 or 3 takes no entry; its refusal
takes one of the 8 places of the send list, or is dropped. OVERLIMIT, TAG_BUSY and a drop each add 1 to the integrity
count. On any other link the frame is dropped (R143). -/
def Obligations.AdmissionRefusals : Prop :=
  ∀ (s : State) (p : Port) (tag : Byte) (domain : BitVec 16) (line : BitVec 40) (data : List Byte) (c : Instr)
    (op : Opcode), s.mc.inReset = none →
    (c = .requestRead p tag domain line ∧ op = .read) ∨
      (c = .requestWrite p tag domain line data ∧ op = .write ∧ data.length = 64) →
    let k : ReqTag := tag.setWidth 6
    let r := s.port p
    let step : Option (Reason × Nat) :=
      if r.tagLimit ≤ r.table.length then some (.overlimit, 1)
      else if (r.table.any fun e => e.tag == k) = true then some (.tagBusy, 1)
      else if s.mc.mode = .config ∨ s.mc.mode = .recovering then some (.notReady, 0)
      else if s.mc.pendingTarget = some .suspended ∨ s.mc.mode = .suspended then some (.suspended, 0)
      else none
    (r.link ≠ .up → exec c s = .next s) ∧
    ∀ reason counted, r.link = .up → step = some (reason, counted) →
      let room := (r.sendList.filter SendItem.isRefusal).length < 8
      let adds := counted + if room then 0 else 1
      ∃ u, exec c s = .next u ∧ OnlyChanges [portBlock p, .eu, .cp] s u ∧
        u.port p = { r with
          linkTimer := some r.timeoutCode
          integrity := if adds = 0 then r.integrity else min (r.integrity + adds) 255
          sendList := if room then r.sendList ++ [.refusal k (refusalOutcome r op) reason] else r.sendList } ∧
        if adds = 0 then u.eu = s.eu ∧ u.cp = s.cp else FlagsSet s u [.portIntegrity]

/-- R69, R70 and R146: the completion of a served operation forms the response of its entry, a READ's with the 64 bytes
read, a WRITE storing its data; an UNCORRECTABLE one carries DATA_ERROR, stores a DATA_POISON record, sets the flag,
and leaves the 64 bytes of a WRITE open (log entry 6). `settleMode` is what follows in the same step
(SuspendAndReturn), after the flags (log entry 48).

R72, R105 and R149: when the operation of an orphan completes its entry is removed with no response, and leaves the
drain snapshot; the rest is as for any other. That a READ carries the bytes that DRAM holds at its completion is the
model's (log entry 35). -/
def Obligations.OperationCompletes : Prop :=
  (∀ (s : State) (p : Port) (e : Entry) (o : MemOutcome), s.mc.inReset = none →
     (s.port p).entry e.tag = some e → e.stage = .forwarded → e.response = none → e.orphan = false →
     let a := 64 * e.lineNo.toNat
     let resp : Response := match o with
       | .ok => { outcome := if e.op = .read then .data else .done, reason := .none
                  data := if e.op = .read then s.dram.read a 64 else [] }
       | .uncorrectable =>
         { outcome := if (s.port p).poison then .poison else .abort, reason := .dataError, data := [] }
     ∃ u, exec (.memoryOpComplete p e.tag o) s = .next u.settleMode ∧
       (u.port p).entry e.tag = some { e with data := [], response := some resp } ∧
       (∀ k, k ≠ e.tag → (u.port p).entry k = (s.port p).entry k) ∧
       (u.port p).sendList = (s.port p).sendList ++ [.response e.tag] ∧
       { u.port p with table := [], sendList := [] } = { s.port p with table := [], sendList := [] } ∧
       (e.op = .read → u.dram = s.dram) ∧
       (e.op = .write → OnlyBytesAt s.dram u.dram a e.data.length ∧ u.dram.persist = s.dram.persist ∧
         (o = .ok → WritesAt s.dram u.dram a e.data)) ∧
       match o with
       | .ok => OnlyChanges [portBlock p, .dram] s u
       | .uncorrectable =>
         OnlyChanges [portBlock p, .dram, .vl, .eu, .cp] s u ∧
           u.vl = storeEvent s.mc.timestamp s.vl (.dataPoison p e.domain (a / 4096) (a / 64 % 64) e.op) ∧
           FlagsSet s u ([.dataPoison] ++ storingFlags s u)) ∧
  (∀ (s : State) (p : Port) (e : Entry) (o : MemOutcome), s.mc.inReset = none →
     (s.port p).entry e.tag = some e → e.stage = .forwarded → e.response = none → e.orphan = true →
     let a := 64 * e.lineNo.toNat
     ∃ u, exec (.memoryOpComplete p e.tag o) s = .next u.settleMode ∧
       u.port p = { s.port p with table := (s.port p).table.filter fun x => x.tag != e.tag } ∧
       SnapshotLoses s u [(p, e.tag)] ∧ (e.op = .read → u.dram = s.dram) ∧
       (e.op = .write → OnlyBytesAt s.dram u.dram a e.data.length ∧ u.dram.persist = s.dram.persist ∧
         (o = .ok → WritesAt s.dram u.dram a e.data)) ∧
       match o with
       | .ok => OnlyChanges [portBlock p, .dram, .te] s u
       | .uncorrectable =>
         OnlyChanges [portBlock p, .dram, .te, .vl, .eu, .cp] s u ∧
           u.vl = storeEvent s.mc.timestamp s.vl (.dataPoison p e.domain (a / 4096) (a / 64 % 64) e.op) ∧
           FlagsSet s u ([.dataPoison] ++ storingFlags s u))

/-! ## Request links -/

/-- R139, R140 and R150: an ANNOUNCE loads the capability record with its clamps unless the record is FROZEN, restarts
the timer, and is acknowledged with the record as it then stands; in DOWN it brings the link UP and sets the link flag,
and in DISABLED it has no effect. The head of the send list is the frame being sent (log entry 11). -/
def Obligations.AnnounceLoadsCapability : Prop :=
  ∀ (s : State) (p : Port) (limit poison : Byte), s.mc.inReset = none →
    let r := s.port p
    let loaded : PortRec := if r.origin = .frozen then r else
      { r with tagLimit := if limit = 0 then 1 else if 64 < limit.toNat then 64 else limit.toNat
               poison := poison.getLsbD 0, origin := .announced }
    let ack : SendItem := .ack loaded.tagLimit loaded.poison loaded.origin
    (r.link = .disabled → exec (.announce p limit poison) s = .next s) ∧
    (r.link = .down → r.sendList = [] →
      ∃ u, exec (.announce p limit poison) s = .next u ∧ OnlyChanges [portBlock p, .eu, .cp] s u ∧
        u.port p = { loaded with link := .up, linkTimer := some r.timeoutCode, sendList := [ack] } ∧
        FlagsSet s u [linkFlag p]) ∧
    (r.link = .up →
      ∃ u, exec (.announce p limit poison) s = .next u ∧ OnlyChanges [portBlock p] s u ∧
        { u.port p with sendList := [], ackAgain := false } =
          { loaded with linkTimer := some r.timeoutCode, sendList := [], ackAgain := false } ∧
        match r.sendList with
        | [] => (u.port p).sendList = [ack] ∧ (u.port p).ackAgain = r.ackAgain
        | .ack _ _ _ :: _ => (u.port p).sendList = r.sendList ∧ (u.port p).ackAgain = true
        | head :: rest =>
          (u.port p).ackAgain = r.ackAgain ∧
            if ∃ i ∈ rest, i.isAck = true then
              (u.port p).sendList = head :: rest.map fun i => if i.isAck then ack else i
            else (u.port p).sendList = head :: rest ++ [ack])

/-- R141, R143 and R144: on an UP link an IDLE restarts the timer, and a frame that is none of the four valid peer
frames adds 1 to the integrity count, up to 255, and sets PORT_INTEGRITY; on any other link both are dropped.

R144: which frames are valid. The bytes of a frame of each of the four peer kinds, of its length, closed with the
CRC-16 of the bytes before it, are valid; the same bytes with any other check are not, and no frame of another kind or
length is. -/
def Obligations.IdleAndBadFrames : Prop :=
  (∀ (s : State) (p : Port) (bytes : List Byte), s.mc.inReset = none → peerFrameValid bytes = false →
     ((s.port p).link ≠ .up → exec (.idle p) s = .next s ∧ exec (.badLinkFrame p bytes) s = .next s) ∧
     ((s.port p).link = .up →
       (∃ u, exec (.idle p) s = .next u ∧ OnlyChanges [portBlock p] s u ∧
         u.port p = { s.port p with linkTimer := some (s.port p).timeoutCode }) ∧
       ∃ u, exec (.badLinkFrame p bytes) s = .next u ∧ OnlyChanges [portBlock p, .eu, .cp] s u ∧
         u.port p = { s.port p with integrity := min ((s.port p).integrity + 1) 255 } ∧ FlagsSet s u [.portIntegrity])) ∧
  ((∀ kind ∈ ([(1, 11), (2, 75), (3, 5), (4, 3)] : List (Byte × Nat)), ∀ body : List Byte,
     body.length + 3 = kind.2 → ∀ high low : Byte,
       (peerFrameValid (kind.1 :: body ++ [high, low]) = true ↔ crcBytes (kind.1 :: body) = [high, low])) ∧
   ∀ bytes : List Byte, peerFrameValid bytes = true →
     (bytes.headD 0, bytes.length) ∈ ([(1, 11), (2, 75), (3, 5), (4, 3)] : List (Byte × Nat)))

/-- R142 and R138, with R105: the expiry of the link timer takes the link DOWN: its entries become orphans, those with a
response waiting are removed and leave the drain snapshot, the send list is emptied, the integrity count and the timer
stop, the link flag is set, and all else of the port is kept.

R105, R147 and R153: the oldest frame of the send list is sent. An entry's response removes the entry, which leaves the
drain snapshot; a reason other than NONE becomes the last reason; an acknowledgement owed under R140 follows.

`settleMode` is what follows in the same step (SuspendAndReturn). That it comes after the link flag, so that
MODE_CHANGED of a pending SUSPENDED does, is the model's choice (log entry 48). -/
def Obligations.LinkTimeoutAndFrameSent : Prop :=
  (∀ (s : State) (p : Port), s.mc.inReset = none → (s.port p).link = .up → (s.port p).linkTimer ≠ none →
    ∃ u, exec (.linkTimeout p) s = .next u.settleMode ∧ OnlyChanges [portBlock p, .te, .eu, .cp] s u ∧
      u.port p = downRecord (s.port p) .down ∧ SnapshotLoses s u (answeredIn s p) ∧ FlagsSet s u [linkFlag p]) ∧
  ∀ (s : State) (p : Port) (item : SendItem) (rest : List SendItem), s.mc.inReset = none → (s.port p).link = .up →
    (s.port p).sendList = item :: rest →
    let r := s.port p
    ∃ u, exec (.linkFrameSent p) s = .next u.settleMode ∧
      match item with
      | .response k =>
        OnlyChanges [portBlock p, .te] s u ∧ SnapshotLoses s u [(p, k)] ∧
          ∀ e resp, r.entry k = some e → e.response = some resp →
            u.port p = { r with
              sendList := rest, table := r.table.filter fun x => x.tag != k
              lastReason := if resp.reason = .none then r.lastReason else resp.reason }
      | .refusal _ _ reason =>
        OnlyChanges [portBlock p] s u ∧
          u.port p = { r with sendList := rest, lastReason := if reason = .none then r.lastReason else reason }
      | .ack _ _ _ =>
        OnlyChanges [portBlock p] s u ∧
          u.port p = { r with
            sendList := if r.ackAgain then rest ++ [.ack r.tagLimit r.poison r.origin] else rest, ackAgain := false }

/-- R150 to R152 and R154, with R138 and R142: PORT_SET's checks in their order, and its changes of each port that its
selector names, made in one step: the four flags by the set and clear masks, the values that go with a flag set, and the
timeout code. An UP port that goes DISABLED loses its answered entries, which leave the drain snapshot (R105). The link
flag of a named port is set where it is enabled or disabled, which is where its link state changes, and no other flag.
`settleMode` is what follows in the same step (SuspendAndReturn): that MODE_CHANGED of a pending SUSPENDED comes after
the reply, and after the link flags, is the model's choice (log entries 43 and 48). -/
def Obligations.PortSet : Prop :=
  ∀ (s : State) (seq sel set clr timeout limit poison : Byte) (first last watch : BitVec 32)
    (rest : List (List Byte)),
    let f := [0x40, seq, sel, set, clr] ++ beBytes 4 first.toNat ++ beBytes 4 last.toNat ++ beBytes 4 watch.toNat ++
      [timeout, limit, poison]
    let on (i : Nat) : Bool := set.getLsbD i && !clr.getLsbD i
    let off (i : Nat) : Bool := clr.getLsbD i && !set.getLsbD i
    let refusal : Option Status :=
      if s.mc.mode = .recovering then some .wrongMode
      else if 2 < sel.toNat then some .badPort
      else if 16 ≤ set.toNat ∨ 16 ≤ clr.toNat ∨ (3 < timeout.toNat ∧ timeout ≠ 0xFF) ∨
          (on 1 = true ∧ (last.toNat < first.toNat ∨ s.tenants ≤ last.toNat)) ∨
          (on 2 = true ∧ 268435455 < watch.toNat) ∨
          (on 3 = true ∧ (limit.toNat < 1 ∨ 64 < limit.toNat ∨ 1 < poison.toNat)) then some .badValue
      else none
    let named (p : Port) : Bool := sel = 2 || sel = portCode p
    Begins s f rest →
    (∀ st, refusal = some st → ∃ t, exec .portSet s = .next t ∧ Refused s t f rest st) ∧
    (refusal = none →
      ∃ u, exec .portSet s = .next u.settleMode ∧ OnlyChanges [.portA, .portB, .te, .eu, .cp] s u ∧
        (∀ p, named p = false → u.port p = s.port p) ∧
        (∀ p, named p = true →
          let r := s.port p
          let x := u.port p
          x.enabled = (if on 0 then true else if off 0 then false else r.enabled) ∧
          x.link = (if on 0 = true ∧ r.enabled = false then .down
            else if off 0 = true ∧ r.enabled = true then .disabled else r.link) ∧
          (x.apertureOn, x.apertureFirst, x.apertureLast) =
            (if on 1 then (true, first.toNat, last.toNat)
             else if off 1 then (false, r.apertureFirst, r.apertureLast)
             else (r.apertureOn, r.apertureFirst, r.apertureLast)) ∧
          (x.watchOn, x.watchGranule) =
            (if on 2 then (true, watch.toNat) else if off 2 then (false, r.watchGranule)
             else (r.watchOn, r.watchGranule)) ∧
          (x.tagLimit, x.poison, x.origin) =
            (if on 3 then (limit.toNat, decide (poison = 1), Origin.frozen)
             else if off 3 = true ∧ r.origin = .frozen then (r.tagLimit, r.poison, Origin.none)
             else (r.tagLimit, r.poison, r.origin)) ∧
          x.timeoutCode = (if timeout = 0xFF then r.timeoutCode else timeout.toNat) ∧
          x.lastReason = r.lastReason ∧
          (if off 0 = true ∧ r.enabled = true ∧ r.link = .up then
            (x.table, x.sendList, x.ackAgain, x.integrity, x.linkTimer) =
              ((downRecord r .disabled).table, [], false, 0, none)
           else (x.table, x.sendList, x.ackAgain, x.integrity, x.linkTimer) =
             (r.table, r.sendList, r.ackAgain, r.integrity, r.linkTimer))) ∧
        SnapshotLoses s u (([Port.a, Port.b].filter fun p =>
          named p && off 0 && (s.port p).enabled && decide ((s.port p).link = .up)).flatMap (answeredIn s)) ∧
        FlagsSet s u (([Port.a, .b].filter fun p => named p &&
          ((on 0 && !(s.port p).enabled) || (off 0 && (s.port p).enabled))).map linkFlag) ∧
        u.cp.inbound = rest ∧ u.cp.executing = none ∧
        u.cp.replies = s.cp.replies ++ [{ kind := 0xC0, seq := seq, status := .ok, results := [] }])

/-- R155: the reply of PORT_STATUS.

R156: PORT_CLEAR clears the integrity count, the last reason, both or neither, and never the PORT_INTEGRITY flag. A
count that rises before it ends at 0, and one that rises after it at 1. -/
def Obligations.PortStatusAndClear : Prop :=
  (∀ (s : State) (seq sel : Byte) (rest : List (List Byte)),
     let r := if sel = 0 then s.portA else s.portB
     let f := [0x41, seq, sel]
     Begins s f rest → ∃ t, exec .portStatus s = .next t ∧
       if s.mc.mode = .recovering then Refused s t f rest .wrongMode
       else if sel ≠ 0 ∧ sel ≠ 1 then Refused s t f rest .badPort
       else
         Answered s t f rest .ok ([boolByte r.enabled, r.link.code, BitVec.ofNat 8 r.tagLimit, boolByte r.poison,
           r.origin.code, boolByte r.apertureOn] ++ beBytes 4 r.apertureFirst ++ beBytes 4 r.apertureLast ++
           [boolByte r.watchOn] ++ beBytes 4 r.watchGranule ++
           [BitVec.ofNat 8 r.timeoutCode, BitVec.ofNat 8 r.integrity, r.lastReason.code,
             BitVec.ofNat 8 r.table.length, BitVec.ofNat 8 (r.table.countP fun e => e.orphan),
             BitVec.ofNat 8 (r.table.countP fun e => decide (e.stage = .forwarded))])) ∧
  ((∀ (s : State) (seq sel integrity reason : Byte) (rest : List (List Byte)),
     let p := if sel = 0 then Port.a else Port.b
     let f := [0x42, seq, sel, integrity, reason]
     Begins s f rest → ∃ t, exec .portClear s = .next t ∧
       if s.mc.mode = .recovering then Refused s t f rest .wrongMode
       else if sel ≠ 0 ∧ sel ≠ 1 then Refused s t f rest .badPort
       else if 1 < integrity.toNat ∨ 1 < reason.toNat then Refused s t f rest .badValue
       else
         OnlyChanges [portBlock p, .cp] s t ∧ t.cp = answeredCp s.cp f rest .ok [] ∧
           t.port p = { s.port p with
             integrity := if integrity = 1 then 0 else (s.port p).integrity
             lastReason := if reason = 1 then .none else (s.port p).lastReason }) ∧
   ∀ (s : State) (p : Port) (reason : Bool),
     let cleared (s : State) : State := s.updatePort p fun r => r.clear true reason
     ((cleared s).countIntegrity p).port p = { (cleared s).port p with integrity := 1 } ∧
       ((cleared (s.countIntegrity p)).port p).integrity = 0 ∧
       hasFlag (cleared (s.countIntegrity p)).eu.flags .portIntegrity = true)

/-! ## The violation log and the event unit -/

/-- R159: where a record handed over goes, in the four cases of the rule, and the flags that storing it sets. -/
def Obligations.LogStoresRecord : Prop :=
  ∀ (s : State) (e : LogEvent),
    let r : LogRec := { event := e, timestamp := s.mc.timestamp, superseded := 0 }
    let t := s.logRecord e
    OnlyChanges [.vl, .eu, .cp] s t ∧ t.vl.hold = s.vl.hold ∧ t.vl.frozen = s.vl.frozen ∧
    (s.vl.frozen = true →
      t.vl = { s.vl with missed := min (s.vl.missed + 1) 65535 } ∧ t.eu = s.eu ∧ t.cp = s.cp) ∧
    (∀ (old : List LogRec) (newest : LogRec), s.vl.frozen = false → s.vl.records = old ++ [newest] →
      s.vl.overflow = true ∨ (s.vl.overflow = false ∧ s.vl.records.length = 32) →
      t.vl = { s.vl with
        overflow := true, records := old ++ [{ r with superseded := min (newest.superseded + 1) 65535 }] } ∧
        FlagsSet s t (if s.vl.overflow then [] else [.logOverflow])) ∧
    (s.vl.frozen = false → s.vl.records.length < 32 → s.vl.overflow = false ∨ s.vl.records = [] →
      t.vl.records = s.vl.records ++ [r] ∧ t.vl.missed = s.vl.missed ∧
        t.vl.overflow = (s.vl.overflow || decide (s.vl.records.length = 31)) ∧
        FlagsSet s t ((if s.vl.records.length = 31 then [.logOverflow] else []) ++
          if s.vl.records = [] then [.logNonempty] else []))

/-- R161 and R162: LOG_READ takes the oldest records out of the log and sends them; LOG_CONTROL sets the latches, the
setting and the missed count. Neither changes a flag.

R157 and R195: the bytes of a log record of each kind as LOG_READ carries it: 22 of them, the kind first, absent fields
0, the timestamp and the superseded count last; the tag state of a DENY or WATCH record is that of the tag seen, PRIVATE
or UNREAD, and a TAG_LOST record has a port only where a request's fill found the loss. -/
def Obligations.LogMessages : Prop :=
  ((∀ (s : State) (seq n : Byte) (rest : List (List Byte)),
     let f := [0x38, seq, n]
     Begins s f rest → ∃ t, exec .logRead s = .next t ∧
       if s.mc.mode = .recovering then Refused s t f rest .wrongMode
       else if n = 0 ∨ 4 < n.toNat then Refused s t f rest .badValue
       else
         let out := s.vl.records.take n.toNat
         let left := s.vl.records.drop n.toNat
         OnlyChanges [.vl, .cp] s t ∧ t.vl = { s.vl with records := left } ∧
           t.cp = answeredCp s.cp f rest .ok ([BitVec.ofNat 8 out.length] ++ out.flatMap LogRec.carried ++
             [BitVec.ofNat 8 left.length, boolByte s.vl.overflow, boolByte s.vl.frozen] ++ beBytes 2 s.vl.missed)) ∧
   ∀ (s : State) (seq overflow hold unfreeze missed : Byte) (rest : List (List Byte)),
     let f := [0x39, seq, overflow, hold, unfreeze, missed]
     Begins s f rest → ∃ t, exec .logControl s = .next t ∧
       if s.mc.mode = .recovering then Refused s t f rest .wrongMode
       else if 1 < overflow.toNat ∨ 2 < hold.toNat ∨ 1 < unfreeze.toNat ∨ 1 < missed.toNat then
         Refused s t f rest .badValue
       else
         let l : Log := { s.vl with
           overflow := s.vl.overflow && decide (overflow = 0)
           hold := if hold = 0 then s.vl.hold else decide (hold = 1)
           frozen := s.vl.frozen && decide (unfreeze = 0)
           missed := if missed = 1 then 0 else s.vl.missed }
         OnlyChanges [.vl, .cp] s t ∧ t.vl = l ∧
           t.cp = answeredCp s.cp f rest .ok ([boolByte l.overflow, boolByte l.frozen, boolByte l.hold] ++
             beBytes 2 l.missed ++ [BitVec.ofNat 8 l.records.length])) ∧
  (∀ (p : Port) (d : DomainId) (g : BitVec 28) (l : BitVec 6) (op : Opcode) (r : Reason) (served : Bool) (seen : TagSeen)
     (st : Standing) (ts : BitVec 32) (sup : BitVec 16),
     let tail := beBytes 4 ts.toNat ++ beBytes 2 sup.toNat
     let more : Nat := if sup = 0 then 0 else 0x200
     let line : Byte := l.setWidth 8
     let state : Byte :=
       match seen with
       | .state k => k.code
       | .privateRegion => 6
       | .unread => 7
     (∀ e, (LogRec.carried { event := e, timestamp := ts, superseded := sup.toNat }).length = 22) ∧
     LogRec.carried { event := .deny p d g.toNat l.toNat op r served seen, timestamp := ts, superseded := sup.toNat }
       = [0] ++ beBytes 2 (0x0FF + more) ++ [portCode p] ++ beBytes 2 d.toNat ++ beBytes 4 g.toNat ++
         [line, op.code, r.code, boolByte served, state, 0] ++ tail ∧
     LogRec.carried { event := .watch p d g.toNat l.toNat op seen, timestamp := ts, superseded := sup.toNat }
       = [1] ++ beBytes 2 (0x09F + more) ++ [portCode p] ++ beBytes 2 d.toNat ++ beBytes 4 g.toNat ++
         [line, op.code, 0, 0, state, 0] ++ tail ∧
     LogRec.carried { event := .standing d st, timestamp := ts, superseded := sup.toNat }
       = [2] ++ beBytes 2 (0x102 + more) ++ [0] ++ beBytes 2 d.toNat ++ [0, 0, 0, 0, 0, 0, 0, 0, 0, st.code] ++ tail ∧
     LogRec.carried { event := .tagLost (some p) g.toNat, timestamp := ts, superseded := sup.toNat }
       = [3] ++ beBytes 2 (0x005 + more) ++ [portCode p, 0, 0] ++ beBytes 4 g.toNat ++ [0, 0, 0, 0, 0, 0] ++ tail ∧
     LogRec.carried { event := .tagLost none g.toNat, timestamp := ts, superseded := sup.toNat }
       = [3] ++ beBytes 2 (0x004 + more) ++ [0, 0, 0] ++ beBytes 4 g.toNat ++ [0, 0, 0, 0, 0, 0] ++ tail ∧
     LogRec.carried { event := .dataPoison p d g.toNat l.toNat op, timestamp := ts, superseded := sup.toNat }
       = [4] ++ beBytes 2 (0x01F + more) ++ [portCode p] ++ beBytes 2 d.toNat ++ beBytes 4 g.toNat ++
         [line, op.code, 0, 0, 0, 0] ++ tail)

/-- R163, R166 and R167: a flag that becomes set while enabled places an EVENT notice when none is waiting; one that is
disabled, or set already, places none. ALERT_N is low exactly while a flag is both set and enabled.

R164 to R166: EVENT_ENABLE changes the enables by its two masks, and a flag found set that it enables places an EVENT
notice when none is waiting, before its reply (a flag that was enabled already counts as no change, log entry 13; the
order of notice and reply is the model's, log entry 12); EVENT_CLEAR clears the flags of its mask. Each replies with the
flag set and the enable mask as they then stand. -/
def Obligations.EventFlagsAndMessages : Prop :=
  ((∀ (s : State) (f : EventFlag),
     let t := s.setFlag f
     OnlyChanges [.eu, .cp] s t ∧ FlagsSet s t [f] ∧
       (hasFlag s.eu.flags f = true → t = s) ∧
       (hasFlag s.eu.flags f = false →
         t.cp = if hasFlag s.eu.enabled f = true ∧ s.cp.eventWaiting = false then noticed s.cp t.eu.flags (.event none)
           else s.cp)) ∧
   ∀ e : Events, e.alertLow = true ↔ ∃ f, hasFlag e.flags f = true ∧ hasFlag e.enabled f = true) ∧
  ((∀ (s : State) (seq : Byte) (set clr : BitVec 16) (rest : List (List Byte)),
     let f := [0x3C, seq] ++ beBytes 2 set.toNat ++ beBytes 2 clr.toNat
     Begins s f rest → ∃ t, exec .eventEnable s = .next t ∧
       if s.mc.mode = .recovering then Refused s t f rest .wrongMode
       else if 4096 ≤ set.toNat ∨ 4096 ≤ clr.toNat then Refused s t f rest .badValue
       else
         OnlyChanges [.eu, .cp] s t ∧ t.eu.flags = s.eu.flags ∧
           (∀ n < 12, t.eu.enabled.getLsbD n =
             if set.getLsbD n = true ∧ clr.getLsbD n = false then true
             else if set.getLsbD n = false ∧ clr.getLsbD n = true then false
             else s.eu.enabled.getLsbD n) ∧
           t.cp = answeredCp
             (if s.eu.flags &&& t.eu.enabled &&& ~~~s.eu.enabled ≠ 0 ∧ s.cp.eventWaiting = false then
               noticed s.cp s.eu.flags (.event none) else s.cp)
             f rest .ok (beBytes 2 s.eu.flags.toNat ++ beBytes 2 t.eu.enabled.toNat)) ∧
   ∀ (s : State) (seq : Byte) (mask : BitVec 16) (rest : List (List Byte)),
     let f := [0x3D, seq] ++ beBytes 2 mask.toNat
     Begins s f rest → ∃ t, exec .eventClear s = .next t ∧
       if s.mc.mode = .recovering then Refused s t f rest .wrongMode
       else if 4096 ≤ mask.toNat then Refused s t f rest .badValue
       else
         OnlyChanges [.eu, .cp] s t ∧ t.eu.enabled = s.eu.enabled ∧
           (∀ n < 12, t.eu.flags.getLsbD n = (s.eu.flags.getLsbD n && !mask.getLsbD n)) ∧
           t.cp = answeredCp s.cp f rest .ok (beBytes 2 t.eu.flags.toNat ++ beBytes 2 s.eu.enabled.toNat))

/-! ## The mode controller -/

/-- R182 to R185: MODE_REQUEST's checks in their order, the moves that take effect at once, with MODE_CHANGED set, and
those that set the pending target. A change to CONFIG takes effect at once where the command table is empty, one to
SUSPENDED where the conditions of R184 hold, and a return from SUSPENDED where no channel has entered self-refresh (log
entry 15). In SUSPENDED the scrubber keeps its runs with its timer stopped, and idle channels enter self-refresh; at the
return the scrubber goes on (SuspendAndReturn). -/
def Obligations.ModeRequest : Prop :=
  ∀ (s : State) (seq x : Byte) (rest : List (List Byte)),
    let f := [0x48, seq, x]
    let m := s.mc.mode
    let target : Mode :=
      if x = 1 then .config else if x = 2 then .enforce else if x = 3 then .monitor else .suspended
    let live : Prop := m = .enforce ∨ m = .monitor
    let atOnce : Prop := target ≠ m ∧ (target = .enforce ∨ target = .monitor) ∧ (m = .config ∨ live)
    let toConfig : Prop := target = .config ∧ live
    let toSuspended : Prop := target = .suspended ∧ live
    let idle : Prop := s.portA.table = [] ∧ s.portB.table = [] ∧ s.te.current = none
    let back : Prop := m = .suspended ∧ s.mc.suspendOrigin = some target
    let ok (t : State) : Prop := t.cp.inbound = rest ∧
      t.cp.replies = s.cp.replies ++ [{ kind := 0xC8, seq := seq, status := .ok, results := [] }]
    Begins s f rest →
    (m = .recovering → ∃ t, exec .modeRequest s = .next t ∧ Refused s t f rest .wrongMode) ∧
    (m ≠ .recovering → x = 0 ∨ 4 < x.toNat → ∃ t, exec .modeRequest s = .next t ∧ Refused s t f rest .badValue) ∧
    (m ≠ .recovering → x ≠ 0 → x.toNat ≤ 4 →
      (s.mc.pendingTarget ≠ none → ∃ t, exec .modeRequest s = .next t ∧ Refused s t f rest .busy) ∧
      (s.mc.pendingTarget = none →
        (¬ (atOnce ∨ toConfig ∨ toSuspended ∨ back) →
          ∃ t, exec .modeRequest s = .next t ∧ Refused s t f rest .wrongMode) ∧
        (atOnce → m = .config → s.mc.storeState ≠ .formatted →
          ∃ t, exec .modeRequest s = .next t ∧ Refused s t f rest .notFormatted) ∧
        (atOnce → (m = .config → s.mc.storeState = .formatted) →
          ∃ t, exec .modeRequest s = .next t ∧ OnlyChanges [.mc, .eu, .cp] s t ∧ ok t ∧
            t.mc = { s.mc with mode := target } ∧ FlagsSet s t [.modeChanged]) ∧
        (toConfig → s.te.table = [] →
          ∃ t, exec .modeRequest s = .next t ∧ OnlyChanges [.mc, .eu, .cp] s t ∧ ok t ∧
            t.mc = { s.mc with mode := .config } ∧ FlagsSet s t [.modeChanged]) ∧
        (toConfig → s.te.table ≠ [] →
          ∃ t, exec .modeRequest s = .next t ∧ OnlyChanges [.mc, .cp] s t ∧ t.cp = answeredCp s.cp f rest .ok [] ∧
            t.mc = { s.mc with pendingTarget := some .config }) ∧
        (toSuspended → ¬ idle →
          ∃ t, exec .modeRequest s = .next t ∧ OnlyChanges [.mc, .cp] s t ∧ t.cp = answeredCp s.cp f rest .ok [] ∧
            t.mc = { s.mc with pendingTarget := some .suspended }) ∧
        (toSuspended → idle →
          ∃ t, exec .modeRequest s = .next t ∧ OnlyChanges [.dram, .su, .mc, .eu, .cp] s t ∧ ok t ∧
            t.mc = { s.mc with mode := .suspended, suspendOrigin := some m } ∧ FlagsSet s t [.modeChanged] ∧
            t.su = { s.su with pacing := none } ∧ EnterSelfRefresh s t) ∧
        (back → s.dram.selfRefresh ≠ [] →
          ∃ t, exec .modeRequest s = .next t ∧ OnlyChanges [.mc, .cp] s t ∧ t.cp = answeredCp s.cp f rest .ok [] ∧
            t.mc = { s.mc with pendingTarget := some target }) ∧
        (back → s.dram.selfRefresh = [] →
          ∃ u t, exec .modeRequest s = .next t ∧ OnlyChanges [.dram, .mc, .eu, .cp] s u ∧
            u.mc = { s.mc with mode := target, suspendOrigin := none, pendingTarget := none } ∧
            u.dram = { s.dram with persist := s.dram.persist.map fun w => { w with held := false } } ∧
            FlagsSet s u [.modeChanged] ∧ OnlyChanges [.cp] u.scrubSettle t ∧ ok t)))

/-- R184: what follows in the same step from a command. While no change to SUSPENDED is pending, the mode is not
SUSPENDED, and the scrubber has nothing to begin, nothing does; a pending change to SUSPENDED takes effect exactly when
the four conditions hold together. In that step, and with every later one while no return is asked for, the channels
that have no operation in flight enter self-refresh; once a return is asked for none does. MI holds a write that it is
given for a channel in self-refresh (`Issues`), and it does not complete (WritesReachDram).

That it comes at the end of the step, after the other flags and notices of the step, and after the scrubber's next burst,
is the model's choice (log entries 48 and 40). Which channel serves an address is a free value (log entry 7).

R185 and R133: when the last channel has left self-refresh the mode becomes the suspend origin, MODE_CHANGED is set,
and MI issues what it held, all of it then (log entry 42); the scrubber, where it has work, then takes it up again (the
order is log entry 48's), and where it has none nothing else changes. -/
def Obligations.SuspendAndReturn : Prop :=
  ((∀ s : State, Quiet s → s.settle = s) ∧
   (∀ s : State, s.mc.mode ≠ .suspended → s.mc.pendingTarget ≠ some .suspended → s.settleMode = s) ∧
   (∀ s : State, s.mc.mode = .enforce ∨ s.mc.mode = .monitor → s.mc.pendingTarget = some .suspended →
     (s.portA.table = [] ∧ s.portB.table = [] ∧ s.te.current = none ∧ s.cp.executing = none →
       OnlyChanges [.dram, .su, .eu, .mc, .cp] s s.settleMode ∧ EnterSelfRefresh s s.settleMode ∧
         s.settleMode.su = { s.su with pacing := none } ∧
         s.settleMode.mc = { s.mc with
           mode := .suspended, suspendOrigin := some s.mc.mode, pendingTarget := none } ∧
         FlagsSet s s.settleMode [.modeChanged]) ∧
     (¬ (s.portA.table = [] ∧ s.portB.table = [] ∧ s.te.current = none ∧ s.cp.executing = none) → s.settleMode = s)) ∧
   (∀ s : State, s.mc.mode = .suspended → s.mc.pendingTarget = none →
     OnlyChanges [.dram] s s.settle ∧ EnterSelfRefresh s s.settle) ∧
   ∀ s : State, s.mc.mode = .suspended → s.mc.pendingTarget ≠ none → s.mc.pendingTarget ≠ some .suspended →
     s.settle = s) ∧
  (∀ s : State, ScrubberGoesOn s s.scrubSettle ∧
    (s.mc.mode = .suspended ∨
      (s.su.runs = [] ∧ s.su.write = none ∧ s.su.waiting = none ∧ s.su.pacing = none) → s.scrubSettle = s)) ∧
  (∀ (s : State) (origin target : Mode), s.mc.inReset = none → s.mc.mode = .suspended → s.mc.pendingTarget = some target →
     s.mc.suspendOrigin = some origin →
     ∃ u, exec .selfRefreshExit s = .next u.scrubSettle ∧ OnlyChanges [.dram, .eu, .mc, .cp] s u ∧
       u.mc = { s.mc with mode := origin, suspendOrigin := none, pendingTarget := none } ∧
       u.dram = { s.dram with
         selfRefresh := [], persist := s.dram.persist.map fun w => { w with held := false } } ∧
       FlagsSet s u [.modeChanged])

/-- R187, with R1, R20, R22 and R151: the checks of SETTINGS in their order; each field without its keep bit is loaded,
a drain timeout of 0 as 1; a change of the pool size sets domain 0's quota to the new T and disables the apertures that
reach it. Where the quota changes, its persisted record is written at its place in the new pool, and nowhere with pool
NONE; that it is this place is the model's choice (log entry 25). -/
def Obligations.Settings : Prop :=
  ∀ (s : State) (seq keep size interval decay timeout : Byte) (rest : List (List Byte)),
    let f := [0x49, seq, keep, size, interval, decay, timeout]
    let loaded (m : ModeController) : ModeController := { m with
      scrubInterval := if keep.getLsbD 1 then m.scrubInterval else interval
      decayCode := if keep.getLsbD 2 then m.decayCode else decay
      drainTimeout := if keep.getLsbD 3 then m.drainTimeout else if timeout = 0 then 1 else timeout }
    let reply (m : ModeController) : List Byte :=
      [match m.poolCode with
        | none => 0x0F
        | some c => BitVec.ofNat 8 c.val, m.scrubInterval, m.decayCode, m.drainTimeout]
    Begins s f rest → ∃ t, exec .settings s = .next t ∧
      if s.mc.mode = .recovering then Refused s t f rest .wrongMode
      else if keep.getLsbD 0 then
        OnlyChanges [.mc, .cp] s t ∧ t.mc = loaded s.mc ∧ t.cp = answeredCp s.cp f rest .ok (reply t.mc)
      else if s.mc.mode ≠ .config ∨ s.mc.storeState ≠ .unformatted then Refused s t f rest .wrongMode
      else if size ≠ 0x0F ∧ 4 < size.toNat then Refused s t f rest .badValue
      else
        let code : Option PoolCode := if h : size.toNat < 5 then some ⟨size.toNat, h⟩ else none
        let trimmed (p : PortRec) : PortRec :=
          { p with apertureOn := p.apertureOn && decide (p.apertureLast < tenantGranules code) }
        OnlyChanges [.mc, .domains, .dram, .portA, .portB, .cp] s t ∧ t.mc = { loaded s.mc with poolCode := code } ∧
          t.cp = answeredCp s.cp f rest .ok (reply t.mc) ∧
          DomainBecomes s t 0 { s.domain 0 with quota := tenantGranules code } ∧
          (match code with
            | some c =>
              if (s.domain 0).quota = tenantGranules code then t.dram = s.dram else Issues s t [domainWrite t c 0]
            | none => t.dram = s.dram) ∧
          t.portA = trimmed s.portA ∧ t.portB = trimmed s.portB

/-! ## Tag queries -/

/-- R15 to R17: TAG_READ's checks in their order, the reply for a private granule, and the reply for a tenant granule
whose line is cached: the record's fields, absent ones 0.

R74 to R76: SURVEY's checks in their order, and its 32 bytes where its four lines are cached. Bit `j` of word `i`
describes granule `first + i` and domain `base + j` in orientation GRANULE, and the transpose in orientation DOMAIN;
a bit is 1 when the tag alone would let the domain make the access. That the four lines are read in one step where they
are cached is the model's inference (log entry 33). `settleMode` is what follows in the same step (SuspendAndReturn);
that MODE_CHANGED of a pending SUSPENDED comes after the reply is the model's choice (log entry 43). -/
def Obligations.TagQueries : Prop :=
  (∀ (s : State) (seq : Byte) (g : BitVec 32) (rest : List (List Byte)),
     let f := [0x30, seq] ++ beBytes 4 g.toNat
     Begins s f rest →
     (∀ st, tableRefusal s (if granules s.mc.poolCode ≤ g.toNat then some .badRange else none) = some st →
       ∃ t, exec .tagRead s = .next t ∧ Refused s t f rest st) ∧
     (TablesOpen s → s.tenants ≤ g.toNat → g.toNat < granules s.mc.poolCode →
       ∃ t, exec .tagRead s = .next t ∧
         Answered s t f rest .ok (beBytes 4 g.toNat ++ [6, 0, 0, 0, 0, 0, 0, 0, 0, 0])) ∧
     (TablesOpen s → g.toNat < s.tenants → exec .tagRead s =
       .next ((s.setCp { s.cp with executing := some (.tagRead g.toNat) }).retake .message).settleMode) ∧
     ∀ line : TagLine, TablesOpen s → g.toNat < s.tenants → Cached s (g.toNat / 4) line →
       let r := line.get (g.toNat % 4)
       ∃ u, exec .tagRead s = .next u.settleMode ∧ OnlyChanges [.tc, .cp] s u ∧ OnlyRecency s u (g.toNat / 4) ∧
         u.cp = answeredCp s.cp f rest .ok (beBytes 4 g.toNat ++ [r.tag.kind.code, r.tag.presence] ++
           beBytes 2 (r.tag.owner.getD 0).toNat ++ [(r.tag.rights.getD .ro).code, r.tag.share.getD 0] ++
           beBytes 2 (r.tag.ticket.getD 0).toNat ++ [(r.tag.cause.getD .scrubFail).code, r.generation])) ∧
  (∀ (s : State) (seq : Byte) (first : BitVec 32) (base : BitVec 16) (access orient : Byte)
     (rest : List (List Byte)),
     let f := [0x31, seq] ++ beBytes 4 first.toNat ++ beBytes 2 base.toNat ++ [access, orient]
     Begins s f rest →
     (∀ st, tableRefusal s (if 1 < access.toNat ∨ 1 < orient.toNat then some .badValue
         else if first.toNat % 16 ≠ 0 ∨ s.tenants < first.toNat + 16 ∨ base.toNat % 16 ≠ 0 ∨ 1008 < base.toNat then
           some .badRange
         else none) = some st →
       ∃ t, exec .survey s = .next t ∧ Refused s t f rest st) ∧
     (TablesOpen s → access.toNat ≤ 1 → orient.toNat ≤ 1 → first.toNat % 16 = 0 → first.toNat + 16 ≤ s.tenants →
       base.toNat % 16 = 0 → base.toNat ≤ 1008 →
       let q : Query :=
         .survey first.toNat base.toNat (if access = 0 then .read else .write) (decide (orient = 1)) []
       exec .survey s = .next ((s.setCp { s.cp with executing := some q }).retake .message).settleMode) ∧
     ∀ lines : Nat → TagLine, TablesOpen s → access.toNat ≤ 1 → orient.toNat ≤ 1 → first.toNat % 16 = 0 →
       first.toNat + 16 ≤ s.tenants → base.toNat % 16 = 0 → base.toNat ≤ 1008 →
       (∀ i < 4, Cached s (first.toNat / 4 + i) (lines i)) →
       let allowed (i j : Nat) : Bool :=
         match s.applicableRights (BitVec.ofNat 10 (base.toNat + j)) ((lines (i / 4)).get (i % 4)).tag with
         | none => false
         | some .rw => true
         | some .ro => decide (access = 0)
       ∃ (u : State) (words : List (BitVec 16)), exec .survey s = .next u.settleMode ∧
         OnlyChanges [.tc, .cp] s u ∧ u.tc.fills = s.tc.fills ∧ u.tc.writes = s.tc.writes ∧ (∀ k, u.tc.validLine k = s.tc.validLine k) ∧
         u.cp = answeredCp s.cp f rest .ok (words.flatMap fun w : BitVec 16 => beBytes 2 w.toNat) ∧
         words.length = 16 ∧
         ∀ i < 16, ∀ j < 16,
           (words.getD i 0).getLsbD j = if orient = 0 then allowed i j else allowed j i)

/-! ## The tag cache and DRAM -/

/-- R79: the four outcomes of a lookup, on a set in order. A hit makes the way the most recent; a PENDING line is
attached to; else a fill takes the least recent way that is not PENDING, its read issued unless a write to the line is
outstanding (R81); else the party is stalled. -/
def Obligations.LookupOutcomes : Prop :=
  ∀ (tc : TagCache) (party : Party) (j : Nat), setWf (tc.set j) →
    let next := tc.lookup party j
    (∀ way line, (way, WayState.valid j line) ∈ tc.set j →
      next.2 = some line ∧ next.1.fills = tc.fills ∧ next.1.stalled = tc.stalled ∧
        next.1.set j = (tc.set j).filter (fun w => w.1 != way) ++ [(way, .valid j line)]) ∧
    ((∀ way line, (way, WayState.valid j line) ∉ tc.set j) → next.2 = none ∧
      ((∃ way, (way, WayState.pending j) ∈ tc.set j) →
        next.1 = { tc with
          fills := tc.fills.map fun f => if f.line = j then { f with parties := f.parties ++ [party] } else f }) ∧
      ((∀ way, (way, WayState.pending j) ∉ tc.set j) →
        (∀ older way st newer, tc.fills.length < 16 → tc.set j = older ++ (way, st) :: newer →
          (∀ w ∈ older, w.2.isPending = true) → st.isPending = false →
          next.1.set j = older ++ (way, .pending j) :: newer ∧ next.1.stalled = tc.stalled ∧
            next.1.fills = tc.fills ++ [{
              line := j, way := way, stage := if tc.writes.any (fun w => w.line == j) then .waitingWrite else .reading
              parties := [party], origin := party.origin, install := none }]) ∧
        (16 ≤ tc.fills.length ∨ (∀ w ∈ tc.set j, w.2.isPending = true) →
          next.1 = { tc with stalled := tc.stalled ++ [(party, j)] })))

/-- R82 to R84 and R88, with R114 and R193: the read of a fill completes. Sound records are taken as read; each unsound
one becomes POISONED with cause TAG_LOST, no owner, generation 0, and the line is written back. Outside RECOVERING the
loss marks the counts stale, is told to a RECOUNT from its entry into VERIFY on, which is the model's inference (log
entry 27), is logged for each tag, and TAG_LOST is set; in RECOVERING the walk counts it, and marks one in a line below
its own. Where FORMAT has installed the line, its records stand in place of
those read, and HANDOFF goes on. Then the attached parties and the stalled ones are taken (WaitingPartiesTaken). A line
to be written while the write list is full is held (ChangesWaitForRoom). The bytes that the read finds decayed stay in
DRAM, which is the model's (log entry 31). Which records are sound rests, for bytes that no write of the part stores, on
log entries 36 and 45. That the parties are taken in the order of their attachment, a request after a REVIVE's change of
a lost tag too, is log entry 57. `settle` is what follows in the same step, after the flags (log entry 48) and after the parties,
the removal of a finished run too (log entry 55). -/
def Obligations.FillCompletes : Prop :=
  ∀ (s : State) (f : Fill) (c : PoolCode) (read : ReadOutcome), Reading s f → s.mc.poolCode = some c →
    read.fits 64 = true →
    let v := s.setDram (s.dram.decay (tagLineAddress c f.line) read)
    let lost := lostIn v.dram c f.line read
    let recs := filledLine v.dram c f.line read
    ∃ u, exec (.fillComplete f.line read) s = .next u.settle ∧
      if (f.install = none ∧ lost = []) ∨ s.tc.writes.length < 32 then
        FillTaken v u f recs (if f.install = none then lost else [])
      else u = v.setTc { s.tc with held := s.tc.held ++ [.fill f.line recs lost] }

/-- R56, R80, R84, R86 and R133: how a party that waited in TC is taken. It looks its line up afresh, and on a line that
is not VALID waits again as LookupOutcomes has it, with the mark of its own that it waits. A request on a VALID line is decided afresh; an orphan that is
refused is removed. A TAG_READ forms its reply. A SURVEY, its four lines in increasing order (R76), goes on through the
lines that are VALID, in the same step (log entry 33) and before any other party is taken (log entry 50), and forms its
reply after the fourth, or waits for the first line that is not. The engine and the walk take the unit that they waited
with, as their own rows do. The scrubber's change is taken or, in SUSPENDED, waits for the return.

R80: of the stalled parties, the oldest whose line is VALID or PENDING, or can be filled, leaves the list and is taken;
those before it stay, and those after it are looked at next. -/
def Obligations.WaitingPartiesTaken : Prop :=
  (∀ (s : State) (p : Port) (e : Entry), (s.port p).entry e.tag = some e →
    let g := 64 * e.lineNo.toNat / 4096
    let u := s.retake (.request p e.tag)
    let decided (served : Bool) (reason : Reason) : Prop :=
      u.port p = portDecides (s.port p) e served reason ∧
        if served = false ∧ e.orphan = true then SnapshotLoses s u [(p, e.tag)] else u.te = s.te
    ((∀ x ∈ s.tc.set (g / 4), x.2.isValid (g / 4) = false) →
      u = s.setTc (s.tc.lookup (.request p e.tag) (g / 4)).1) ∧
    ∀ line, Cached s (g / 4) line → OnlyRecency s u (g / 4) ∧
      match s.decideRequest e (some (line.get (g % 4))) with
      | .ruled r =>
        let v := s.ruleEffects p e r
        OnlyChanges [portBlock p, .tc, .te, .domains, .dram, .vl, .eu, .cp] s u ∧ decided r.served r.reason ∧
          u.domains = v.domains ∧ u.dram = v.dram ∧ u.vl = v.vl ∧ u.eu = v.eu ∧ u.cp = v.cp
      | .notReady => OnlyChanges [portBlock p, .tc, .te] s u ∧ decided false .notReady
      | .needTag => False) ∧
  (∀ (s : State) (g : Nat), s.cp.executing = some (.tagRead g) →
    (∀ x ∈ s.tc.set (g / 4), x.2.isValid (g / 4) = false) →
    s.retake .message = s.setTc (s.tc.lookup .message (g / 4)).1) ∧
  (∀ (s : State) (g : BitVec 32) (line : TagLine) (f : List Byte) (rest : List (List Byte)),
    s.cp.executing = some (.tagRead g.toNat) → s.cp.inbound = f :: rest → f.headD 0 = 0x30 →
    Cached s (g.toNat / 4) line →
    let r := line.get (g.toNat % 4)
    let u := s.retake .message
    OnlyChanges [.tc, .cp] s u ∧ OnlyRecency s u (g.toNat / 4) ∧
      u.cp = answeredCp s.cp f rest .ok (beBytes 4 g.toNat ++ [r.tag.kind.code, r.tag.presence] ++
        beBytes 2 (r.tag.owner.getD 0).toNat ++ [(r.tag.rights.getD .ro).code, r.tag.share.getD 0] ++
        beBytes 2 (r.tag.ticket.getD 0).toNat ++ [(r.tag.cause.getD .scrubFail).code, r.generation])) ∧
  (∀ (s : State) (j k m base : Nat) (op : Opcode) (byDomain : Bool) (rows : List (BitVec 16)) (lines : Nat → TagLine)
      (f : List Byte) (rest : List (List Byte)),
    s.cp.executing = some (.survey (4 * j) base op byDomain rows) → s.cp.inbound = f :: rest → f.headD 0 = 0x31 →
    rows.length = 4 * k → k < 4 → k ≤ m → m ≤ 4 → (∀ i, k ≤ i → i < m → Cached s (j + i) (lines i)) →
    let read (g x : Nat) : Bool :=
      if g < 4 * k then (rows.getD g 0).getLsbD x
      else
        match s.applicableRights (BitVec.ofNat 10 (base + x)) ((lines (g / 4)).get (g % 4)).tag with
        | none => false
        | some .rw => true
        | some .ro => decide (op = .read)
    let u := s.retake .message
    (m = 4 → ∃ words : List (BitVec 16), OnlyChanges [.tc, .cp] s u ∧
      u.tc.fills = s.tc.fills ∧ u.tc.stalled = s.tc.stalled ∧ u.tc.writes = s.tc.writes ∧ u.tc.held = s.tc.held ∧
      (∀ n, u.tc.validLine n = s.tc.validLine n) ∧
      u.cp = answeredCp s.cp f rest .ok (words.flatMap fun w : BitVec 16 => beBytes 2 w.toNat) ∧ words.length = 16 ∧
      ∀ g < 16, ∀ x < 16, (words.getD g 0).getLsbD x = if byDomain then read x g else read g x) ∧
    (m < 4 → (∀ x ∈ s.tc.set (j + m), x.2.isValid (j + m) = false) →
      ∃ (v : State) (rows' : List (BitVec 16)), OnlyChanges [.tc] s v ∧
        v.tc.fills = s.tc.fills ∧ v.tc.stalled = s.tc.stalled ∧ v.tc.writes = s.tc.writes ∧ v.tc.held = s.tc.held ∧
        (∀ n, v.tc.validLine n = s.tc.validLine n) ∧ v.tc.set (j + m) = s.tc.set (j + m) ∧
        u = (v.setTc (v.tc.lookup .message (j + m)).1).setCp
          { s.cp with executing := some (.survey (4 * j) base op byDomain rows') } ∧
        rows'.length = 4 * m ∧ ∀ g < 4 * m, ∀ x < 16, (rows'.getD g 0).getLsbD x = read g x)) ∧
  (∀ (s : State) (w : Work) (c : Cmd) (i : Instr), s.mc.inReset = none → s.te.current = some w →
    s.cmd w.ticket = some c → tagRow w c = some i →
    exec i (s.setTe { s.te with current := some { w with busy := false } }) = .next (s.retake .engine).settle) ∧
  (∀ (s : State) (w : Work) (c : Cmd), s.te.current = some w → s.cmd w.ticket = some c → c.command.isFormat = false →
    (∀ x ∈ s.tc.set (w.cursor / 4), x.2.isValid (w.cursor / 4) = false) →
    s.retake .engine = (s.setTc (s.tc.lookup .engine (w.cursor / 4)).1).setTe
      { s.te with current := some { w with busy := true } }) ∧
  (∀ (s : State) (w : Walk), s.mc.inReset = none → s.mc.recovery = some (.walk w) → w.placeWait = false →
    exec .walkStep (s.setMc { s.mc with recovery := some (.walk { w with busy := false }) }) =
      .next (s.retake .walk).settle) ∧
  (∀ (s : State) (w : Walk), s.mc.recovery = some (.walk w) →
    (∀ x ∈ s.tc.set (w.cursor / 4), x.2.isValid (w.cursor / 4) = false) →
    s.retake .walk = (s.setTc (s.tc.lookup .walk (w.cursor / 4)).1).setMc
      { s.mc with recovery := some (.walk { w with busy := true }) }) ∧
  (∀ (s : State) (x : WaitingChange), s.su.waiting = some x → s.mc.mode ≠ .suspended →
    (∀ y ∈ s.tc.set (x.granule / 4), y.2.isValid (x.granule / 4) = false) →
    s.retake .scrubber = (s.setTc (s.tc.lookup .scrubber (x.granule / 4)).1).setSu
      { s.su with waiting := some { x with issued := true } }) ∧
  (∀ (s : State) (x : WaitingChange) (line : TagLine) (head : Run) (rest : List Run), s.su.waiting = some x →
    s.su.runs = head :: rest →
    let u := s.retake .scrubber
    let r := line.get (x.granule % 4)
    (s.mc.mode = .suspended → u = s.setSu { s.su with waiting := some { x with issued := false } }) ∧
    (s.mc.mode ≠ .suspended → Cached s (x.granule / 4) line →
      s.tc.writes.length < 32 ∨ r.tag.kind ≠ .scrubbing →
      let freed := decide (r.tag.kind = .scrubbing) && !x.failed
      OnlyChanges [.tc, .su, .te] s u ∧
        (r.tag.kind = .scrubbing → Rewrites s u x.granule line
          { r with tag := if x.failed then .poisoned r.tag.owner .scrubFail else .free }) ∧
        (r.tag.kind ≠ .scrubbing → OnlyRecency s u (x.granule / 4)) ∧
        u.su = { s.su with
          waiting := none, runs := { head with first := head.first + 1, count := head.count - 1 } :: rest } ∧
        (head.ticket = none → u.te.table = s.te.table) ∧
        (∀ k c, head.ticket = some k → s.cmd k = some c → CmdBecomes s u k
          (if freed then { c with doneCount := c.doneCount + 1 }
           else { c with poisonedCount := c.poisonedCount + 1 })) ∧
        u.te.current = s.te.current.map fun w =>
          if w.scrubWait = some x.granule then { w with scrubWait := none } else w)) ∧
  ∀ (s : State) (older : List (Party × Nat)), (∀ x ∈ older, Stuck s.tc x.2) →
    (s.tc.stalled = older → s.stalledPass = s) ∧
    ∀ (x : Party × Nat) (newer : List (Party × Nat)), s.tc.stalled = older ++ x :: newer → ¬ Stuck s.tc x.2 →
      s.stalledPass =
        newer.foldl State.stalledOne ((s.setTc { s.tc with stalled := older ++ newer }).retake x.1)

/-- R82, R86 to R88: while the write list is full, a change of the engine, the scrubber or the walk, a fill's
completion with lost tags and an install are held, in order, with nothing written and nothing counted; when a write
leaves the list the oldest of them is taken, as it stands then. The scrubber goes on with the writes of its next granule
meanwhile (R129). A walk that has taken some granules of its line before is in WalkTakesLine. What a read finds, and
what a loss is told to, is FillCompletes' (log entries 27, 31, 36 and 45). That a held install reserves no fill and no way is the
model's (log entry 39). -/
def Obligations.ChangesWaitForRoom : Prop :=
  (∀ (s : State) (w : Work) (c : Cmd) (line : TagLine) (i : Instr), Engaged s w c → tagRow w c = some i →
    Cached s (w.cursor / 4) line → unitWrites w c (line.get (w.cursor % 4)) ≠ none → 32 ≤ s.tc.writes.length →
    ∃ u, exec i s = .next u.settle ∧ OnlyChanges [.tc, .te] s u ∧
      Holds s u (w.cursor / 4) (.change .engine (w.cursor / 4)) ∧
      u.te = { s.te with current := some { w with busy := true } }) ∧
  (∀ (s : State) (w : Walk) (j k : Nat) (line : TagLine), s.mc.inReset = none → s.mc.recovery = some (.walk w) →
    w.busy = false → w.placeWait = false → w.counting = false → k < 4 → w.cursor = 4 * j + k → Cached s j line →
    walkWrites s (line.get k) = true → w.runOpen = requeues (line.get k).tag →
    (∀ o, heldBy (line.get k).tag = some o → (s.domain o).state ≠ .closed) → 32 ≤ s.tc.writes.length →
    ∃ u, exec .walkStep s = .next u.settle ∧ OnlyChanges [.tc, .mc] s u ∧ Holds s u j (.change .walk j) ∧
      u.mc = { s.mc with recovery := some (.walk { w with busy := true }) }) ∧
  (∀ (s : State) (x : WriteGranule) (k : Nat) (head : Run) (rest : List Run) (line : TagLine) (o : MemOutcome),
    s.mc.inReset = none → s.mc.mode ≠ .suspended → s.mc.pendingTarget ≠ some .suspended → s.su.write = some x →
    x.completed = 63 → x.inFlight = [k] → s.su.waiting = none → s.su.runs = head :: rest →
    head.isOpen = false → 0 < head.count → Cached s (x.granule / 4) line →
    (line.get (x.granule % 4)).tag.kind = .scrubbing → 32 ≤ s.tc.writes.length →
    ∃ u, exec (.scrubWriteComplete k o) s = .next u ∧ OnlyChanges [.dram, .tc, .su] s u ∧
      Holds s u (x.granule / 4) (.change .scrubber (x.granule / 4)) ∧
      let next : Bool := s.su.pacing.isNone && decide (2 ≤ head.count)
      u.su = { s.su with
        write := if next then some {
          granule := head.first + 1, bursts := 1, completed := 0, inFlight := List.range 16, failed := false } else none
        pacing := if next then some s.mc.scrubInterval else s.su.pacing
        waiting := some {
          granule := x.granule, failed := x.failed || decide (o = .uncorrectable), issued := true } }) ∧
  (∀ (s : State) (f : Fill) (c : PoolCode) (read : ReadOutcome), Reading s f → s.mc.poolCode = some c →
    read.fits 64 = true → 32 ≤ s.tc.writes.length →
    let v := s.setDram (s.dram.decay (tagLineAddress c f.line) read)
    let lost := lostIn v.dram c f.line read
    f.install ≠ none ∨ lost ≠ [] →
      exec (.fillComplete f.line read) s = .next (v.setTc { s.tc with
        held := s.tc.held ++ [.fill f.line (filledLine v.dram c f.line read) lost] }).settle) ∧
  (∀ (s : State) (w : Work) (c : Cmd) (kept : StoreState) (j : Nat), Engaged s w c → c.command = .format kept →
    c.phase = .handoff → w.placeWait = false → w.runOpen = true → w.cursor = 4 * j → setWf (s.tc.set j) →
    (∀ way, (way, WayState.pending j) ∉ s.tc.set j) → ¬ Stuck s.tc j → 32 ≤ s.tc.writes.length →
    ∃ u, exec .formatHandoff s = .next u.settle ∧ OnlyChanges [.tc, .te] s u ∧
      u.tc = { s.tc with held := s.tc.held ++ [.install j] } ∧
      u.te = { s.te with current := some { w with busy := true } }) ∧
  ∀ s : State,
    match s.tc.held with
    | [] => s.takeOldestHeld = s
    | h :: rest =>
      let v := s.setTc { s.tc with held := rest }
      match h with
      | .change party _ => s.takeOldestHeld = v.retake party
      | .install _ => s.takeOldestHeld = v.retake .engine
      | .fill j read lost =>
        ∀ f, s.tc.fills.find? (fun x => x.line == j) = some f → s.tc.writes.length < 32 →
          FillTaken v s.takeOldestHeld f read (if f.install = none then lost else [])

/-- R87 and R22: a write-through that completes OK stores its four records at their places in DRAM and leaves the write
list, and they are found sound; one that completes UNCORRECTABLE leaves the bytes of the line open (log entry 6), its
records unsound, and the cache as it is. A fill of the line whose writes are all done issues its read, and the oldest
of those held for room is taken (ChangesWaitForRoom). A write of a line of persisted records is stored at its address, and one that MI holds does not complete (R185).
Every other byte of DRAM is as before. -/
def Obligations.WritesReachDram : Prop :=
  (∀ (s : State) (c : PoolCode) (older newer : List TagWrite) (w : TagWrite) (o : MemOutcome), s.mc.inReset = none →
    s.mc.poolCode = some c → s.tc.writes = older ++ w :: newer → (∀ x ∈ older, x.line ≠ w.line) →
    let a := tagLineAddress c w.line
    ∃ v, exec (.writeThroughComplete w.line o) s = .next v.takeOldestHeld.settle ∧ OnlyChanges [.dram, .tc] s v ∧
      v.tc.writes = older ++ newer ∧ v.tc.sets = s.tc.sets ∧ v.tc.stalled = s.tc.stalled ∧ v.tc.held = s.tc.held ∧
      v.tc.fills = s.tc.fills.map (fun f =>
        if f.line = w.line ∧ ∀ x ∈ older ++ newer, x.line ≠ w.line then { f with stage := .reading } else f) ∧
      v.dram.persist = s.dram.persist ∧ OnlyBytesAt s.dram v.dram a 64 ∧
      (o = .ok → WritesAt s.dram v.dram a w.recs.stored ∧
        ∀ i < 4, v.dram.tagRecord c (4 * w.line + i) = some (w.recs.get i)) ∧
      (o = .uncorrectable → ∀ i < 4, v.dram.tagRecord c (4 * w.line + i) = none)) ∧
  ∀ (s : State) (older newer : List PersistWrite) (w : PersistWrite) (o : MemOutcome), s.mc.inReset = none →
    s.dram.persist = older ++ w :: newer → (∀ x ∈ older, x.address ≠ w.address) →
    (w.held = true → exec (.persistWriteComplete w.address o) s = .next s) ∧
    (w.held = false → ∃ u, exec (.persistWriteComplete w.address o) s = .next u.settleChannels ∧ OnlyChanges [.dram] s u ∧
      u.dram.persist = older ++ newer ∧ OnlyBytesAt s.dram u.dram w.address w.bytes.length ∧
      (o = .ok → WritesAt s.dram u.dram w.address w.bytes))

/-- R5, R6, R8 and R9: each stored record reads back as what was stored, whatever its fields, at every value that its
fields can hold; the places of the fields are the model's (log entry 5). A record of any of the four kinds with bytes
changed so that its check no longer matches is found unsound. -/
def Obligations.StoredRecordsReadBack : Prop :=
  (∀ r : TagRec, r.stored.length = 16 ∧ TagRec.ofStored r.stored = some r) ∧
  (∀ (d : DomainId) (r : DomainRec), r.quota < 2 ^ 32 →
    (storedDomain d.toNat r).length = 32 ∧
      PersistedDomain.ofStored d.toNat (storedDomain d.toNat r) =
        some { state := r.state, quota := r.quota, latch := r.latch }) ∧
  (∀ (i : ShareIx) (e : ShareEntry), e.inUse = true →
    (storedShare i.toNat e).length = 16 ∧
      ShareEntry.ofStored i.toNat (storedShare i.toNat e) = some { e with refcount := 0 }) ∧
  (∀ i : ShareIx, ShareEntry.ofStored i.toNat (storedShare i.toNat freeEntry) = some freeEntry) ∧
  (∀ (c k : PoolCode) (complete : Bool), (storedHeader c complete).length = 64 ∧
    (headerValidFor k (storedHeader c complete) = true ↔ k = c ∧ complete = true)) ∧
  (∀ bs : List Byte, bs.length = 16 → bs.drop 14 ≠ crcBytes (bs.take 14) →
    TagRec.ofStored bs = none ∧ ∀ i, ShareEntry.ofStored i bs = none) ∧
  (∀ bs : List Byte, bs.length = 32 → bs.drop 30 ≠ crcBytes (bs.take 30) → ∀ n, PersistedDomain.ofStored n bs = none) ∧
  ∀ bs : List Byte, bs.length = 64 → bs.drop 62 ≠ crcBytes (bs.take 62) → ∀ c, headerValidFor c bs = false

/-! ## The transition engine

Each of these rows takes the engine's next unit of work, one granule or one line, which is the model's unit (log entry
9). `settle` is what follows in the same step (SuspendAndReturn). -/

/-- R98, R101, R112 and R123: the IDLE engine starts the command that was accepted first, which enters VERIFY with
nothing done; it starts none in SUSPENDED or while SUSPENDED is pending. The first unit of VERIFY checks an ASSIGN's
domain and quota and the entry of a share command; an ASSIGN that waits under WAIT goes no further. -/
def Obligations.CommandStartsAndChecks : Prop :=
  (∀ (s : State) (c : Cmd), s.mc.inReset = none → s.te.current = none →
    s.te.table.find? (fun c => c.phase == .queued) = some c → s.cmd c.ticket = some c →
    (s.mc.mode ≠ .suspended → s.mc.pendingTarget ≠ some .suspended →
      ∃ t w, exec .commandStart s = .next t ∧ OnlyChanges [.te] s t ∧ CmdBecomes s t c.ticket { c with phase := .verify } ∧
        t.te.current = some w ∧ w.ticket = c.ticket ∧ w.cursor = c.command.start ∧ w.busy = false ∧ w.begun = false ∧
        w.scrubWait = none ∧ w.heldCounts = [] ∧ w.refCounts = [] ∧ w.lossReported = false ∧ w.credited = [] ∧
        w.snapshot = [] ∧
        w.timer = none ∧ w.timedOut = false ∧ w.runOpened = false ∧ w.runOpen = false ∧ w.placeWait = false) ∧
    (s.mc.mode = .suspended ∨ s.mc.pendingTarget = some .suspended → exec .commandStart s = .next s)) ∧
  ∀ (s : State) (w : Work) (c : Cmd), Engaged s w c → c.phase = .verify →
    (w.begun = false →
      (∀ first count d rights wait, c.command = .assign first count d rights wait →
        ∃ u, exec .assignVerify s = .next u.settle ∧ OnlyChanges [.te, .cp] s u ∧
          if (s.domain d).state ≠ .opened then Notified s u c .unknownDomain
          else if (s.domain d).quota < (s.domain d).held + count then Notified s u c .overQuota
          else u.te = { s.te with current := some { w with begun := true } } ∧ u.cp = s.cp) ∧
      (∀ first count i, c.command = .shareRange first count i →
        ∃ u, exec .shareRangeVerify s = .next u.settle ∧ OnlyChanges [.te, .cp] s u ∧
          if (s.share i).inUse then
            u.te = { s.te with current := some { w with begun := true, shareOwner := (s.share i).owner } } ∧ u.cp = s.cp
          else Notified s u c .wrongShare) ∧
      ∀ first count i, c.command = .unshareRange first count i →
        ∃ u, exec .unshareRangeVerify s = .next u.settle ∧ OnlyChanges [.te, .cp] s u ∧
          if (s.share i).inUse then u.te = { s.te with current := some { w with begun := true } } ∧ u.cp = s.cp
          else Notified s u c .wrongShare) ∧
    ∀ first count d rights wait, c.command = .assign first count d rights wait → w.begun = true → w.scrubWait ≠ none →
      exec .assignVerify s = .next s.settle

/-- R99, R101, R103, R112 and R113: VERIFY reads the tag of the granule it has reached on a cached line. A tag that
fails ends the command with its status and nothing changed; one that passes leads to the next granule; an ASSIGN with
WAIT waits on a SCRUBBING tag; the last one leads to MARK, after the checks made again, or for a REVIVE to its drain
(R105). -/
def Obligations.VerifyTakesTag : Prop :=
  ∀ (s : State) (w : Work) (c : Cmd) (line : TagLine) (i : Instr), Engaged s w c → c.phase = .verify →
    verifyRow c.command = some i → w.begun = true ∨ c.command.isReclaim = true ∨ c.command.isRevive = true →
    w.scrubWait = none → Cached s (w.cursor / 4) line →
    let tag := (line.get (w.cursor % 4)).tag
    let fails := tagFails w.shareOwner (s.inRun w.cursor) tag c.command
    let waits : Prop := tag.kind = .scrubbing ∧ ∃ first count d rights, c.command = .assign first count d rights true
    let last : Prop := c.command.stop s.tenants ≤ w.cursor + 1
    ∃ u, exec i s = .next u.settle ∧ OnlyChanges [.tc, .te, .cp] s u ∧ OnlyRecency s u (w.cursor / 4) ∧
      (waits → u.te = { s.te with current := some { w with scrubWait := some w.cursor } } ∧ u.cp = s.cp) ∧
      (¬ waits → ∀ st, fails = some st → Notified s u c st) ∧
      (fails = none → ¬ last → u.te = { s.te with current := some { w with cursor := w.cursor + 1 } } ∧ u.cp = s.cp) ∧
      (fails = none → last →
        match c.command with
        | .revive first count =>
          Drains s u w c (forwardedIn s fun g => decide (first ≤ g) && decide (g < first + count)) ∧ u.cp = s.cp
        | command =>
          match lastFails s w.shareOwner command with
          | some st => Notified s u c st
          | none =>
            CmdBecomes s u w.ticket { c with phase := .mark } ∧
              u.te.current = some { w with cursor := command.start } ∧ u.cp = s.cp)

/-- R114: the sweep of a RECOUNT counts the tag of each granule for its owner and its entry, and changes no tag; after
the last one its counts become those of the domains and of the IN_USE entries, and it completes STALE_AGAIN if a loss
was reported to it, else DONE with COUNTS_STALE cleared. -/
def Obligations.RecountSweeps : Prop :=
  ∀ (s : State) (w : Work) (c : Cmd) (line : TagLine), Engaged s w c → c.phase = .verify → c.command = .recount →
    Cached s (w.cursor / 4) line →
    let tag := (line.get (w.cursor % 4)).tag
    let c' := { c with doneCount := c.doneCount + 1 }
    let held (d : DomainId) : Nat := smapGet 0 w.heldCounts d.toNat + if heldBy tag = some d then 1 else 0
    let refs (i : ShareIx) : Nat := smapGet 0 w.refCounts i.toNat + if tag.share = some i then 1 else 0
    ∃ u, exec .recountSweep s = .next u.settle ∧ OnlyRecency s u (w.cursor / 4) ∧
      (w.cursor + 1 < s.tenants →
        ∃ w', OnlyChanges [.tc, .te] s u ∧ CmdBecomes s u w.ticket c' ∧ u.te.current = some w' ∧
          { w' with heldCounts := [], refCounts := [] } =
            { w with cursor := w.cursor + 1, heldCounts := [], refCounts := [] } ∧
          (∀ d : DomainId, smapGet 0 w'.heldCounts d.toNat = held d) ∧
          ∀ i : ShareIx, smapGet 0 w'.refCounts i.toNat = refs i) ∧
      (s.tenants ≤ w.cursor + 1 →
        OnlyChanges [.tc, .te, .domains, .shares, .mc, .cp] s u ∧
          (∀ d : DomainId, u.domain d = { s.domain d with held := held d }) ∧
          (∀ i : ShareIx, u.share i =
            if (s.share i).inUse = true then { s.share i with refcount := refs i } else s.share i) ∧
          u.mc = { s.mc with countsStale := w.lossReported && s.mc.countsStale } ∧
          Notified s u c' (if w.lossReported then .staleAgain else .done))

/-- R99, R100, R102 and R112, with R10, R11 and R13: the apply of an ASSIGN, SHARE_RANGE or UNSHARE_RANGE writes the new
record of a granule on a cached line, adjusts the count that goes with it and credits the done count; a tag not in the
state expected is skipped and credited to the poisoned count, whatever its state (log entry 28). After the last granule
the command completes. -/
def Obligations.ApplyTakesTag : Prop :=
  ∀ (s : State) (w : Work) (c : Cmd) (line : TagLine) (i : Instr), Engaged s w c → c.phase = .mark →
    applyRow c.command = some i → Cached s (w.cursor / 4) line →
    let r := line.get (w.cursor % 4)
    let new := applied r c.command
    new = none ∨ s.tc.writes.length < 32 →
    let c' := if new = none then { c with poisonedCount := c.poisonedCount + 1 }
      else { c with doneCount := c.doneCount + 1 }
    ∃ u, exec i s = .next u.settle ∧ OnlyChanges [.tc, .te, .domains, .shares, .cp] s u ∧
      (match new with
        | some r' => Rewrites s u w.cursor line r' ∧ AppliesCounts s u c.command
        | none => OnlyRecency s u (w.cursor / 4) ∧ u.domains = s.domains ∧ u.shares = s.shares) ∧
      if c.command.stop s.tenants ≤ w.cursor + 1 then Notified s u c' (doneOf c')
      else GoesOn s u w c' ∧ u.cp = s.cp

/-- R99, R100, R104, R105 and R109, with R11 and R12: MARK moves an OWNED or SHARED tag of the command's domain to
DRAINING with the command's ticket, and takes it from the held count, and from the refcount of a SHARED tag's entry. Any
other tag is skipped; a RECLAIM credits it, whatever its state (log entry 28), and notes that it has. A RETIRE passes
VERIFY with its first unit (log entry 19). After the last granule the drain begins with the FORWARDED entries whose
granule carries the ticket, as the cache, the write list or DRAM has it (log entry 34). -/
def Obligations.MarkTakesTag : Prop :=
  (∀ (s : State) (w : Work) (c : Cmd), Engaged s w c → c.command.isRetire = true → c.phase = .verify →
    ∃ v, exec .retireMark s = exec .retireMark v ∧ OnlyChanges [.te] s v ∧
      CmdBecomes s v w.ticket { c with phase := .mark } ∧ v.te.current = some { w with cursor := 0 }) ∧
  ∀ (s : State) (w : Work) (c : Cmd) (line : TagLine) (o : DomainId) (i : Instr), Engaged s w c →
    (i = .reclaimMark ∧ c.command.isReclaim = true ∧ c.phase = .mark) ∨
      (i = .retireMark ∧ c.command.isRetire = true ∧ (c.phase = .mark ∨ (c.phase = .verify ∧ w.cursor = 0))) →
    draining? c.command = some o → Cached s (w.cursor / 4) line →
    let r := line.get (w.cursor % 4)
    let mine : Prop := (r.tag.kind = .owned ∨ r.tag.kind = .shared) ∧ r.tag.owner = some o
    ¬ mine ∨ s.tc.writes.length < 32 →
    let w' := if ¬ mine ∧ c.command.isReclaim = true then { w with credited := w.credited ++ [w.cursor] } else w
    ∃ u c', exec i s = .next u.settle ∧ OnlyChanges [.tc, .te, .domains, .shares] s u ∧
      (mine → c' = { c with phase := .mark } ∧ Rewrites s u w.cursor line { r with tag := .draining o w.ticket } ∧
        MarkCounts s u o r.tag) ∧
      (¬ mine → c' = { c with phase := .mark, poisonedCount := c.poisonedCount + if c.command.isReclaim then 1 else 0 } ∧
        OnlyRecency s u (w.cursor / 4) ∧ u.domains = s.domains ∧ u.shares = s.shares) ∧
      if c.command.stop s.tenants ≤ w.cursor + 1 then
        Drains s u w' c' (forwardedIn s fun g =>
          decide (g < s.tenants) && ((u.tagRec g).map fun r => r.tag.ticket) == some (some w.ticket))
      else GoesOn s u w' c'

/-- R106, with R100: when the drain timer expires a REVIVE completes DRAIN_TIMEOUT with no tag changed. Of the other
kinds the snapshot is discarded and the tags are taken from the first: one still DRAINING with the ticket becomes
POISONED with cause DRAIN_TIMEOUT, its owner kept, and is credited; any other is passed over; after the last the
command completes DRAIN_TIMEOUT, a RETIRE with the close of its domain (NotifyEndsRetireAndFormat). -/
def Obligations.DrainTimesOut : Prop :=
  ∀ (s : State) (w : Work) (c : Cmd), Engaged s w c → c.phase = .drain →
    (w.timedOut = false → w.timer ≠ none →
      ∃ u, exec .drainTimeout s = .next u.settle ∧ OnlyChanges [.te, .cp] s u ∧
        if c.command.isRevive then Notified s u c .drainTimeout
        else
          u.cp = s.cp ∧ u.te = { s.te with current := some { w with
            snapshot := [], timer := none, timedOut := true, cursor := c.command.start } }) ∧
    ∀ line : TagLine, w.timedOut = true → c.command.isReclaim = true ∨ c.command.isRetire = true →
      Cached s (w.cursor / 4) line →
      let r := line.get (w.cursor % 4)
      let mine : Prop := r.tag.kind = .draining ∧ r.tag.ticket = some w.ticket
      ¬ mine ∨ s.tc.writes.length < 32 →
      ∃ u c', exec .drainTimeout s =
          .next (if c.command.stop s.tenants ≤ w.cursor + 1 then u.notify w.ticket .drainTimeout else u).settle ∧
        OnlyChanges [.tc, .te] s u ∧ GoesOn s u w c' ∧
        (mine → c' = { c with poisonedCount := c.poisonedCount + 1 } ∧
          Rewrites s u w.cursor line { r with tag := .poisoned r.tag.owner .drainTimeout }) ∧
        (¬ mine → c' = c ∧ OnlyRecency s u (w.cursor / 4))

/-- R98 and R107, with R100, R110 and R113: HANDOFF opens a run with the command's ticket, or waits for a place in a
full list (ScrubbedGranuleLeaves frees one); converts the tags that it can to SCRUBBING, each adding 1 to the open run,
which is closed at 1,048,576; closes or moves the run at a tag that it cannot convert, credited poisoned, whatever its
state (log entry 28), unless MARK has credited it or the command is a RETIRE; and after the last granule closes the run
and leaves the command in SCRUB, or in NOTIFY where no run is outstanding. `settle` is what follows in the same step: a
run that is closed at the head of the list is begun, or removed where it is empty (ScrubberWrites). -/
def Obligations.HandoffTakesTag : Prop :=
  ∀ (s : State) (w : Work) (c : Cmd) (i : Instr), Engaged s w c → c.phase = .handoff → handoffRow c.command = some i →
    w.placeWait = false →
    let opens (u : State) : Prop :=
      if s.su.runs.length < 64 then
        u.su = { s.su with
          runs := s.su.runs ++ [{ first := w.cursor, count := 0, ticket := some w.ticket, isOpen := true }] } ∧
        CmdBecomes s u w.ticket { c with runs := c.runs + 1 } ∧
        u.te.current = some { w with runOpened := true, runOpen := true, placeWait := false }
      else u.su = s.su ∧ u.te = { s.te with current := some { w with placeWait := true } }
    (w.runOpened = false → ∃ u, exec i s = .next u.settle ∧ OnlyChanges [.su, .te] s u ∧ opens u) ∧
    ∀ line : TagLine, w.runOpened = true → Cached s (w.cursor / 4) line →
      let r := line.get (w.cursor % 4)
      (∀ tag, converted r.tag w.ticket c.command = some tag → w.runOpen = false →
        ∃ u, exec i s = .next u.settle ∧ OnlyChanges [.tc, .su, .te] s u ∧ OnlyRecency s u (w.cursor / 4) ∧ opens u) ∧
      (∀ (tag : Tag) (older : List Run) (tail : Run), converted r.tag w.ticket c.command = some tag →
        w.runOpen = true → s.su.runs = older ++ [tail] → s.tc.writes.length < 32 →
        ∃ u, exec i s = .next (handoffEnd s u w c 1).settle ∧ OnlyChanges [.tc, .su, .te] s u ∧
          Rewrites s u w.cursor line { r with tag := tag } ∧
          HandoffGoes s u w c (grown older tail 1) (decide (tail.count + 1 < 1048576)) 1) ∧
      (converted r.tag w.ticket c.command = none →
        let c' := { c with poisonedCount :=
          c.poisonedCount + if c.command.isRetire = true ∨ w.cursor ∈ w.credited then 0 else 1 }
        (w.runOpen = false →
          ∃ u, exec i s = .next (handoffEnd s u w c' 1).settle ∧ OnlyChanges [.tc, .su, .te] s u ∧
            OnlyRecency s u (w.cursor / 4) ∧ HandoffGoes s u w c' s.su.runs false 1) ∧
        ∀ (older : List Run) (tail : Run), w.runOpen = true → s.su.runs = older ++ [tail] →
          ∃ u, exec i s = .next (handoffEnd s u w c' 1).settle ∧ OnlyChanges [.tc, .su, .te] s u ∧
            OnlyRecency s u (w.cursor / 4) ∧
            HandoffGoes s u w c'
              (older ++ [if tail.count = 0 then { tail with first := w.cursor + 1 } else { tail with isOpen := false }])
              (decide (tail.count = 0)) 1)

/-- R115 to R117, with R5, R21, R50 and R88: FORMAT waits in VERIFY for an empty scrub list and no FORWARDED entry;
MARK gives MI the incomplete headers and, line by line, the records of the initial tables, which the tables take in the
same step; HANDOFF opens a run, or waits for a place in a full list, and installs tag lines of SCRUBBING records of
generation 0 with its ticket, four granules each, reading nothing. An install over a PENDING way waits for that fill
(FillCompletes); one with no way to take is stalled; one with no room in the write list is held (ChangesWaitForRoom;
log entry 39). That an install of a line that is not cached leaves the stalled list untaken is the model's inference (log
entry 16). The order of the headers of the other four codes, and of the lines of each table, is the model's choice (log
entry 44). One line with each FORMAT_HANDOFF is the model's unit (log entry 9). -/
def Obligations.FormatPhases : Prop :=
  ∀ (s : State) (w : Work) (c : Cmd) (kept : StoreState), Engaged s w c → c.command = .format kept →
    (c.phase = .verify →
      if s.su.runs = [] ∧ ∀ e ∈ s.portA.table ++ s.portB.table, e.stage ≠ .forwarded then
        ∃ u, exec .formatVerify s = .next u.settle ∧ OnlyChanges [.te] s u ∧
          CmdBecomes s u w.ticket { c with phase := .mark } ∧ u.te.current = some { w with cursor := 0 }
      else exec .formatVerify s = .next s.settle) ∧
    (∀ p : PoolCode, c.phase = .mark → s.mc.poolCode = some p →
      ∃ u, exec .formatMark s = .next u.settle ∧ OnlyChanges [.dram, .domains, .shares, .mc, .te] s u ∧
        (∀ d : DomainId, u.domain d =
          if d = 0 then { state := .opened, quota := tenantGranules (some p), held := 0, score := 0, latch := false }
          else { state := .closed, quota := 0, held := 0, score := 0, latch := false }) ∧
        (∀ i : ShareIx, u.share i =
          { inUse := false, owner := 0, pattern := 0, mask := 0, rights := .ro, refcount := 0 }) ∧
        u.mc = { s.mc with countsStale := false } ∧ CmdBecomes s u w.ticket { c with phase := .handoff } ∧
        u.te.current = s.te.current ∧
        Issues s u ([(headerAddress p, storedHeader p false)] ++
          (([0, 1, 2, 3, 4] : List PoolCode).filter (fun k => k ≠ p)).map
            (fun k => (headerAddress k, storedHeader k false)) ++
          (List.range 512).map (fun k => (domainAddress p (2 * k), domainLineOf u k)) ++
          (List.range 64).map (fun k => (shareAddress p (4 * k), shareLineOf u k)))) ∧
    (c.phase = .handoff → w.placeWait = false →
      (w.runOpen = false →
        ∃ u, exec .formatHandoff s = .next u.settle ∧ OnlyChanges [.su, .te] s u ∧
          if s.su.runs.length < 64 then
            u.su = { s.su with
              runs := s.su.runs ++ [{ first := w.cursor, count := 0, ticket := some w.ticket, isOpen := true }] } ∧
            CmdBecomes s u w.ticket { c with runs := c.runs + 1 } ∧
            u.te.current = some { w with runOpened := true, runOpen := true, placeWait := false }
          else u.su = s.su ∧ u.te = { s.te with current := some { w with placeWait := true } }) ∧
      ∀ (older : List Run) (tail : Run) (j : Nat), w.runOpen = true → s.su.runs = older ++ [tail] → w.cursor = 4 * j →
        setWf (s.tc.set j) →
        let r : TagRec := { tag := .scrubbing none (some w.ticket), generation := 0 }
        let recs : TagLine := { r0 := r, r1 := r, r2 := r, r3 := r }
        let takes : Prop := (s.tc.validLine j).isSome = true ∨
          ((∀ way, (way, WayState.pending j) ∉ s.tc.set j) ∧ ¬ Stuck s.tc j)
        let waits (u : State) (tc : TagCache) : Prop := OnlyChanges [.tc, .te] s u ∧ u.tc = tc ∧
          u.te = { s.te with current := some { w with busy := true } }
        (takes → s.tc.writes.length < 32 →
          ∃ u, exec .formatHandoff s = .next (handoffEnd s u w c 4).settle ∧ OnlyChanges [.tc, .su, .te] s u ∧
            setWf (u.tc.set j) ∧ u.tc.validLine j = some recs ∧ u.tc.fills = s.tc.fills ∧
            u.tc.stalled = s.tc.stalled ∧ u.tc.held = s.tc.held ∧
            u.tc.writes = s.tc.writes ++ [{ line := j, recs := recs }] ∧
            HandoffGoes s u w c (grown older tail 4) (decide (tail.count + 4 < 1048576)) 4) ∧
        (takes → 32 ≤ s.tc.writes.length →
          ∃ u, exec .formatHandoff s = .next u.settle ∧ waits u { s.tc with held := s.tc.held ++ [.install j] }) ∧
        ((∃ way, (way, WayState.pending j) ∈ s.tc.set j) →
          ∃ u, exec .formatHandoff s = .next u.settle ∧ waits u { s.tc with
            fills := s.tc.fills.map fun f => if f.line = j then { f with install := some recs } else f }) ∧
        (Stuck s.tc j →
          ∃ u, exec .formatHandoff s = .next u.settle ∧
            waits u { s.tc with stalled := s.tc.stalled ++ [(.engine, j)] }))

/-- R49, R111 and R117, with R122: entering NOTIFY uncancelled, a RETIRE frees every share entry of its domain and
closes the domain, and a FORMAT writes the header complete and makes the store FORMATTED; every command's COMPLETION
notice carries its counts. Each freed entry's line is written once as it is freed, in increasing index, which is the
model's order (log entry 38). -/
def Obligations.NotifyEndsRetireAndFormat : Prop :=
  ∀ (s : State) (k : Ticket) (c : Cmd) (st : Completion) (p : PoolCode), s.cmd k = some c → s.mc.poolCode = some p →
    let u := s.notify k st
    CmdBecomes s u k (notified c st) ∧ u.cp = completed s c st ∧ SameBytes s u ∧
      u.te.current = s.te.current.filter (fun w => w.ticket != k) ∧
      match c.command with
      | .retire d _ =>
        if st = .cancelled then OnlyChanges [.te, .cp] s u
        else
          let mine (i : Nat) : Bool :=
            (s.share (BitVec.ofNat 8 i)).inUse && (s.share (BitVec.ofNat 8 i)).owner == d
          OnlyChanges [.te, .cp, .domains, .shares, .dram] s u ∧
            DomainBecomes s u d { state := .closed, quota := 0, held := 0, score := 0, latch := false } ∧
            (∀ i : ShareIx, u.share i = if mine i.toNat then freeEntry else s.share i) ∧
            Issues s u (((List.range 256).filter mine).map (fun i =>
                (shareAddress p (4 * (i / 4)), ((List.range 4).map fun b => 4 * (i / 4) + b).flatMap fun n =>
                  storedShare n (if mine n = true ∧ n ≤ i then freeEntry else s.share (BitVec.ofNat 8 n)))) ++
              [domainWrite u p d])
      | .format _ =>
        if st = .cancelled then OnlyChanges [.te, .cp] s u
        else
          OnlyChanges [.te, .cp, .mc, .dram] s u ∧ u.mc = { s.mc with storeState := .formatted } ∧
            Issues s u [(headerAddress p, storedHeader p true)]
      | _ => OnlyChanges [.te, .cp] s u

/-! ## The scrubber -/

/-- R127, R128 and R132: when the pacing timer expires, outside SUSPENDED, the scrubber issues the next burst of its
write granule, or the first of the next granule of a closed head run, and restarts the timer with the interval setting;
while writes of the last burst are outstanding it waits.

The write granule is one of a scrubber in order (EveryStepKeepsScrubberInOrder): outside SUSPENDED a granule whose 64
writes have completed is no longer the write granule while no change waits.

R128 and R133: a zero write that completes OK stores 64 zero bytes in its line, and one that completes UNCORRECTABLE
leaves those bytes open (log entry 6) and marks the granule failed; either is counted, and no other byte changes.

R126 to R129, R131 and R133: what `settle` does of the scrubber's in the step of any command, outside SUSPENDED. A
granule whose 64 writes have completed gives its place to its change; a change not yet issued is issued
(WaitingPartiesTaken), or held where the write list is full. An empty closed run at the head is removed, as it would be
had it held granules (ScrubbedGranuleLeaves), and the scrubber looks at the next. With an open head or an empty list the
timer stops. With a closed head that holds granules a burst is issued at once where the timer is stopped: the next of
the write granule, or the first of the next granule. That all this follows what else the command does is the model's
choice (log entries 40, 48 and 55). -/
def Obligations.ScrubberWrites : Prop :=
  (∀ (s : State) (head : Run) (rest : List Run), scrubberWf s → s.mc.inReset = none → s.mc.mode ≠ .suspended →
     s.su.pacing ≠ none → s.su.waiting = none → s.su.runs = head :: rest → head.isOpen = false → 0 < head.count →
     let burst (b : Nat) : List Nat := (List.range 16).map fun k => 16 * b + k
     ∃ t, exec .pacingTimerExpiry s = .next t ∧ OnlyChanges [.su] s t ∧
       (s.su.write = none →
         t.su = { s.su with
           write := some { granule := head.first, bursts := 1, completed := 0, inFlight := burst 0, failed := false }
           pacing := some s.mc.scrubInterval }) ∧
       ∀ x : WriteGranule, s.su.write = some x →
         (x.bursts < 4 → x.completed = 16 * x.bursts →
           t.su = { s.su with
             write := some { x with bursts := x.bursts + 1, inFlight := burst x.bursts }
             pacing := some s.mc.scrubInterval }) ∧
         (x.completed < 16 * x.bursts → t.su = { s.su with pacing := none })) ∧
  (∀ (s : State) (x : WriteGranule) (line : Nat) (o : MemOutcome), s.mc.inReset = none → s.su.write = some x →
     line ∈ x.inFlight →
     let a := 4096 * x.granule + 64 * line
     ∃ u, exec (.scrubWriteComplete line o) s = .next u.settle ∧ OnlyChanges [.dram, .su] s u ∧
       u.su = { s.su with write := some { x with
         completed := x.completed + 1, inFlight := x.inFlight.filter (fun k => k != line)
         failed := x.failed || decide (o = .uncorrectable) } } ∧
       u.dram.persist = s.dram.persist ∧ OnlyBytesAt s.dram u.dram a 64 ∧
       (o = .ok → WritesAt s.dram u.dram a (List.replicate 64 0))) ∧
  (∀ s : State, s.settle = s.scrubSettle.settleMode) ∧
  ∀ s : State, s.mc.mode ≠ .suspended →
    (∀ x : WriteGranule, s.su.write = some x → x.completed = 64 → s.su.waiting = none →
      s.scrubSettle = (s.setSu { s.su with
        write := none, waiting := some { granule := x.granule, failed := x.failed, issued := false } }).scrubSettle) ∧
    (∀ x : WaitingChange, s.su.waiting = some x → x.issued = false →
      let u := s.retake .scrubber
      s.scrubSettle = u.scrubSettle ∧
        ∀ line : TagLine, Cached s (x.granule / 4) line → (line.get (x.granule % 4)).tag.kind = .scrubbing →
          32 ≤ s.tc.writes.length →
          OnlyChanges [.tc, .su] s u ∧ Holds s u (x.granule / 4) (.change .scrubber (x.granule / 4)) ∧
            u.su = { s.su with waiting := some { x with issued := true } }) ∧
    ((∀ x, s.su.write = some x → x.completed = 64 → s.su.waiting ≠ none) →
      (∀ x, s.su.waiting = some x → x.issued = true) →
      ((∀ y ∈ s.su.runs.head?, y.isOpen = true) → s.scrubSettle = s.setSu { s.su with pacing := none }) ∧
      ∀ (head : Run) (rest : List Run), s.su.runs = head :: rest → head.isOpen = false →
        (0 < head.count →
          let writes (x : WriteGranule) : State :=
            s.setSu { s.su with write := some x, pacing := some s.mc.scrubInterval }
          let skipped : Nat := if s.su.waiting = none then 0 else 1
          s.scrubSettle =
            if s.su.pacing ≠ none then s
            else
              match s.su.write with
              | some x =>
                if x.bursts < 4 ∧ x.completed = 16 * x.bursts then
                  writes { x with
                    bursts := x.bursts + 1, inFlight := (List.range 16).map fun k => 16 * x.bursts + k }
                else s
              | none =>
                if skipped < head.count then
                  writes { granule := head.first + skipped, bursts := 1, completed := 0, inFlight := List.range 16
                           failed := false }
                else s) ∧
        (head.count = 0 → s.su.runs.length ≤ 64 →
          (∀ w c, s.te.current = some w → s.cmd w.ticket = some c → c.phase ≠ .scrub) →
          let last (t : Ticket) (c : Cmd) : Prop :=
            head.ticket = some t ∧ s.cmd t = some c ∧ c.phase = .scrub ∧ c.runs ≤ 1
          ∃ u v, s.scrubSettle = u.scrubSettle ∧ RunRemoved s v head rest ∧
            (∀ t c, last t c → u = v.notify t (doneOf c)) ∧ ((∀ t c, ¬ last t c) → u = v)))

/-- R126, R129 to R131, with R100, R108 and R133: with the last of its 64 writes, a granule on a cached line has its
change taken. A SCRUBBING granule becomes FREE, or POISONED with cause SCRUB_FAIL where a write has failed; a tag found
in another state stays as it is. The granule leaves its run, the command of the run, where it has one, is credited
(poisoned where the granule is not freed), and an ASSIGN waiting on the granule goes on.

With its last granule a closed run leaves the list. It no longer counts among the runs of its command, which enters
NOTIFY where that was the last one and its HANDOFF has ended (NotifyEndsRetireAndFormat); and the place is taken by the
engine, or by the recovery walk, where one waits for it, with an open run from the granule it has reached (R125). The
clause is for a list in which the next run is open or has granules left; ScrubberWrites, with WaitingPartiesTaken, has
every list, empty runs among them. The engine's command is never in SCRUB (EveryStepKeepsNoticesInOrder).

The scrubber then goes on with the head run, where it is closed: at once where the timer has expired, and otherwise when
it does; with an open head or an empty list the timer stops (R127, R128).

On a line that is not cached the change waits, issued, for the line (WaitingPartiesTaken); a full write list is
ChangesWaitForRoom. -/
def Obligations.ScrubbedGranuleLeaves : Prop :=
  ∀ (s : State) (x : WriteGranule) (k : Nat) (head : Run) (rest : List Run) (o : MemOutcome), s.mc.inReset = none →
    s.mc.mode ≠ .suspended → s.mc.pendingTarget ≠ some .suspended →
    s.su.write = some x → x.completed = 63 → x.inFlight = [k] → s.su.waiting = none →
    s.su.runs = head :: rest → head.isOpen = false → 0 < head.count → head.first = x.granule →
    (∀ w c, s.te.current = some w → s.cmd w.ticket = some c → c.phase ≠ .scrub) →
    let failed := x.failed || decide (o = .uncorrectable)
    let stored := s.dram.complete (4096 * x.granule + 64 * k) (List.replicate 64 0) o
    let burst (g : Nat) : WriteGranule :=
      { granule := g, bursts := 1, completed := 0, inFlight := List.range 16, failed := false }
    (∀ line : TagLine, Cached s (x.granule / 4) line →
      (line.get (x.granule % 4)).tag.kind ≠ .scrubbing ∨ s.tc.writes.length < 32 →
      2 ≤ head.count ∨ (∀ y ∈ rest, y.isOpen = true ∨ 0 < y.count) →
      let r := line.get (x.granule % 4)
      let freed := decide (r.tag.kind = .scrubbing) && !failed
      let credit (c : Cmd) : Cmd :=
        if freed then { c with doneCount := c.doneCount + 1 } else { c with poisonedCount := c.poisonedCount + 1 }
      let left : List Run :=
        if head.count = 1 then rest else { head with first := head.first + 1, count := head.count - 1 } :: rest
      let taker : Option (Nat × Option Ticket) :=
        if head.count = 1 then
          match s.te.current, s.mc.recovery with
          | some w, _ => if w.placeWait then some (w.cursor, some w.ticket) else none
          | none, some (.walk w) => if w.placeWait then some (w.cursor, none) else none
          | _, _ => none
        else none
      let runs : List Run :=
        left ++ (taker.map fun y => { first := y.1, count := 0, ticket := y.2, isOpen := true }).toList
      let last (t : Ticket) (c : Cmd) : Prop :=
        head.count = 1 ∧ head.ticket = some t ∧ s.cmd t = some c ∧ c.phase = .scrub ∧ c.runs ≤ 1
      ∃ u v, exec (.scrubWriteComplete k o) s = .next u ∧
        (∀ t c, last t c → u = v.notify t (doneOf (credit c))) ∧ ((∀ t c, ¬ last t c) → u = v) ∧
        OnlyChanges [.dram, .tc, .su, .te, .mc] s v ∧ v.dram = stored ∧
        (r.tag.kind = .scrubbing → Rewrites s v x.granule line
          { r with tag := if failed then .poisoned r.tag.owner .scrubFail else .free }) ∧
        (r.tag.kind ≠ .scrubbing → OnlyRecency s v (x.granule / 4)) ∧
        v.su = (match left.head?.filter (fun y => !y.isOpen) with
          | none => { s.su with write := none, runs := runs, pacing := none }
          | some y =>
            if s.su.pacing = none then
              { s.su with write := some (burst y.first), runs := runs, pacing := some s.mc.scrubInterval }
            else { s.su with write := none, runs := runs }) ∧
        (∀ t : Ticket, v.cmd t = (s.cmd t).map fun c =>
          let c' := if head.ticket = some t then credit c else c
          { c' with runs := c.runs - (if head.count = 1 ∧ head.ticket = some t then 1 else 0) +
            if taker.bind (·.2) = some t then 1 else 0 }) ∧
        v.te.counter = s.te.counter ∧
        v.te.current = s.te.current.map (fun w =>
          let w' := if w.scrubWait = some x.granule then { w with scrubWait := none } else w
          if head.count = 1 ∧ w.placeWait = true then
            { w' with runOpened := true, runOpen := true, placeWait := false }
          else w') ∧
        v.mc = { s.mc with recovery :=
          match taker, s.mc.recovery with
          | some (_, none), some (.walk w) => some (.walk { w with runOpen := true, placeWait := false })
          | _, recovery => recovery }) ∧
    ((∀ w ∈ s.tc.set (x.granule / 4), w.2.isValid (x.granule / 4) = false) →
      ∃ u, exec (.scrubWriteComplete k o) s = .next u ∧ OnlyChanges [.dram, .tc, .su] s u ∧ u.dram = stored ∧
        u.tc = (s.tc.lookup .scrubber (x.granule / 4)).1 ∧
        u.su.waiting = some { granule := x.granule, failed := failed, issued := true } ∧ u.su.runs = s.su.runs ∧
        (if s.su.pacing = none ∧ 2 ≤ head.count then
          u.su.write = some (burst (x.granule + 1)) ∧ u.su.pacing = some s.mc.scrubInterval
        else u.su.write = none ∧ u.su.pacing = s.su.pacing))

/-! ## What every step keeps -/

/-- Every step keeps DRAM's list of cells in the form in which the model holds it: addresses strictly rising, and no
cell listed that reads as an unlisted one does (log entry 4; INVENTORY.md, Memory and ordering). -/
def Obligations.EveryStepKeepsMemoryCanonical : Prop :=
  ∀ s t : State, memoryWf s.dram.mem = true → step s = .next t → memoryWf t.dram.mem = true

/-- R20, R31 and R34: every step keeps the score of every domain in 0 to 256, 256 exactly with the latch set, and
domain 0 OPEN with score 0. -/
def Obligations.EveryStepKeepsScoresInBounds : Prop :=
  ∀ s t : State, domainsWf s → step s = .next t → domainsWf t

/-- R78, R93, R105, R125, R137, R146, R147, R159, R173 and R177: every step keeps within their capacities the inbound
queue, the places of the reply list, the unread records of the log, the command table, the drain snapshot, the scrub
list, the miss list, the write list, and of each port the table, the unentered refusals, the acknowledgement and the
tag limit; and the tags of each port's table distinct. The notice queue stands in EveryStepKeepsNoticesInOrder. -/
def Obligations.EveryStepKeepsCapacities : Prop :=
  ∀ s t : State, withinCapacity s → step s = .next t → withinCapacity t

/-- R178, with R94, R98, R122, R166, R189, R191 and R194: every step keeps the notice queue within its 18 places, and
what bounds it: one COMPLETION notice at most for each live command, which is then in NOTIFY; one waiting EVENT notice
at most; a START notice at the head alone; and only the notice being sent has its number. Live commands keep distinct
tickets, and the engine's command is a live one in a phase of its own. During a warm reset and during recovery the mode
is RECOVERING; that the field is so before the reset ends is the model's choice (log entry 22). -/
def Obligations.EveryStepKeepsNoticesInOrder : Prop :=
  ∀ s t : State, noticesWf s → step s = .next t → noticesWf t

/-- R77 to R79: every step keeps the tag cache in order: eight ways to a set, no line in two of them, and a PENDING way
for each fill. -/
def Obligations.EveryStepKeepsCacheInOrder : Prop :=
  ∀ s t : State, cacheWf s.tc → step s = .next t → cacheWf t.tc

/-- R128, R129 and R133: every step keeps the scrubber's write granule in order: its completed writes and those in
flight are at most its 64 lines, and outside SUSPENDED a granule whose 64 writes have completed has become the one
whose change waits, unless another change waits. R181, R182, R189 and R191, which this rests on: during a warm reset
and during recovery the mode is RECOVERING with no change pending, and no recovery goes on during a reset; that the mode
field is RECOVERING before the reset ends is the model's choice (log entry 22). The suspend origin is ENFORCE or MONITOR
in SUSPENDED and absent in any other mode; in SUSPENDED only the return to the origin is pending, in ENFORCE or MONITOR
only CONFIG or SUSPENDED, and in any other mode nothing. -/
def Obligations.EveryStepKeepsScrubberInOrder : Prop :=
  ∀ s t : State, scrubberWf s → step s = .next t → scrubberWf t

/-- The six conditions that every step keeps hold of the part right after reset. -/
def Obligations.ResetMeetsEveryCondition : Prop :=
  memoryWf State.reset.dram.mem = true ∧ domainsWf State.reset ∧ withinCapacity State.reset ∧ noticesWf State.reset ∧
    cacheWf State.reset.tc ∧ scrubberWf State.reset

end
end

