-- ==== Sys2Proof/Laws/Bytes.lean ====
section
/-! SUPPORT. Byte order: a number written as bytes reads back, wherever it stands in a frame. -/

namespace Sys2Proof.Machine

@[simp] theorem beBytes_length (w n : Nat) : (beBytes w n).length = w := by
  induction w with
  | zero => rfl
  | succ w ih => simp [beBytes, ih]

theorem beNat_foldl (bs : List Byte) (a : Nat) :
    bs.foldl (fun acc b => acc * 256 + b.toNat) a = a * 256 ^ bs.length + beNat bs := by
  unfold beNat
  induction bs generalizing a with
  | nil => simp
  | cons b bs ih =>
    simp only [List.foldl_cons, List.length_cons]
    rw [ih, ih (0 * 256 + b.toNat)]
    ring

theorem beNat_cons (b : Byte) (bs : List Byte) : beNat (b :: bs) = b.toNat * 256 ^ bs.length + beNat bs := by
  unfold beNat
  simp only [List.foldl_cons]
  rw [beNat_foldl]
  simp [beNat]

/-- A number written in `w` bytes reads back as itself modulo 256 to the power `w`. -/
@[simp] theorem beNat_beBytes (w n : Nat) : beNat (beBytes w n) = n % 256 ^ w := by
  induction w with
  | zero => simp [beBytes, beNat, Nat.mod_one]
  | succ w ih =>
    have h : n % 256 ^ (w + 1) = n % 256 ^ w + 256 ^ w * (n / 256 ^ w % 2 ^ 8) := by
      rw [pow_succ 256 w]; exact Nat.mod_mul
    rw [beBytes, beNat_cons, beBytes_length, ih, BitVec.toNat_ofNat, h, Nat.add_comm, Nat.mul_comm]

/-- A number that stands between two strings of bytes is read from its place. -/
theorem field_between (pre post : List Byte) (w n : Nat) :
    field (pre ++ (beBytes w n ++ post)) pre.length w = n % 256 ^ w := by
  unfold field
  rw [List.drop_left, List.take_append_of_le_length (by simp), List.take_of_length_le (by simp), beNat_beBytes]

/-- The same with the place as a number. -/
theorem field_at {f : List Byte} {start w n : Nat} (pre post : List Byte) (hf : f = pre ++ (beBytes w n ++ post))
    (hs : start = pre.length) : field f start w = n % 256 ^ w := by
  subst hf hs; exact field_between pre post w n

end Sys2Proof.Machine
end

