-- ==== Sys2Proof/Laws/State.lean ====
section
/-! SUPPORT. One lemma for each field and each update of the state, so that no proof unfolds a record update. -/

namespace Sys2Proof.Machine

/-! ### setDram -/

@[simp] theorem State.setDram_dram (s : State) (x : Dram) : (s.setDram x).dram = x := by cases s; rfl
@[simp] theorem State.setDram_tc (s : State) (x : Dram) : (s.setDram x).tc = s.tc := by cases s; rfl
@[simp] theorem State.setDram_domains (s : State) (x : Dram) : (s.setDram x).domains = s.domains := by cases s; rfl
@[simp] theorem State.setDram_shares (s : State) (x : Dram) : (s.setDram x).shares = s.shares := by cases s; rfl
@[simp] theorem State.setDram_te (s : State) (x : Dram) : (s.setDram x).te = s.te := by cases s; rfl
@[simp] theorem State.setDram_su (s : State) (x : Dram) : (s.setDram x).su = s.su := by cases s; rfl
@[simp] theorem State.setDram_vl (s : State) (x : Dram) : (s.setDram x).vl = s.vl := by cases s; rfl
@[simp] theorem State.setDram_eu (s : State) (x : Dram) : (s.setDram x).eu = s.eu := by cases s; rfl
@[simp] theorem State.setDram_mc (s : State) (x : Dram) : (s.setDram x).mc = s.mc := by cases s; rfl
@[simp] theorem State.setDram_cp (s : State) (x : Dram) : (s.setDram x).cp = s.cp := by cases s; rfl
@[simp] theorem State.setDram_portA (s : State) (x : Dram) : (s.setDram x).portA = s.portA := by cases s; rfl
@[simp] theorem State.setDram_portB (s : State) (x : Dram) : (s.setDram x).portB = s.portB := by cases s; rfl
@[simp] theorem State.setDram_pending (s : State) (x : Dram) : (s.setDram x).pending = s.pending := by cases s; rfl
@[simp] theorem State.setDram_self (s : State) : s.setDram s.dram = s := by cases s; rfl
@[simp] theorem State.setDram_setDram (s : State) (x y : Dram) : (s.setDram x).setDram y = s.setDram y := by cases s; rfl
@[simp] theorem State.setDram_domain (s : State) (x : Dram) (d : DomainId) : (s.setDram x).domain d = s.domain d := by cases s; rfl
@[simp] theorem State.setDram_share (s : State) (x : Dram) (i : ShareIx) : (s.setDram x).share i = s.share i := by cases s; rfl
@[simp] theorem State.setDram_cmd (s : State) (x : Dram) (t : Ticket) : (s.setDram x).cmd t = s.cmd t := by cases s; rfl
@[simp] theorem State.setDram_currentCmd (s : State) (x : Dram) : (s.setDram x).currentCmd = s.currentCmd := by cases s; rfl
@[simp] theorem State.setDram_tenants (s : State) (x : Dram) : (s.setDram x).tenants = s.tenants := by cases s; rfl
@[simp] theorem State.setDram_held (s : State) (x : Dram) : (s.setDram x).held = s.held := by cases s; rfl
@[simp] theorem State.setDram_walk (s : State) (x : Dram) : (s.setDram x).walk = s.walk := by cases s; rfl
@[simp] theorem State.setDram_frame (s : State) (x : Dram) : (s.setDram x).frame = s.frame := by cases s; rfl
@[simp] theorem State.setDram_port (s : State) (x : Dram) (p : Port) : (s.setDram x).port p = s.port p := by cases p <;> cases s <;> rfl

/-! ### setTc -/

@[simp] theorem State.setTc_dram (s : State) (x : TagCache) : (s.setTc x).dram = s.dram := by cases s; rfl
@[simp] theorem State.setTc_tc (s : State) (x : TagCache) : (s.setTc x).tc = x := by cases s; rfl
@[simp] theorem State.setTc_domains (s : State) (x : TagCache) : (s.setTc x).domains = s.domains := by cases s; rfl
@[simp] theorem State.setTc_shares (s : State) (x : TagCache) : (s.setTc x).shares = s.shares := by cases s; rfl
@[simp] theorem State.setTc_te (s : State) (x : TagCache) : (s.setTc x).te = s.te := by cases s; rfl
@[simp] theorem State.setTc_su (s : State) (x : TagCache) : (s.setTc x).su = s.su := by cases s; rfl
@[simp] theorem State.setTc_vl (s : State) (x : TagCache) : (s.setTc x).vl = s.vl := by cases s; rfl
@[simp] theorem State.setTc_eu (s : State) (x : TagCache) : (s.setTc x).eu = s.eu := by cases s; rfl
@[simp] theorem State.setTc_mc (s : State) (x : TagCache) : (s.setTc x).mc = s.mc := by cases s; rfl
@[simp] theorem State.setTc_cp (s : State) (x : TagCache) : (s.setTc x).cp = s.cp := by cases s; rfl
@[simp] theorem State.setTc_portA (s : State) (x : TagCache) : (s.setTc x).portA = s.portA := by cases s; rfl
@[simp] theorem State.setTc_portB (s : State) (x : TagCache) : (s.setTc x).portB = s.portB := by cases s; rfl
@[simp] theorem State.setTc_pending (s : State) (x : TagCache) : (s.setTc x).pending = s.pending := by cases s; rfl
@[simp] theorem State.setTc_self (s : State) : s.setTc s.tc = s := by cases s; rfl
@[simp] theorem State.setTc_setTc (s : State) (x y : TagCache) : (s.setTc x).setTc y = s.setTc y := by cases s; rfl
@[simp] theorem State.setTc_domain (s : State) (x : TagCache) (d : DomainId) : (s.setTc x).domain d = s.domain d := by cases s; rfl
@[simp] theorem State.setTc_share (s : State) (x : TagCache) (i : ShareIx) : (s.setTc x).share i = s.share i := by cases s; rfl
@[simp] theorem State.setTc_cmd (s : State) (x : TagCache) (t : Ticket) : (s.setTc x).cmd t = s.cmd t := by cases s; rfl
@[simp] theorem State.setTc_currentCmd (s : State) (x : TagCache) : (s.setTc x).currentCmd = s.currentCmd := by cases s; rfl
@[simp] theorem State.setTc_tenants (s : State) (x : TagCache) : (s.setTc x).tenants = s.tenants := by cases s; rfl
@[simp] theorem State.setTc_held (s : State) (x : TagCache) : (s.setTc x).held = s.held := by cases s; rfl
@[simp] theorem State.setTc_walk (s : State) (x : TagCache) : (s.setTc x).walk = s.walk := by cases s; rfl
@[simp] theorem State.setTc_frame (s : State) (x : TagCache) : (s.setTc x).frame = s.frame := by cases s; rfl
@[simp] theorem State.setTc_port (s : State) (x : TagCache) (p : Port) : (s.setTc x).port p = s.port p := by cases p <;> cases s <;> rfl

/-! ### setDomains -/

@[simp] theorem State.setDomains_dram (s : State) (x : SMap DomainRec) : (s.setDomains x).dram = s.dram := by cases s; rfl
@[simp] theorem State.setDomains_tc (s : State) (x : SMap DomainRec) : (s.setDomains x).tc = s.tc := by cases s; rfl
@[simp] theorem State.setDomains_domains (s : State) (x : SMap DomainRec) : (s.setDomains x).domains = x := by cases s; rfl
@[simp] theorem State.setDomains_shares (s : State) (x : SMap DomainRec) : (s.setDomains x).shares = s.shares := by cases s; rfl
@[simp] theorem State.setDomains_te (s : State) (x : SMap DomainRec) : (s.setDomains x).te = s.te := by cases s; rfl
@[simp] theorem State.setDomains_su (s : State) (x : SMap DomainRec) : (s.setDomains x).su = s.su := by cases s; rfl
@[simp] theorem State.setDomains_vl (s : State) (x : SMap DomainRec) : (s.setDomains x).vl = s.vl := by cases s; rfl
@[simp] theorem State.setDomains_eu (s : State) (x : SMap DomainRec) : (s.setDomains x).eu = s.eu := by cases s; rfl
@[simp] theorem State.setDomains_mc (s : State) (x : SMap DomainRec) : (s.setDomains x).mc = s.mc := by cases s; rfl
@[simp] theorem State.setDomains_cp (s : State) (x : SMap DomainRec) : (s.setDomains x).cp = s.cp := by cases s; rfl
@[simp] theorem State.setDomains_portA (s : State) (x : SMap DomainRec) : (s.setDomains x).portA = s.portA := by cases s; rfl
@[simp] theorem State.setDomains_portB (s : State) (x : SMap DomainRec) : (s.setDomains x).portB = s.portB := by cases s; rfl
@[simp] theorem State.setDomains_pending (s : State) (x : SMap DomainRec) : (s.setDomains x).pending = s.pending := by cases s; rfl
@[simp] theorem State.setDomains_self (s : State) : s.setDomains s.domains = s := by cases s; rfl
@[simp] theorem State.setDomains_setDomains (s : State) (x y : SMap DomainRec) : (s.setDomains x).setDomains y = s.setDomains y := by cases s; rfl
@[simp] theorem State.setDomains_share (s : State) (x : SMap DomainRec) (i : ShareIx) : (s.setDomains x).share i = s.share i := by cases s; rfl
@[simp] theorem State.setDomains_cmd (s : State) (x : SMap DomainRec) (t : Ticket) : (s.setDomains x).cmd t = s.cmd t := by cases s; rfl
@[simp] theorem State.setDomains_currentCmd (s : State) (x : SMap DomainRec) : (s.setDomains x).currentCmd = s.currentCmd := by cases s; rfl
@[simp] theorem State.setDomains_tenants (s : State) (x : SMap DomainRec) : (s.setDomains x).tenants = s.tenants := by cases s; rfl
@[simp] theorem State.setDomains_held (s : State) (x : SMap DomainRec) : (s.setDomains x).held = s.held := by cases s; rfl
@[simp] theorem State.setDomains_walk (s : State) (x : SMap DomainRec) : (s.setDomains x).walk = s.walk := by cases s; rfl
@[simp] theorem State.setDomains_frame (s : State) (x : SMap DomainRec) : (s.setDomains x).frame = s.frame := by cases s; rfl
@[simp] theorem State.setDomains_port (s : State) (x : SMap DomainRec) (p : Port) : (s.setDomains x).port p = s.port p := by cases p <;> cases s <;> rfl

/-! ### setShares -/

@[simp] theorem State.setShares_dram (s : State) (x : SMap ShareEntry) : (s.setShares x).dram = s.dram := by cases s; rfl
@[simp] theorem State.setShares_tc (s : State) (x : SMap ShareEntry) : (s.setShares x).tc = s.tc := by cases s; rfl
@[simp] theorem State.setShares_domains (s : State) (x : SMap ShareEntry) : (s.setShares x).domains = s.domains := by cases s; rfl
@[simp] theorem State.setShares_shares (s : State) (x : SMap ShareEntry) : (s.setShares x).shares = x := by cases s; rfl
@[simp] theorem State.setShares_te (s : State) (x : SMap ShareEntry) : (s.setShares x).te = s.te := by cases s; rfl
@[simp] theorem State.setShares_su (s : State) (x : SMap ShareEntry) : (s.setShares x).su = s.su := by cases s; rfl
@[simp] theorem State.setShares_vl (s : State) (x : SMap ShareEntry) : (s.setShares x).vl = s.vl := by cases s; rfl
@[simp] theorem State.setShares_eu (s : State) (x : SMap ShareEntry) : (s.setShares x).eu = s.eu := by cases s; rfl
@[simp] theorem State.setShares_mc (s : State) (x : SMap ShareEntry) : (s.setShares x).mc = s.mc := by cases s; rfl
@[simp] theorem State.setShares_cp (s : State) (x : SMap ShareEntry) : (s.setShares x).cp = s.cp := by cases s; rfl
@[simp] theorem State.setShares_portA (s : State) (x : SMap ShareEntry) : (s.setShares x).portA = s.portA := by cases s; rfl
@[simp] theorem State.setShares_portB (s : State) (x : SMap ShareEntry) : (s.setShares x).portB = s.portB := by cases s; rfl
@[simp] theorem State.setShares_pending (s : State) (x : SMap ShareEntry) : (s.setShares x).pending = s.pending := by cases s; rfl
@[simp] theorem State.setShares_self (s : State) : s.setShares s.shares = s := by cases s; rfl
@[simp] theorem State.setShares_setShares (s : State) (x y : SMap ShareEntry) : (s.setShares x).setShares y = s.setShares y := by cases s; rfl
@[simp] theorem State.setShares_domain (s : State) (x : SMap ShareEntry) (d : DomainId) : (s.setShares x).domain d = s.domain d := by cases s; rfl
@[simp] theorem State.setShares_cmd (s : State) (x : SMap ShareEntry) (t : Ticket) : (s.setShares x).cmd t = s.cmd t := by cases s; rfl
@[simp] theorem State.setShares_currentCmd (s : State) (x : SMap ShareEntry) : (s.setShares x).currentCmd = s.currentCmd := by cases s; rfl
@[simp] theorem State.setShares_tenants (s : State) (x : SMap ShareEntry) : (s.setShares x).tenants = s.tenants := by cases s; rfl
@[simp] theorem State.setShares_held (s : State) (x : SMap ShareEntry) : (s.setShares x).held = s.held := by cases s; rfl
@[simp] theorem State.setShares_walk (s : State) (x : SMap ShareEntry) : (s.setShares x).walk = s.walk := by cases s; rfl
@[simp] theorem State.setShares_frame (s : State) (x : SMap ShareEntry) : (s.setShares x).frame = s.frame := by cases s; rfl
@[simp] theorem State.setShares_port (s : State) (x : SMap ShareEntry) (p : Port) : (s.setShares x).port p = s.port p := by cases p <;> cases s <;> rfl

/-! ### setTe -/

@[simp] theorem State.setTe_dram (s : State) (x : Engine) : (s.setTe x).dram = s.dram := by cases s; rfl
@[simp] theorem State.setTe_tc (s : State) (x : Engine) : (s.setTe x).tc = s.tc := by cases s; rfl
@[simp] theorem State.setTe_domains (s : State) (x : Engine) : (s.setTe x).domains = s.domains := by cases s; rfl
@[simp] theorem State.setTe_shares (s : State) (x : Engine) : (s.setTe x).shares = s.shares := by cases s; rfl
@[simp] theorem State.setTe_te (s : State) (x : Engine) : (s.setTe x).te = x := by cases s; rfl
@[simp] theorem State.setTe_su (s : State) (x : Engine) : (s.setTe x).su = s.su := by cases s; rfl
@[simp] theorem State.setTe_vl (s : State) (x : Engine) : (s.setTe x).vl = s.vl := by cases s; rfl
@[simp] theorem State.setTe_eu (s : State) (x : Engine) : (s.setTe x).eu = s.eu := by cases s; rfl
@[simp] theorem State.setTe_mc (s : State) (x : Engine) : (s.setTe x).mc = s.mc := by cases s; rfl
@[simp] theorem State.setTe_cp (s : State) (x : Engine) : (s.setTe x).cp = s.cp := by cases s; rfl
@[simp] theorem State.setTe_portA (s : State) (x : Engine) : (s.setTe x).portA = s.portA := by cases s; rfl
@[simp] theorem State.setTe_portB (s : State) (x : Engine) : (s.setTe x).portB = s.portB := by cases s; rfl
@[simp] theorem State.setTe_pending (s : State) (x : Engine) : (s.setTe x).pending = s.pending := by cases s; rfl
@[simp] theorem State.setTe_self (s : State) : s.setTe s.te = s := by cases s; rfl
@[simp] theorem State.setTe_setTe (s : State) (x y : Engine) : (s.setTe x).setTe y = s.setTe y := by cases s; rfl
@[simp] theorem State.setTe_domain (s : State) (x : Engine) (d : DomainId) : (s.setTe x).domain d = s.domain d := by cases s; rfl
@[simp] theorem State.setTe_share (s : State) (x : Engine) (i : ShareIx) : (s.setTe x).share i = s.share i := by cases s; rfl
@[simp] theorem State.setTe_tenants (s : State) (x : Engine) : (s.setTe x).tenants = s.tenants := by cases s; rfl
@[simp] theorem State.setTe_held (s : State) (x : Engine) : (s.setTe x).held = s.held := by cases s; rfl
@[simp] theorem State.setTe_walk (s : State) (x : Engine) : (s.setTe x).walk = s.walk := by cases s; rfl
@[simp] theorem State.setTe_frame (s : State) (x : Engine) : (s.setTe x).frame = s.frame := by cases s; rfl
@[simp] theorem State.setTe_port (s : State) (x : Engine) (p : Port) : (s.setTe x).port p = s.port p := by cases p <;> cases s <;> rfl

/-! ### setSu -/

@[simp] theorem State.setSu_dram (s : State) (x : Scrubber) : (s.setSu x).dram = s.dram := by cases s; rfl
@[simp] theorem State.setSu_tc (s : State) (x : Scrubber) : (s.setSu x).tc = s.tc := by cases s; rfl
@[simp] theorem State.setSu_domains (s : State) (x : Scrubber) : (s.setSu x).domains = s.domains := by cases s; rfl
@[simp] theorem State.setSu_shares (s : State) (x : Scrubber) : (s.setSu x).shares = s.shares := by cases s; rfl
@[simp] theorem State.setSu_te (s : State) (x : Scrubber) : (s.setSu x).te = s.te := by cases s; rfl
@[simp] theorem State.setSu_su (s : State) (x : Scrubber) : (s.setSu x).su = x := by cases s; rfl
@[simp] theorem State.setSu_vl (s : State) (x : Scrubber) : (s.setSu x).vl = s.vl := by cases s; rfl
@[simp] theorem State.setSu_eu (s : State) (x : Scrubber) : (s.setSu x).eu = s.eu := by cases s; rfl
@[simp] theorem State.setSu_mc (s : State) (x : Scrubber) : (s.setSu x).mc = s.mc := by cases s; rfl
@[simp] theorem State.setSu_cp (s : State) (x : Scrubber) : (s.setSu x).cp = s.cp := by cases s; rfl
@[simp] theorem State.setSu_portA (s : State) (x : Scrubber) : (s.setSu x).portA = s.portA := by cases s; rfl
@[simp] theorem State.setSu_portB (s : State) (x : Scrubber) : (s.setSu x).portB = s.portB := by cases s; rfl
@[simp] theorem State.setSu_pending (s : State) (x : Scrubber) : (s.setSu x).pending = s.pending := by cases s; rfl
@[simp] theorem State.setSu_self (s : State) : s.setSu s.su = s := by cases s; rfl
@[simp] theorem State.setSu_setSu (s : State) (x y : Scrubber) : (s.setSu x).setSu y = s.setSu y := by cases s; rfl
@[simp] theorem State.setSu_domain (s : State) (x : Scrubber) (d : DomainId) : (s.setSu x).domain d = s.domain d := by cases s; rfl
@[simp] theorem State.setSu_share (s : State) (x : Scrubber) (i : ShareIx) : (s.setSu x).share i = s.share i := by cases s; rfl
@[simp] theorem State.setSu_cmd (s : State) (x : Scrubber) (t : Ticket) : (s.setSu x).cmd t = s.cmd t := by cases s; rfl
@[simp] theorem State.setSu_currentCmd (s : State) (x : Scrubber) : (s.setSu x).currentCmd = s.currentCmd := by cases s; rfl
@[simp] theorem State.setSu_tenants (s : State) (x : Scrubber) : (s.setSu x).tenants = s.tenants := by cases s; rfl
@[simp] theorem State.setSu_held (s : State) (x : Scrubber) : (s.setSu x).held = s.held := by cases s; rfl
@[simp] theorem State.setSu_walk (s : State) (x : Scrubber) : (s.setSu x).walk = s.walk := by cases s; rfl
@[simp] theorem State.setSu_frame (s : State) (x : Scrubber) : (s.setSu x).frame = s.frame := by cases s; rfl
@[simp] theorem State.setSu_port (s : State) (x : Scrubber) (p : Port) : (s.setSu x).port p = s.port p := by cases p <;> cases s <;> rfl

/-! ### setVl -/

@[simp] theorem State.setVl_dram (s : State) (x : Log) : (s.setVl x).dram = s.dram := by cases s; rfl
@[simp] theorem State.setVl_tc (s : State) (x : Log) : (s.setVl x).tc = s.tc := by cases s; rfl
@[simp] theorem State.setVl_domains (s : State) (x : Log) : (s.setVl x).domains = s.domains := by cases s; rfl
@[simp] theorem State.setVl_shares (s : State) (x : Log) : (s.setVl x).shares = s.shares := by cases s; rfl
@[simp] theorem State.setVl_te (s : State) (x : Log) : (s.setVl x).te = s.te := by cases s; rfl
@[simp] theorem State.setVl_su (s : State) (x : Log) : (s.setVl x).su = s.su := by cases s; rfl
@[simp] theorem State.setVl_vl (s : State) (x : Log) : (s.setVl x).vl = x := by cases s; rfl
@[simp] theorem State.setVl_eu (s : State) (x : Log) : (s.setVl x).eu = s.eu := by cases s; rfl
@[simp] theorem State.setVl_mc (s : State) (x : Log) : (s.setVl x).mc = s.mc := by cases s; rfl
@[simp] theorem State.setVl_cp (s : State) (x : Log) : (s.setVl x).cp = s.cp := by cases s; rfl
@[simp] theorem State.setVl_portA (s : State) (x : Log) : (s.setVl x).portA = s.portA := by cases s; rfl
@[simp] theorem State.setVl_portB (s : State) (x : Log) : (s.setVl x).portB = s.portB := by cases s; rfl
@[simp] theorem State.setVl_pending (s : State) (x : Log) : (s.setVl x).pending = s.pending := by cases s; rfl
@[simp] theorem State.setVl_self (s : State) : s.setVl s.vl = s := by cases s; rfl
@[simp] theorem State.setVl_setVl (s : State) (x y : Log) : (s.setVl x).setVl y = s.setVl y := by cases s; rfl
@[simp] theorem State.setVl_domain (s : State) (x : Log) (d : DomainId) : (s.setVl x).domain d = s.domain d := by cases s; rfl
@[simp] theorem State.setVl_share (s : State) (x : Log) (i : ShareIx) : (s.setVl x).share i = s.share i := by cases s; rfl
@[simp] theorem State.setVl_cmd (s : State) (x : Log) (t : Ticket) : (s.setVl x).cmd t = s.cmd t := by cases s; rfl
@[simp] theorem State.setVl_currentCmd (s : State) (x : Log) : (s.setVl x).currentCmd = s.currentCmd := by cases s; rfl
@[simp] theorem State.setVl_tenants (s : State) (x : Log) : (s.setVl x).tenants = s.tenants := by cases s; rfl
@[simp] theorem State.setVl_held (s : State) (x : Log) : (s.setVl x).held = s.held := by cases s; rfl
@[simp] theorem State.setVl_walk (s : State) (x : Log) : (s.setVl x).walk = s.walk := by cases s; rfl
@[simp] theorem State.setVl_frame (s : State) (x : Log) : (s.setVl x).frame = s.frame := by cases s; rfl
@[simp] theorem State.setVl_port (s : State) (x : Log) (p : Port) : (s.setVl x).port p = s.port p := by cases p <;> cases s <;> rfl

/-! ### setEu -/

@[simp] theorem State.setEu_dram (s : State) (x : Events) : (s.setEu x).dram = s.dram := by cases s; rfl
@[simp] theorem State.setEu_tc (s : State) (x : Events) : (s.setEu x).tc = s.tc := by cases s; rfl
@[simp] theorem State.setEu_domains (s : State) (x : Events) : (s.setEu x).domains = s.domains := by cases s; rfl
@[simp] theorem State.setEu_shares (s : State) (x : Events) : (s.setEu x).shares = s.shares := by cases s; rfl
@[simp] theorem State.setEu_te (s : State) (x : Events) : (s.setEu x).te = s.te := by cases s; rfl
@[simp] theorem State.setEu_su (s : State) (x : Events) : (s.setEu x).su = s.su := by cases s; rfl
@[simp] theorem State.setEu_vl (s : State) (x : Events) : (s.setEu x).vl = s.vl := by cases s; rfl
@[simp] theorem State.setEu_eu (s : State) (x : Events) : (s.setEu x).eu = x := by cases s; rfl
@[simp] theorem State.setEu_mc (s : State) (x : Events) : (s.setEu x).mc = s.mc := by cases s; rfl
@[simp] theorem State.setEu_cp (s : State) (x : Events) : (s.setEu x).cp = s.cp := by cases s; rfl
@[simp] theorem State.setEu_portA (s : State) (x : Events) : (s.setEu x).portA = s.portA := by cases s; rfl
@[simp] theorem State.setEu_portB (s : State) (x : Events) : (s.setEu x).portB = s.portB := by cases s; rfl
@[simp] theorem State.setEu_pending (s : State) (x : Events) : (s.setEu x).pending = s.pending := by cases s; rfl
@[simp] theorem State.setEu_self (s : State) : s.setEu s.eu = s := by cases s; rfl
@[simp] theorem State.setEu_setEu (s : State) (x y : Events) : (s.setEu x).setEu y = s.setEu y := by cases s; rfl
@[simp] theorem State.setEu_domain (s : State) (x : Events) (d : DomainId) : (s.setEu x).domain d = s.domain d := by cases s; rfl
@[simp] theorem State.setEu_share (s : State) (x : Events) (i : ShareIx) : (s.setEu x).share i = s.share i := by cases s; rfl
@[simp] theorem State.setEu_cmd (s : State) (x : Events) (t : Ticket) : (s.setEu x).cmd t = s.cmd t := by cases s; rfl
@[simp] theorem State.setEu_currentCmd (s : State) (x : Events) : (s.setEu x).currentCmd = s.currentCmd := by cases s; rfl
@[simp] theorem State.setEu_tenants (s : State) (x : Events) : (s.setEu x).tenants = s.tenants := by cases s; rfl
@[simp] theorem State.setEu_held (s : State) (x : Events) : (s.setEu x).held = s.held := by cases s; rfl
@[simp] theorem State.setEu_walk (s : State) (x : Events) : (s.setEu x).walk = s.walk := by cases s; rfl
@[simp] theorem State.setEu_frame (s : State) (x : Events) : (s.setEu x).frame = s.frame := by cases s; rfl
@[simp] theorem State.setEu_port (s : State) (x : Events) (p : Port) : (s.setEu x).port p = s.port p := by cases p <;> cases s <;> rfl

/-! ### setMc -/

@[simp] theorem State.setMc_dram (s : State) (x : ModeController) : (s.setMc x).dram = s.dram := by cases s; rfl
@[simp] theorem State.setMc_tc (s : State) (x : ModeController) : (s.setMc x).tc = s.tc := by cases s; rfl
@[simp] theorem State.setMc_domains (s : State) (x : ModeController) : (s.setMc x).domains = s.domains := by cases s; rfl
@[simp] theorem State.setMc_shares (s : State) (x : ModeController) : (s.setMc x).shares = s.shares := by cases s; rfl
@[simp] theorem State.setMc_te (s : State) (x : ModeController) : (s.setMc x).te = s.te := by cases s; rfl
@[simp] theorem State.setMc_su (s : State) (x : ModeController) : (s.setMc x).su = s.su := by cases s; rfl
@[simp] theorem State.setMc_vl (s : State) (x : ModeController) : (s.setMc x).vl = s.vl := by cases s; rfl
@[simp] theorem State.setMc_eu (s : State) (x : ModeController) : (s.setMc x).eu = s.eu := by cases s; rfl
@[simp] theorem State.setMc_mc (s : State) (x : ModeController) : (s.setMc x).mc = x := by cases s; rfl
@[simp] theorem State.setMc_cp (s : State) (x : ModeController) : (s.setMc x).cp = s.cp := by cases s; rfl
@[simp] theorem State.setMc_portA (s : State) (x : ModeController) : (s.setMc x).portA = s.portA := by cases s; rfl
@[simp] theorem State.setMc_portB (s : State) (x : ModeController) : (s.setMc x).portB = s.portB := by cases s; rfl
@[simp] theorem State.setMc_pending (s : State) (x : ModeController) : (s.setMc x).pending = s.pending := by cases s; rfl
@[simp] theorem State.setMc_self (s : State) : s.setMc s.mc = s := by cases s; rfl
@[simp] theorem State.setMc_setMc (s : State) (x y : ModeController) : (s.setMc x).setMc y = s.setMc y := by cases s; rfl
@[simp] theorem State.setMc_domain (s : State) (x : ModeController) (d : DomainId) : (s.setMc x).domain d = s.domain d := by cases s; rfl
@[simp] theorem State.setMc_share (s : State) (x : ModeController) (i : ShareIx) : (s.setMc x).share i = s.share i := by cases s; rfl
@[simp] theorem State.setMc_cmd (s : State) (x : ModeController) (t : Ticket) : (s.setMc x).cmd t = s.cmd t := by cases s; rfl
@[simp] theorem State.setMc_currentCmd (s : State) (x : ModeController) : (s.setMc x).currentCmd = s.currentCmd := by cases s; rfl
@[simp] theorem State.setMc_frame (s : State) (x : ModeController) : (s.setMc x).frame = s.frame := by cases s; rfl
@[simp] theorem State.setMc_port (s : State) (x : ModeController) (p : Port) : (s.setMc x).port p = s.port p := by cases p <;> cases s <;> rfl

/-! ### setCp -/

@[simp] theorem State.setCp_dram (s : State) (x : ControlPort) : (s.setCp x).dram = s.dram := by cases s; rfl
@[simp] theorem State.setCp_tc (s : State) (x : ControlPort) : (s.setCp x).tc = s.tc := by cases s; rfl
@[simp] theorem State.setCp_domains (s : State) (x : ControlPort) : (s.setCp x).domains = s.domains := by cases s; rfl
@[simp] theorem State.setCp_shares (s : State) (x : ControlPort) : (s.setCp x).shares = s.shares := by cases s; rfl
@[simp] theorem State.setCp_te (s : State) (x : ControlPort) : (s.setCp x).te = s.te := by cases s; rfl
@[simp] theorem State.setCp_su (s : State) (x : ControlPort) : (s.setCp x).su = s.su := by cases s; rfl
@[simp] theorem State.setCp_vl (s : State) (x : ControlPort) : (s.setCp x).vl = s.vl := by cases s; rfl
@[simp] theorem State.setCp_eu (s : State) (x : ControlPort) : (s.setCp x).eu = s.eu := by cases s; rfl
@[simp] theorem State.setCp_mc (s : State) (x : ControlPort) : (s.setCp x).mc = s.mc := by cases s; rfl
@[simp] theorem State.setCp_cp (s : State) (x : ControlPort) : (s.setCp x).cp = x := by cases s; rfl
@[simp] theorem State.setCp_portA (s : State) (x : ControlPort) : (s.setCp x).portA = s.portA := by cases s; rfl
@[simp] theorem State.setCp_portB (s : State) (x : ControlPort) : (s.setCp x).portB = s.portB := by cases s; rfl
@[simp] theorem State.setCp_pending (s : State) (x : ControlPort) : (s.setCp x).pending = s.pending := by cases s; rfl
@[simp] theorem State.setCp_self (s : State) : s.setCp s.cp = s := by cases s; rfl
@[simp] theorem State.setCp_setCp (s : State) (x y : ControlPort) : (s.setCp x).setCp y = s.setCp y := by cases s; rfl
@[simp] theorem State.setCp_domain (s : State) (x : ControlPort) (d : DomainId) : (s.setCp x).domain d = s.domain d := by cases s; rfl
@[simp] theorem State.setCp_share (s : State) (x : ControlPort) (i : ShareIx) : (s.setCp x).share i = s.share i := by cases s; rfl
@[simp] theorem State.setCp_cmd (s : State) (x : ControlPort) (t : Ticket) : (s.setCp x).cmd t = s.cmd t := by cases s; rfl
@[simp] theorem State.setCp_currentCmd (s : State) (x : ControlPort) : (s.setCp x).currentCmd = s.currentCmd := by cases s; rfl
@[simp] theorem State.setCp_tenants (s : State) (x : ControlPort) : (s.setCp x).tenants = s.tenants := by cases s; rfl
@[simp] theorem State.setCp_held (s : State) (x : ControlPort) : (s.setCp x).held = s.held := by cases s; rfl
@[simp] theorem State.setCp_walk (s : State) (x : ControlPort) : (s.setCp x).walk = s.walk := by cases s; rfl
@[simp] theorem State.setCp_port (s : State) (x : ControlPort) (p : Port) : (s.setCp x).port p = s.port p := by cases p <;> cases s <;> rfl

/-! ### setPortA -/

@[simp] theorem State.setPortA_dram (s : State) (x : PortRec) : (s.setPortA x).dram = s.dram := by cases s; rfl
@[simp] theorem State.setPortA_tc (s : State) (x : PortRec) : (s.setPortA x).tc = s.tc := by cases s; rfl
@[simp] theorem State.setPortA_domains (s : State) (x : PortRec) : (s.setPortA x).domains = s.domains := by cases s; rfl
@[simp] theorem State.setPortA_shares (s : State) (x : PortRec) : (s.setPortA x).shares = s.shares := by cases s; rfl
@[simp] theorem State.setPortA_te (s : State) (x : PortRec) : (s.setPortA x).te = s.te := by cases s; rfl
@[simp] theorem State.setPortA_su (s : State) (x : PortRec) : (s.setPortA x).su = s.su := by cases s; rfl
@[simp] theorem State.setPortA_vl (s : State) (x : PortRec) : (s.setPortA x).vl = s.vl := by cases s; rfl
@[simp] theorem State.setPortA_eu (s : State) (x : PortRec) : (s.setPortA x).eu = s.eu := by cases s; rfl
@[simp] theorem State.setPortA_mc (s : State) (x : PortRec) : (s.setPortA x).mc = s.mc := by cases s; rfl
@[simp] theorem State.setPortA_cp (s : State) (x : PortRec) : (s.setPortA x).cp = s.cp := by cases s; rfl
@[simp] theorem State.setPortA_portA (s : State) (x : PortRec) : (s.setPortA x).portA = x := by cases s; rfl
@[simp] theorem State.setPortA_portB (s : State) (x : PortRec) : (s.setPortA x).portB = s.portB := by cases s; rfl
@[simp] theorem State.setPortA_pending (s : State) (x : PortRec) : (s.setPortA x).pending = s.pending := by cases s; rfl
@[simp] theorem State.setPortA_self (s : State) : s.setPortA s.portA = s := by cases s; rfl
@[simp] theorem State.setPortA_setPortA (s : State) (x y : PortRec) : (s.setPortA x).setPortA y = s.setPortA y := by cases s; rfl
@[simp] theorem State.setPortA_domain (s : State) (x : PortRec) (d : DomainId) : (s.setPortA x).domain d = s.domain d := by cases s; rfl
@[simp] theorem State.setPortA_share (s : State) (x : PortRec) (i : ShareIx) : (s.setPortA x).share i = s.share i := by cases s; rfl
@[simp] theorem State.setPortA_cmd (s : State) (x : PortRec) (t : Ticket) : (s.setPortA x).cmd t = s.cmd t := by cases s; rfl
@[simp] theorem State.setPortA_currentCmd (s : State) (x : PortRec) : (s.setPortA x).currentCmd = s.currentCmd := by cases s; rfl
@[simp] theorem State.setPortA_tenants (s : State) (x : PortRec) : (s.setPortA x).tenants = s.tenants := by cases s; rfl
@[simp] theorem State.setPortA_held (s : State) (x : PortRec) : (s.setPortA x).held = s.held := by cases s; rfl
@[simp] theorem State.setPortA_walk (s : State) (x : PortRec) : (s.setPortA x).walk = s.walk := by cases s; rfl
@[simp] theorem State.setPortA_frame (s : State) (x : PortRec) : (s.setPortA x).frame = s.frame := by cases s; rfl

/-! ### setPortB -/

@[simp] theorem State.setPortB_dram (s : State) (x : PortRec) : (s.setPortB x).dram = s.dram := by cases s; rfl
@[simp] theorem State.setPortB_tc (s : State) (x : PortRec) : (s.setPortB x).tc = s.tc := by cases s; rfl
@[simp] theorem State.setPortB_domains (s : State) (x : PortRec) : (s.setPortB x).domains = s.domains := by cases s; rfl
@[simp] theorem State.setPortB_shares (s : State) (x : PortRec) : (s.setPortB x).shares = s.shares := by cases s; rfl
@[simp] theorem State.setPortB_te (s : State) (x : PortRec) : (s.setPortB x).te = s.te := by cases s; rfl
@[simp] theorem State.setPortB_su (s : State) (x : PortRec) : (s.setPortB x).su = s.su := by cases s; rfl
@[simp] theorem State.setPortB_vl (s : State) (x : PortRec) : (s.setPortB x).vl = s.vl := by cases s; rfl
@[simp] theorem State.setPortB_eu (s : State) (x : PortRec) : (s.setPortB x).eu = s.eu := by cases s; rfl
@[simp] theorem State.setPortB_mc (s : State) (x : PortRec) : (s.setPortB x).mc = s.mc := by cases s; rfl
@[simp] theorem State.setPortB_cp (s : State) (x : PortRec) : (s.setPortB x).cp = s.cp := by cases s; rfl
@[simp] theorem State.setPortB_portA (s : State) (x : PortRec) : (s.setPortB x).portA = s.portA := by cases s; rfl
@[simp] theorem State.setPortB_portB (s : State) (x : PortRec) : (s.setPortB x).portB = x := by cases s; rfl
@[simp] theorem State.setPortB_pending (s : State) (x : PortRec) : (s.setPortB x).pending = s.pending := by cases s; rfl
@[simp] theorem State.setPortB_self (s : State) : s.setPortB s.portB = s := by cases s; rfl
@[simp] theorem State.setPortB_setPortB (s : State) (x y : PortRec) : (s.setPortB x).setPortB y = s.setPortB y := by cases s; rfl
@[simp] theorem State.setPortB_domain (s : State) (x : PortRec) (d : DomainId) : (s.setPortB x).domain d = s.domain d := by cases s; rfl
@[simp] theorem State.setPortB_share (s : State) (x : PortRec) (i : ShareIx) : (s.setPortB x).share i = s.share i := by cases s; rfl
@[simp] theorem State.setPortB_cmd (s : State) (x : PortRec) (t : Ticket) : (s.setPortB x).cmd t = s.cmd t := by cases s; rfl
@[simp] theorem State.setPortB_currentCmd (s : State) (x : PortRec) : (s.setPortB x).currentCmd = s.currentCmd := by cases s; rfl
@[simp] theorem State.setPortB_tenants (s : State) (x : PortRec) : (s.setPortB x).tenants = s.tenants := by cases s; rfl
@[simp] theorem State.setPortB_held (s : State) (x : PortRec) : (s.setPortB x).held = s.held := by cases s; rfl
@[simp] theorem State.setPortB_walk (s : State) (x : PortRec) : (s.setPortB x).walk = s.walk := by cases s; rfl
@[simp] theorem State.setPortB_frame (s : State) (x : PortRec) : (s.setPortB x).frame = s.frame := by cases s; rfl

/-! ### setPending -/

@[simp] theorem State.setPending_dram (s : State) (x : List Instr) : (s.setPending x).dram = s.dram := by cases s; rfl
@[simp] theorem State.setPending_tc (s : State) (x : List Instr) : (s.setPending x).tc = s.tc := by cases s; rfl
@[simp] theorem State.setPending_domains (s : State) (x : List Instr) : (s.setPending x).domains = s.domains := by cases s; rfl
@[simp] theorem State.setPending_shares (s : State) (x : List Instr) : (s.setPending x).shares = s.shares := by cases s; rfl
@[simp] theorem State.setPending_te (s : State) (x : List Instr) : (s.setPending x).te = s.te := by cases s; rfl
@[simp] theorem State.setPending_su (s : State) (x : List Instr) : (s.setPending x).su = s.su := by cases s; rfl
@[simp] theorem State.setPending_vl (s : State) (x : List Instr) : (s.setPending x).vl = s.vl := by cases s; rfl
@[simp] theorem State.setPending_eu (s : State) (x : List Instr) : (s.setPending x).eu = s.eu := by cases s; rfl
@[simp] theorem State.setPending_mc (s : State) (x : List Instr) : (s.setPending x).mc = s.mc := by cases s; rfl
@[simp] theorem State.setPending_cp (s : State) (x : List Instr) : (s.setPending x).cp = s.cp := by cases s; rfl
@[simp] theorem State.setPending_portA (s : State) (x : List Instr) : (s.setPending x).portA = s.portA := by cases s; rfl
@[simp] theorem State.setPending_portB (s : State) (x : List Instr) : (s.setPending x).portB = s.portB := by cases s; rfl
@[simp] theorem State.setPending_pending (s : State) (x : List Instr) : (s.setPending x).pending = x := by cases s; rfl
@[simp] theorem State.setPending_self (s : State) : s.setPending s.pending = s := by cases s; rfl
@[simp] theorem State.setPending_setPending (s : State) (x y : List Instr) : (s.setPending x).setPending y = s.setPending y := by cases s; rfl
@[simp] theorem State.setPending_domain (s : State) (x : List Instr) (d : DomainId) : (s.setPending x).domain d = s.domain d := by cases s; rfl
@[simp] theorem State.setPending_share (s : State) (x : List Instr) (i : ShareIx) : (s.setPending x).share i = s.share i := by cases s; rfl
@[simp] theorem State.setPending_cmd (s : State) (x : List Instr) (t : Ticket) : (s.setPending x).cmd t = s.cmd t := by cases s; rfl
@[simp] theorem State.setPending_currentCmd (s : State) (x : List Instr) : (s.setPending x).currentCmd = s.currentCmd := by cases s; rfl
@[simp] theorem State.setPending_tenants (s : State) (x : List Instr) : (s.setPending x).tenants = s.tenants := by cases s; rfl
@[simp] theorem State.setPending_held (s : State) (x : List Instr) : (s.setPending x).held = s.held := by cases s; rfl
@[simp] theorem State.setPending_walk (s : State) (x : List Instr) : (s.setPending x).walk = s.walk := by cases s; rfl
@[simp] theorem State.setPending_frame (s : State) (x : List Instr) : (s.setPending x).frame = s.frame := by cases s; rfl
@[simp] theorem State.setPending_port (s : State) (x : List Instr) (p : Port) : (s.setPending x).port p = s.port p := by cases p <;> cases s <;> rfl

/-! ### The ports -/

@[simp] theorem State.setPort_dram (s : State) (p : Port) (x : PortRec) : (s.setPort p x).dram = s.dram := by cases p <;> cases s <;> rfl
@[simp] theorem State.setPort_tc (s : State) (p : Port) (x : PortRec) : (s.setPort p x).tc = s.tc := by cases p <;> cases s <;> rfl
@[simp] theorem State.setPort_domains (s : State) (p : Port) (x : PortRec) : (s.setPort p x).domains = s.domains := by cases p <;> cases s <;> rfl
@[simp] theorem State.setPort_shares (s : State) (p : Port) (x : PortRec) : (s.setPort p x).shares = s.shares := by cases p <;> cases s <;> rfl
@[simp] theorem State.setPort_te (s : State) (p : Port) (x : PortRec) : (s.setPort p x).te = s.te := by cases p <;> cases s <;> rfl
@[simp] theorem State.setPort_su (s : State) (p : Port) (x : PortRec) : (s.setPort p x).su = s.su := by cases p <;> cases s <;> rfl
@[simp] theorem State.setPort_vl (s : State) (p : Port) (x : PortRec) : (s.setPort p x).vl = s.vl := by cases p <;> cases s <;> rfl
@[simp] theorem State.setPort_eu (s : State) (p : Port) (x : PortRec) : (s.setPort p x).eu = s.eu := by cases p <;> cases s <;> rfl
@[simp] theorem State.setPort_mc (s : State) (p : Port) (x : PortRec) : (s.setPort p x).mc = s.mc := by cases p <;> cases s <;> rfl
@[simp] theorem State.setPort_cp (s : State) (p : Port) (x : PortRec) : (s.setPort p x).cp = s.cp := by cases p <;> cases s <;> rfl
@[simp] theorem State.setPort_pending (s : State) (p : Port) (x : PortRec) : (s.setPort p x).pending = s.pending := by cases p <;> cases s <;> rfl
@[simp] theorem State.setPort_domain (s : State) (p : Port) (x : PortRec) (d : DomainId) : (s.setPort p x).domain d = s.domain d := by cases p <;> cases s <;> rfl
@[simp] theorem State.setPort_share (s : State) (p : Port) (x : PortRec) (i : ShareIx) : (s.setPort p x).share i = s.share i := by cases p <;> cases s <;> rfl
@[simp] theorem State.setPort_cmd (s : State) (p : Port) (x : PortRec) (t : Ticket) : (s.setPort p x).cmd t = s.cmd t := by cases p <;> cases s <;> rfl
@[simp] theorem State.setPort_tenants (s : State) (p : Port) (x : PortRec) : (s.setPort p x).tenants = s.tenants := by cases p <;> cases s <;> rfl
@[simp] theorem State.setPort_held (s : State) (p : Port) (x : PortRec) : (s.setPort p x).held = s.held := by cases p <;> cases s <;> rfl
@[simp] theorem State.setPort_frame (s : State) (p : Port) (x : PortRec) : (s.setPort p x).frame = s.frame := by cases p <;> cases s <;> rfl
@[simp] theorem State.setPort_walk (s : State) (p : Port) (x : PortRec) : (s.setPort p x).walk = s.walk := by cases p <;> cases s <;> rfl
@[simp] theorem State.setPort_currentCmd (s : State) (p : Port) (x : PortRec) : (s.setPort p x).currentCmd = s.currentCmd := by cases p <;> cases s <;> rfl
@[simp] theorem State.setPort_port (s : State) (p : Port) (x : PortRec) : (s.setPort p x).port p = x := by cases p <;> cases s <;> rfl
theorem State.setPort_port_ne (s : State) {p q : Port} (h : q ≠ p) (x : PortRec) : (s.setPort p x).port q = s.port q := by
  cases p <;> cases q <;> first | (cases s; rfl) | exact absurd rfl h
@[simp] theorem State.port_a (s : State) : s.port .a = s.portA := rfl
@[simp] theorem State.port_b (s : State) : s.port .b = s.portB := rfl
@[simp] theorem State.updatePort_dram (s : State) (p : Port) (f : PortRec → PortRec) : (s.updatePort p f).dram = s.dram := by cases p <;> cases s <;> rfl
@[simp] theorem State.updatePort_tc (s : State) (p : Port) (f : PortRec → PortRec) : (s.updatePort p f).tc = s.tc := by cases p <;> cases s <;> rfl
@[simp] theorem State.updatePort_domains (s : State) (p : Port) (f : PortRec → PortRec) : (s.updatePort p f).domains = s.domains := by cases p <;> cases s <;> rfl
@[simp] theorem State.updatePort_shares (s : State) (p : Port) (f : PortRec → PortRec) : (s.updatePort p f).shares = s.shares := by cases p <;> cases s <;> rfl
@[simp] theorem State.updatePort_te (s : State) (p : Port) (f : PortRec → PortRec) : (s.updatePort p f).te = s.te := by cases p <;> cases s <;> rfl
@[simp] theorem State.updatePort_su (s : State) (p : Port) (f : PortRec → PortRec) : (s.updatePort p f).su = s.su := by cases p <;> cases s <;> rfl
@[simp] theorem State.updatePort_vl (s : State) (p : Port) (f : PortRec → PortRec) : (s.updatePort p f).vl = s.vl := by cases p <;> cases s <;> rfl
@[simp] theorem State.updatePort_eu (s : State) (p : Port) (f : PortRec → PortRec) : (s.updatePort p f).eu = s.eu := by cases p <;> cases s <;> rfl
@[simp] theorem State.updatePort_mc (s : State) (p : Port) (f : PortRec → PortRec) : (s.updatePort p f).mc = s.mc := by cases p <;> cases s <;> rfl
@[simp] theorem State.updatePort_cp (s : State) (p : Port) (f : PortRec → PortRec) : (s.updatePort p f).cp = s.cp := by cases p <;> cases s <;> rfl
@[simp] theorem State.updatePort_pending (s : State) (p : Port) (f : PortRec → PortRec) : (s.updatePort p f).pending = s.pending := by cases p <;> cases s <;> rfl
@[simp] theorem State.updatePort_port (s : State) (p : Port) (f : PortRec → PortRec) : (s.updatePort p f).port p = f (s.port p) := by cases p <;> cases s <;> rfl
theorem State.updatePort_port_ne (s : State) {p q : Port} (h : q ≠ p) (f : PortRec → PortRec) :
    (s.updatePort p f).port q = s.port q := State.setPort_port_ne s h _

end Sys2Proof.Machine
end

