-- ==== Sys2Proof/Laws/Frames.lean ====
section
/-! SUPPORT. What the table, outbound, cache and request operations leave as it was.

There is one lemma for each operation, which names the parts of the state that it does not touch. A part that a lemma
does not name may change. -/

set_option linter.unusedTactic false
set_option linter.unreachableTactic false
set_option linter.unusedSimpArgs false
set_option linter.unnecessarySeqFocus false

namespace Sys2Proof.Machine

@[simp] theorem foldl_dram {β : Type} (l : List β) (s : State) (f : State → β → State) (h : ∀ s b, (f s b).dram = s.dram) :
    (l.foldl f s).dram = s.dram := by
  induction l generalizing s with
  | nil => rfl
  | cons b l ih => simp only [List.foldl_cons, ih, h]
@[simp] theorem foldl_dram_mem {β : Type} (l : List β) (s : State) (f : State → β → State) (h : ∀ s b, (f s b).dram.mem = s.dram.mem) :
    (l.foldl f s).dram.mem = s.dram.mem := by
  induction l generalizing s with
  | nil => rfl
  | cons b l ih => simp only [List.foldl_cons, ih, h]
@[simp] theorem foldl_dram_badUnits {β : Type} (l : List β) (s : State) (f : State → β → State) (h : ∀ s b, (f s b).dram.badUnits = s.dram.badUnits) :
    (l.foldl f s).dram.badUnits = s.dram.badUnits := by
  induction l generalizing s with
  | nil => rfl
  | cons b l ih => simp only [List.foldl_cons, ih, h]
@[simp] theorem foldl_dram_damageCount {β : Type} (l : List β) (s : State) (f : State → β → State) (h : ∀ s b, (f s b).dram.damageCount = s.dram.damageCount) :
    (l.foldl f s).dram.damageCount = s.dram.damageCount := by
  induction l generalizing s with
  | nil => rfl
  | cons b l ih => simp only [List.foldl_cons, ih, h]
@[simp] theorem foldl_tc {β : Type} (l : List β) (s : State) (f : State → β → State) (h : ∀ s b, (f s b).tc = s.tc) :
    (l.foldl f s).tc = s.tc := by
  induction l generalizing s with
  | nil => rfl
  | cons b l ih => simp only [List.foldl_cons, ih, h]
@[simp] theorem foldl_tc_fills {β : Type} (l : List β) (s : State) (f : State → β → State) (h : ∀ s b, (f s b).tc.fills = s.tc.fills) :
    (l.foldl f s).tc.fills = s.tc.fills := by
  induction l generalizing s with
  | nil => rfl
  | cons b l ih => simp only [List.foldl_cons, ih, h]
@[simp] theorem foldl_domains {β : Type} (l : List β) (s : State) (f : State → β → State) (h : ∀ s b, (f s b).domains = s.domains) :
    (l.foldl f s).domains = s.domains := by
  induction l generalizing s with
  | nil => rfl
  | cons b l ih => simp only [List.foldl_cons, ih, h]
@[simp] theorem foldl_shares {β : Type} (l : List β) (s : State) (f : State → β → State) (h : ∀ s b, (f s b).shares = s.shares) :
    (l.foldl f s).shares = s.shares := by
  induction l generalizing s with
  | nil => rfl
  | cons b l ih => simp only [List.foldl_cons, ih, h]
@[simp] theorem foldl_te {β : Type} (l : List β) (s : State) (f : State → β → State) (h : ∀ s b, (f s b).te = s.te) :
    (l.foldl f s).te = s.te := by
  induction l generalizing s with
  | nil => rfl
  | cons b l ih => simp only [List.foldl_cons, ih, h]
@[simp] theorem foldl_te_table {β : Type} (l : List β) (s : State) (f : State → β → State) (h : ∀ s b, (f s b).te.table = s.te.table) :
    (l.foldl f s).te.table = s.te.table := by
  induction l generalizing s with
  | nil => rfl
  | cons b l ih => simp only [List.foldl_cons, ih, h]
@[simp] theorem foldl_su {β : Type} (l : List β) (s : State) (f : State → β → State) (h : ∀ s b, (f s b).su = s.su) :
    (l.foldl f s).su = s.su := by
  induction l generalizing s with
  | nil => rfl
  | cons b l ih => simp only [List.foldl_cons, ih, h]
@[simp] theorem foldl_su_write {β : Type} (l : List β) (s : State) (f : State → β → State) (h : ∀ s b, (f s b).su.write = s.su.write) :
    (l.foldl f s).su.write = s.su.write := by
  induction l generalizing s with
  | nil => rfl
  | cons b l ih => simp only [List.foldl_cons, ih, h]
@[simp] theorem foldl_vl {β : Type} (l : List β) (s : State) (f : State → β → State) (h : ∀ s b, (f s b).vl = s.vl) :
    (l.foldl f s).vl = s.vl := by
  induction l generalizing s with
  | nil => rfl
  | cons b l ih => simp only [List.foldl_cons, ih, h]
@[simp] theorem foldl_eu {β : Type} (l : List β) (s : State) (f : State → β → State) (h : ∀ s b, (f s b).eu = s.eu) :
    (l.foldl f s).eu = s.eu := by
  induction l generalizing s with
  | nil => rfl
  | cons b l ih => simp only [List.foldl_cons, ih, h]
@[simp] theorem foldl_mc {β : Type} (l : List β) (s : State) (f : State → β → State) (h : ∀ s b, (f s b).mc = s.mc) :
    (l.foldl f s).mc = s.mc := by
  induction l generalizing s with
  | nil => rfl
  | cons b l ih => simp only [List.foldl_cons, ih, h]
@[simp] theorem foldl_mc_mode {β : Type} (l : List β) (s : State) (f : State → β → State) (h : ∀ s b, (f s b).mc.mode = s.mc.mode) :
    (l.foldl f s).mc.mode = s.mc.mode := by
  induction l generalizing s with
  | nil => rfl
  | cons b l ih => simp only [List.foldl_cons, ih, h]
@[simp] theorem foldl_mc_poolCode {β : Type} (l : List β) (s : State) (f : State → β → State) (h : ∀ s b, (f s b).mc.poolCode = s.mc.poolCode) :
    (l.foldl f s).mc.poolCode = s.mc.poolCode := by
  induction l generalizing s with
  | nil => rfl
  | cons b l ih => simp only [List.foldl_cons, ih, h]
@[simp] theorem foldl_mc_inReset {β : Type} (l : List β) (s : State) (f : State → β → State) (h : ∀ s b, (f s b).mc.inReset = s.mc.inReset) :
    (l.foldl f s).mc.inReset = s.mc.inReset := by
  induction l generalizing s with
  | nil => rfl
  | cons b l ih => simp only [List.foldl_cons, ih, h]
@[simp] theorem foldl_mc_resetLow {β : Type} (l : List β) (s : State) (f : State → β → State) (h : ∀ s b, (f s b).mc.resetLow = s.mc.resetLow) :
    (l.foldl f s).mc.resetLow = s.mc.resetLow := by
  induction l generalizing s with
  | nil => rfl
  | cons b l ih => simp only [List.foldl_cons, ih, h]
@[simp] theorem foldl_mc_storeState {β : Type} (l : List β) (s : State) (f : State → β → State) (h : ∀ s b, (f s b).mc.storeState = s.mc.storeState) :
    (l.foldl f s).mc.storeState = s.mc.storeState := by
  induction l generalizing s with
  | nil => rfl
  | cons b l ih => simp only [List.foldl_cons, ih, h]
@[simp] theorem foldl_mc_timestamp {β : Type} (l : List β) (s : State) (f : State → β → State) (h : ∀ s b, (f s b).mc.timestamp = s.mc.timestamp) :
    (l.foldl f s).mc.timestamp = s.mc.timestamp := by
  induction l generalizing s with
  | nil => rfl
  | cons b l ih => simp only [List.foldl_cons, ih, h]
@[simp] theorem foldl_mc_recovery {β : Type} (l : List β) (s : State) (f : State → β → State) (h : ∀ s b, (f s b).mc.recovery = s.mc.recovery) :
    (l.foldl f s).mc.recovery = s.mc.recovery := by
  induction l generalizing s with
  | nil => rfl
  | cons b l ih => simp only [List.foldl_cons, ih, h]
@[simp] theorem foldl_cp {β : Type} (l : List β) (s : State) (f : State → β → State) (h : ∀ s b, (f s b).cp = s.cp) :
    (l.foldl f s).cp = s.cp := by
  induction l generalizing s with
  | nil => rfl
  | cons b l ih => simp only [List.foldl_cons, ih, h]
@[simp] theorem foldl_cp_receiver {β : Type} (l : List β) (s : State) (f : State → β → State) (h : ∀ s b, (f s b).cp.receiver = s.cp.receiver) :
    (l.foldl f s).cp.receiver = s.cp.receiver := by
  induction l generalizing s with
  | nil => rfl
  | cons b l ih => simp only [List.foldl_cons, ih, h]
@[simp] theorem foldl_cp_executing {β : Type} (l : List β) (s : State) (f : State → β → State) (h : ∀ s b, (f s b).cp.executing = s.cp.executing) :
    (l.foldl f s).cp.executing = s.cp.executing := by
  induction l generalizing s with
  | nil => rfl
  | cons b l ih => simp only [List.foldl_cons, ih, h]
@[simp] theorem foldl_cp_inbound {β : Type} (l : List β) (s : State) (f : State → β → State) (h : ∀ s b, (f s b).cp.inbound = s.cp.inbound) :
    (l.foldl f s).cp.inbound = s.cp.inbound := by
  induction l generalizing s with
  | nil => rfl
  | cons b l ih => simp only [List.foldl_cons, ih, h]
@[simp] theorem foldl_cp_resetWait {β : Type} (l : List β) (s : State) (f : State → β → State) (h : ∀ s b, (f s b).cp.resetWait = s.cp.resetWait) :
    (l.foldl f s).cp.resetWait = s.cp.resetWait := by
  induction l generalizing s with
  | nil => rfl
  | cons b l ih => simp only [List.foldl_cons, ih, h]
@[simp] theorem foldl_portA {β : Type} (l : List β) (s : State) (f : State → β → State) (h : ∀ s b, (f s b).portA = s.portA) :
    (l.foldl f s).portA = s.portA := by
  induction l generalizing s with
  | nil => rfl
  | cons b l ih => simp only [List.foldl_cons, ih, h]
@[simp] theorem foldl_portB {β : Type} (l : List β) (s : State) (f : State → β → State) (h : ∀ s b, (f s b).portB = s.portB) :
    (l.foldl f s).portB = s.portB := by
  induction l generalizing s with
  | nil => rfl
  | cons b l ih => simp only [List.foldl_cons, ih, h]
@[simp] theorem foldl_pending {β : Type} (l : List β) (s : State) (f : State → β → State) (h : ∀ s b, (f s b).pending = s.pending) :
    (l.foldl f s).pending = s.pending := by
  induction l generalizing s with
  | nil => rfl
  | cons b l ih => simp only [List.foldl_cons, ih, h]

@[simp] theorem State.persistDomainLine_frame (s : State) (k : Nat) :
    (s.persistDomainLine k).tc = s.tc ∧ (s.persistDomainLine k).domains = s.domains ∧
    (s.persistDomainLine k).shares = s.shares ∧ (s.persistDomainLine k).te = s.te ∧
    (s.persistDomainLine k).su = s.su ∧ (s.persistDomainLine k).vl = s.vl ∧ (s.persistDomainLine k).eu = s.eu ∧
    (s.persistDomainLine k).mc = s.mc ∧ (s.persistDomainLine k).cp = s.cp ∧
    (s.persistDomainLine k).portA = s.portA ∧ (s.persistDomainLine k).portB = s.portB ∧
    (s.persistDomainLine k).pending = s.pending := by
  and_intros <;> unfold State.persistDomainLine <;> (try dsimp only) <;> (repeat' split) <;> simp

@[simp] theorem State.persistShareLine_frame (s : State) (k : Nat) :
    (s.persistShareLine k).tc = s.tc ∧ (s.persistShareLine k).domains = s.domains ∧
    (s.persistShareLine k).shares = s.shares ∧ (s.persistShareLine k).te = s.te ∧
    (s.persistShareLine k).su = s.su ∧ (s.persistShareLine k).vl = s.vl ∧ (s.persistShareLine k).eu = s.eu ∧
    (s.persistShareLine k).mc = s.mc ∧ (s.persistShareLine k).cp = s.cp ∧ (s.persistShareLine k).portA = s.portA ∧
    (s.persistShareLine k).portB = s.portB ∧ (s.persistShareLine k).pending = s.pending := by
  and_intros <;> unfold State.persistShareLine <;> (try dsimp only) <;> (repeat' split) <;> simp

@[simp] theorem State.persistDomain_frame (s : State) (d : DomainId) :
    (s.persistDomain d).tc = s.tc ∧ (s.persistDomain d).domains = s.domains ∧
    (s.persistDomain d).shares = s.shares ∧ (s.persistDomain d).te = s.te ∧ (s.persistDomain d).su = s.su ∧
    (s.persistDomain d).vl = s.vl ∧ (s.persistDomain d).eu = s.eu ∧ (s.persistDomain d).mc = s.mc ∧
    (s.persistDomain d).cp = s.cp ∧ (s.persistDomain d).portA = s.portA ∧ (s.persistDomain d).portB = s.portB ∧
    (s.persistDomain d).pending = s.pending := by
  and_intros <;> unfold State.persistDomain <;> (try dsimp only) <;> (repeat' split) <;> simp

@[simp] theorem State.setDomain_frame (s : State) (d : DomainId) (r : DomainRec) :
    (s.setDomain d r).dram = s.dram ∧ (s.setDomain d r).tc = s.tc ∧ (s.setDomain d r).shares = s.shares ∧
    (s.setDomain d r).te = s.te ∧ (s.setDomain d r).su = s.su ∧ (s.setDomain d r).vl = s.vl ∧
    (s.setDomain d r).eu = s.eu ∧ (s.setDomain d r).mc = s.mc ∧ (s.setDomain d r).cp = s.cp ∧
    (s.setDomain d r).portA = s.portA ∧ (s.setDomain d r).portB = s.portB ∧ (s.setDomain d r).pending = s.pending := by
  and_intros <;> unfold State.setDomain <;> (try dsimp only) <;> (repeat' split) <;> simp

@[simp] theorem State.setShare_frame (s : State) (i : ShareIx) (e : ShareEntry) :
    (s.setShare i e).dram = s.dram ∧ (s.setShare i e).tc = s.tc ∧ (s.setShare i e).domains = s.domains ∧
    (s.setShare i e).te = s.te ∧ (s.setShare i e).su = s.su ∧ (s.setShare i e).vl = s.vl ∧
    (s.setShare i e).eu = s.eu ∧ (s.setShare i e).mc = s.mc ∧ (s.setShare i e).cp = s.cp ∧
    (s.setShare i e).portA = s.portA ∧ (s.setShare i e).portB = s.portB ∧ (s.setShare i e).pending = s.pending := by
  and_intros <;> unfold State.setShare <;> (try dsimp only) <;> (repeat' split) <;> simp

@[simp] theorem State.persistShare_frame (s : State) (i : ShareIx) :
    (s.persistShare i).tc = s.tc ∧ (s.persistShare i).domains = s.domains ∧ (s.persistShare i).shares = s.shares ∧
    (s.persistShare i).te = s.te ∧ (s.persistShare i).su = s.su ∧ (s.persistShare i).vl = s.vl ∧
    (s.persistShare i).eu = s.eu ∧ (s.persistShare i).mc = s.mc ∧ (s.persistShare i).cp = s.cp ∧
    (s.persistShare i).portA = s.portA ∧ (s.persistShare i).portB = s.portB ∧
    (s.persistShare i).pending = s.pending := by
  and_intros <;> unfold State.persistShare <;> (try dsimp only) <;> (repeat' split) <;> simp

@[simp] theorem State.persistHeader_frame (s : State) (c : PoolCode) (complete : Bool) :
    (s.persistHeader c complete).tc = s.tc ∧ (s.persistHeader c complete).domains = s.domains ∧
    (s.persistHeader c complete).shares = s.shares ∧ (s.persistHeader c complete).te = s.te ∧
    (s.persistHeader c complete).su = s.su ∧ (s.persistHeader c complete).vl = s.vl ∧
    (s.persistHeader c complete).eu = s.eu ∧ (s.persistHeader c complete).mc = s.mc ∧
    (s.persistHeader c complete).cp = s.cp ∧ (s.persistHeader c complete).portA = s.portA ∧
    (s.persistHeader c complete).portB = s.portB ∧ (s.persistHeader c complete).pending = s.pending := by
  and_intros <;> unfold State.persistHeader <;> (try dsimp only) <;> (repeat' split) <;> simp

@[simp] theorem State.writeDomain_frame (s : State) (d : DomainId) (r : DomainRec) :
    (s.writeDomain d r).tc = s.tc ∧ (s.writeDomain d r).shares = s.shares ∧ (s.writeDomain d r).te = s.te ∧
    (s.writeDomain d r).su = s.su ∧ (s.writeDomain d r).vl = s.vl ∧ (s.writeDomain d r).eu = s.eu ∧
    (s.writeDomain d r).mc = s.mc ∧ (s.writeDomain d r).cp = s.cp ∧ (s.writeDomain d r).portA = s.portA ∧
    (s.writeDomain d r).portB = s.portB ∧ (s.writeDomain d r).pending = s.pending := by
  and_intros <;> unfold State.writeDomain <;> (try dsimp only) <;> (repeat' split) <;> simp

@[simp] theorem State.writeShare_frame (s : State) (i : ShareIx) (e : ShareEntry) :
    (s.writeShare i e).tc = s.tc ∧ (s.writeShare i e).domains = s.domains ∧ (s.writeShare i e).te = s.te ∧
    (s.writeShare i e).su = s.su ∧ (s.writeShare i e).vl = s.vl ∧ (s.writeShare i e).eu = s.eu ∧
    (s.writeShare i e).mc = s.mc ∧ (s.writeShare i e).cp = s.cp ∧ (s.writeShare i e).portA = s.portA ∧
    (s.writeShare i e).portB = s.portB ∧ (s.writeShare i e).pending = s.pending := by
  and_intros <;> unfold State.writeShare <;> (try dsimp only) <;> (repeat' split) <;> simp

@[simp] theorem State.freeShares_tc (s : State) (d : DomainId) : (State.freeShares s d).tc = s.tc := by
  unfold State.freeShares
  first | ((try dsimp only); (repeat' split) <;> simp; done) | ((try dsimp only); split <;> (try split) <;> (try split) <;> simp; done) | ((try dsimp only); split <;> (try split) <;> simp <;> intros <;> (repeat' split) <;> simp; done) | (refine foldl_tc _ _ _ ?_; intros; (try dsimp only); (repeat' split) <;> simp)
@[simp] theorem State.freeShares_domains (s : State) (d : DomainId) : (State.freeShares s d).domains = s.domains := by
  unfold State.freeShares
  first | ((try dsimp only); (repeat' split) <;> simp; done) | ((try dsimp only); split <;> (try split) <;> (try split) <;> simp; done) | ((try dsimp only); split <;> (try split) <;> simp <;> intros <;> (repeat' split) <;> simp; done) | (refine foldl_domains _ _ _ ?_; intros; (try dsimp only); (repeat' split) <;> simp)
@[simp] theorem State.freeShares_te (s : State) (d : DomainId) : (State.freeShares s d).te = s.te := by
  unfold State.freeShares
  first | ((try dsimp only); (repeat' split) <;> simp; done) | ((try dsimp only); split <;> (try split) <;> (try split) <;> simp; done) | ((try dsimp only); split <;> (try split) <;> simp <;> intros <;> (repeat' split) <;> simp; done) | (refine foldl_te _ _ _ ?_; intros; (try dsimp only); (repeat' split) <;> simp)
@[simp] theorem State.freeShares_su (s : State) (d : DomainId) : (State.freeShares s d).su = s.su := by
  unfold State.freeShares
  first | ((try dsimp only); (repeat' split) <;> simp; done) | ((try dsimp only); split <;> (try split) <;> (try split) <;> simp; done) | ((try dsimp only); split <;> (try split) <;> simp <;> intros <;> (repeat' split) <;> simp; done) | (refine foldl_su _ _ _ ?_; intros; (try dsimp only); (repeat' split) <;> simp)
@[simp] theorem State.freeShares_vl (s : State) (d : DomainId) : (State.freeShares s d).vl = s.vl := by
  unfold State.freeShares
  first | ((try dsimp only); (repeat' split) <;> simp; done) | ((try dsimp only); split <;> (try split) <;> (try split) <;> simp; done) | ((try dsimp only); split <;> (try split) <;> simp <;> intros <;> (repeat' split) <;> simp; done) | (refine foldl_vl _ _ _ ?_; intros; (try dsimp only); (repeat' split) <;> simp)
@[simp] theorem State.freeShares_eu (s : State) (d : DomainId) : (State.freeShares s d).eu = s.eu := by
  unfold State.freeShares
  first | ((try dsimp only); (repeat' split) <;> simp; done) | ((try dsimp only); split <;> (try split) <;> (try split) <;> simp; done) | ((try dsimp only); split <;> (try split) <;> simp <;> intros <;> (repeat' split) <;> simp; done) | (refine foldl_eu _ _ _ ?_; intros; (try dsimp only); (repeat' split) <;> simp)
@[simp] theorem State.freeShares_mc (s : State) (d : DomainId) : (State.freeShares s d).mc = s.mc := by
  unfold State.freeShares
  first | ((try dsimp only); (repeat' split) <;> simp; done) | ((try dsimp only); split <;> (try split) <;> (try split) <;> simp; done) | ((try dsimp only); split <;> (try split) <;> simp <;> intros <;> (repeat' split) <;> simp; done) | (refine foldl_mc _ _ _ ?_; intros; (try dsimp only); (repeat' split) <;> simp)
@[simp] theorem State.freeShares_cp (s : State) (d : DomainId) : (State.freeShares s d).cp = s.cp := by
  unfold State.freeShares
  first | ((try dsimp only); (repeat' split) <;> simp; done) | ((try dsimp only); split <;> (try split) <;> (try split) <;> simp; done) | ((try dsimp only); split <;> (try split) <;> simp <;> intros <;> (repeat' split) <;> simp; done) | (refine foldl_cp _ _ _ ?_; intros; (try dsimp only); (repeat' split) <;> simp)
@[simp] theorem State.freeShares_portA (s : State) (d : DomainId) : (State.freeShares s d).portA = s.portA := by
  unfold State.freeShares
  first | ((try dsimp only); (repeat' split) <;> simp; done) | ((try dsimp only); split <;> (try split) <;> (try split) <;> simp; done) | ((try dsimp only); split <;> (try split) <;> simp <;> intros <;> (repeat' split) <;> simp; done) | (refine foldl_portA _ _ _ ?_; intros; (try dsimp only); (repeat' split) <;> simp)
@[simp] theorem State.freeShares_portB (s : State) (d : DomainId) : (State.freeShares s d).portB = s.portB := by
  unfold State.freeShares
  first | ((try dsimp only); (repeat' split) <;> simp; done) | ((try dsimp only); split <;> (try split) <;> (try split) <;> simp; done) | ((try dsimp only); split <;> (try split) <;> simp <;> intros <;> (repeat' split) <;> simp; done) | (refine foldl_portB _ _ _ ?_; intros; (try dsimp only); (repeat' split) <;> simp)
@[simp] theorem State.freeShares_pending (s : State) (d : DomainId) : (State.freeShares s d).pending = s.pending := by
  unfold State.freeShares
  first | ((try dsimp only); (repeat' split) <;> simp; done) | ((try dsimp only); split <;> (try split) <;> (try split) <;> simp; done) | ((try dsimp only); split <;> (try split) <;> simp <;> intros <;> (repeat' split) <;> simp; done) | (refine foldl_pending _ _ _ ?_; intros; (try dsimp only); (repeat' split) <;> simp)

@[simp] theorem State.updateCmd_frame (s : State) (t : Ticket) (f : Cmd → Cmd) :
    (s.updateCmd t f).dram = s.dram ∧ (s.updateCmd t f).tc = s.tc ∧ (s.updateCmd t f).domains = s.domains ∧
    (s.updateCmd t f).shares = s.shares ∧ (s.updateCmd t f).su = s.su ∧ (s.updateCmd t f).vl = s.vl ∧
    (s.updateCmd t f).eu = s.eu ∧ (s.updateCmd t f).mc = s.mc ∧ (s.updateCmd t f).cp = s.cp ∧
    (s.updateCmd t f).portA = s.portA ∧ (s.updateCmd t f).portB = s.portB ∧ (s.updateCmd t f).pending = s.pending := by
  and_intros <;> unfold State.updateCmd <;> (try dsimp only) <;> (repeat' split) <;> simp

@[simp] theorem State.freeSlot_frame (s : State) (t : Ticket) :
    (s.freeSlot t).dram = s.dram ∧ (s.freeSlot t).tc = s.tc ∧ (s.freeSlot t).domains = s.domains ∧
    (s.freeSlot t).shares = s.shares ∧ (s.freeSlot t).su = s.su ∧ (s.freeSlot t).vl = s.vl ∧
    (s.freeSlot t).eu = s.eu ∧ (s.freeSlot t).mc = s.mc ∧ (s.freeSlot t).cp = s.cp ∧
    (s.freeSlot t).portA = s.portA ∧ (s.freeSlot t).portB = s.portB ∧ (s.freeSlot t).pending = s.pending := by
  and_intros <;> unfold State.freeSlot <;> (try dsimp only) <;> (repeat' split) <;> simp

@[simp] theorem State.updateWork_frame (s : State) (f : Work → Work) :
    (s.updateWork f).dram = s.dram ∧ (s.updateWork f).tc = s.tc ∧ (s.updateWork f).domains = s.domains ∧
    (s.updateWork f).shares = s.shares ∧ (s.updateWork f).te.table = s.te.table ∧ (s.updateWork f).su = s.su ∧
    (s.updateWork f).vl = s.vl ∧ (s.updateWork f).eu = s.eu ∧ (s.updateWork f).mc = s.mc ∧
    (s.updateWork f).cp = s.cp ∧ (s.updateWork f).portA = s.portA ∧ (s.updateWork f).portB = s.portB ∧
    (s.updateWork f).pending = s.pending := by
  and_intros <;> unfold State.updateWork <;> (try dsimp only) <;> (repeat' split) <;> simp

@[simp] theorem State.arbitrate_frame (s : State) :
    (s.arbitrate).dram = s.dram ∧ (s.arbitrate).tc = s.tc ∧ (s.arbitrate).domains = s.domains ∧
    (s.arbitrate).shares = s.shares ∧ (s.arbitrate).te = s.te ∧ (s.arbitrate).su = s.su ∧ (s.arbitrate).vl = s.vl ∧
    (s.arbitrate).eu = s.eu ∧ (s.arbitrate).mc = s.mc ∧ (s.arbitrate).cp.receiver = s.cp.receiver ∧
    (s.arbitrate).cp.executing = s.cp.executing ∧ (s.arbitrate).cp.inbound = s.cp.inbound ∧
    (s.arbitrate).cp.resetWait = s.cp.resetWait ∧ (s.arbitrate).portA = s.portA ∧ (s.arbitrate).portB = s.portB ∧
    (s.arbitrate).pending = s.pending := by
  and_intros <;> unfold State.arbitrate <;> (try dsimp only) <;> (repeat' split) <;> simp

@[simp] theorem State.placeNotice_frame (s : State) (n : Notice) :
    (s.placeNotice n).dram = s.dram ∧ (s.placeNotice n).tc = s.tc ∧ (s.placeNotice n).domains = s.domains ∧
    (s.placeNotice n).shares = s.shares ∧ (s.placeNotice n).te = s.te ∧ (s.placeNotice n).su = s.su ∧
    (s.placeNotice n).vl = s.vl ∧ (s.placeNotice n).eu = s.eu ∧ (s.placeNotice n).mc = s.mc ∧
    (s.placeNotice n).cp.receiver = s.cp.receiver ∧ (s.placeNotice n).cp.executing = s.cp.executing ∧
    (s.placeNotice n).cp.inbound = s.cp.inbound ∧ (s.placeNotice n).cp.resetWait = s.cp.resetWait ∧
    (s.placeNotice n).portA = s.portA ∧ (s.placeNotice n).portB = s.portB ∧ (s.placeNotice n).pending = s.pending := by
  and_intros <;> unfold State.placeNotice <;> (try dsimp only) <;> (repeat' split) <;> simp

@[simp] theorem State.placeReply_frame (s : State) (r : Reply) :
    (s.placeReply r).dram = s.dram ∧ (s.placeReply r).tc = s.tc ∧ (s.placeReply r).domains = s.domains ∧
    (s.placeReply r).shares = s.shares ∧ (s.placeReply r).te = s.te ∧ (s.placeReply r).su = s.su ∧
    (s.placeReply r).vl = s.vl ∧ (s.placeReply r).eu = s.eu ∧ (s.placeReply r).mc = s.mc ∧
    (s.placeReply r).cp.receiver = s.cp.receiver ∧ (s.placeReply r).cp.executing = s.cp.executing ∧
    (s.placeReply r).cp.inbound = s.cp.inbound ∧ (s.placeReply r).cp.resetWait = s.cp.resetWait ∧
    (s.placeReply r).portA = s.portA ∧ (s.placeReply r).portB = s.portB ∧ (s.placeReply r).pending = s.pending := by
  and_intros <;> unfold State.placeReply <;> (try dsimp only) <;> (repeat' split) <;> simp

@[simp] theorem State.setFlag_frame (s : State) (f : EventFlag) :
    (s.setFlag f).dram = s.dram ∧ (s.setFlag f).tc = s.tc ∧ (s.setFlag f).domains = s.domains ∧
    (s.setFlag f).shares = s.shares ∧ (s.setFlag f).te = s.te ∧ (s.setFlag f).su = s.su ∧ (s.setFlag f).vl = s.vl ∧
    (s.setFlag f).mc = s.mc ∧ (s.setFlag f).cp.receiver = s.cp.receiver ∧
    (s.setFlag f).cp.executing = s.cp.executing ∧ (s.setFlag f).cp.inbound = s.cp.inbound ∧
    (s.setFlag f).cp.resetWait = s.cp.resetWait ∧ (s.setFlag f).portA = s.portA ∧ (s.setFlag f).portB = s.portB ∧
    (s.setFlag f).pending = s.pending := by
  and_intros <;> unfold State.setFlag <;> (try dsimp only) <;> (repeat' split) <;> simp

@[simp] theorem State.setFlagIf_frame (s : State) (b : Bool) (f : EventFlag) :
    (s.setFlagIf b f).dram = s.dram ∧ (s.setFlagIf b f).tc = s.tc ∧ (s.setFlagIf b f).domains = s.domains ∧
    (s.setFlagIf b f).shares = s.shares ∧ (s.setFlagIf b f).te = s.te ∧ (s.setFlagIf b f).su = s.su ∧
    (s.setFlagIf b f).vl = s.vl ∧ (s.setFlagIf b f).mc = s.mc ∧ (s.setFlagIf b f).cp.receiver = s.cp.receiver ∧
    (s.setFlagIf b f).cp.executing = s.cp.executing ∧ (s.setFlagIf b f).cp.inbound = s.cp.inbound ∧
    (s.setFlagIf b f).cp.resetWait = s.cp.resetWait ∧ (s.setFlagIf b f).portA = s.portA ∧
    (s.setFlagIf b f).portB = s.portB ∧ (s.setFlagIf b f).pending = s.pending := by
  and_intros <;> unfold State.setFlagIf <;> (try dsimp only) <;> (repeat' split) <;> simp

@[simp] theorem State.logRecord_frame (s : State) (e : LogEvent) :
    (s.logRecord e).dram = s.dram ∧ (s.logRecord e).tc = s.tc ∧ (s.logRecord e).domains = s.domains ∧
    (s.logRecord e).shares = s.shares ∧ (s.logRecord e).te = s.te ∧ (s.logRecord e).su = s.su ∧
    (s.logRecord e).mc = s.mc ∧ (s.logRecord e).cp.receiver = s.cp.receiver ∧
    (s.logRecord e).cp.executing = s.cp.executing ∧ (s.logRecord e).cp.inbound = s.cp.inbound ∧
    (s.logRecord e).cp.resetWait = s.cp.resetWait ∧ (s.logRecord e).portA = s.portA ∧
    (s.logRecord e).portB = s.portB ∧ (s.logRecord e).pending = s.pending := by
  and_intros <;> unfold State.logRecord <;> (try dsimp only) <;> (repeat' split) <;> simp

@[simp] theorem State.answer_frame (s : State) (st : Status) (results : List Byte) :
    (s.answer st results).dram = s.dram ∧ (s.answer st results).tc = s.tc ∧
    (s.answer st results).domains = s.domains ∧ (s.answer st results).shares = s.shares ∧
    (s.answer st results).te = s.te ∧ (s.answer st results).su = s.su ∧ (s.answer st results).vl = s.vl ∧
    (s.answer st results).eu = s.eu ∧ (s.answer st results).mc = s.mc ∧
    (s.answer st results).cp.receiver = s.cp.receiver ∧ (s.answer st results).cp.resetWait = s.cp.resetWait ∧
    (s.answer st results).portA = s.portA ∧ (s.answer st results).portB = s.portB ∧
    (s.answer st results).pending = s.pending := by
  and_intros <;> unfold State.answer <;> (try dsimp only) <;> (repeat' split) <;> simp

@[simp] theorem State.putTag_frame (s : State) (g : Nat) (r : TagRec) :
    (s.putTag g r).dram = s.dram ∧ (s.putTag g r).domains = s.domains ∧ (s.putTag g r).shares = s.shares ∧
    (s.putTag g r).te = s.te ∧ (s.putTag g r).su = s.su ∧ (s.putTag g r).vl = s.vl ∧ (s.putTag g r).eu = s.eu ∧
    (s.putTag g r).mc = s.mc ∧ (s.putTag g r).cp = s.cp ∧ (s.putTag g r).portA = s.portA ∧
    (s.putTag g r).portB = s.portB ∧ (s.putTag g r).pending = s.pending := by
  and_intros <;> unfold State.putTag <;> (try dsimp only) <;> (repeat' split) <;> simp

@[simp] theorem State.lookup_dram (s : State) (party : Party) (j : Nat) (onHit : TagLine → State → State) (onWait : State → State)
    (h1 : ∀ l s, (onHit l s).dram = s.dram) (h2 : ∀ s, (onWait s).dram = s.dram) : (s.lookup party j onHit onWait).dram = s.dram := by
  unfold State.lookup; split <;> simp [h1, h2]
@[simp] theorem State.change_dram (s : State) (party : Party) (g : Nat) (agrees : Bool) (r : TagRec) (taken refused held : State → State)
    (h1 : ∀ s, (taken s).dram = s.dram) (h2 : ∀ s, (refused s).dram = s.dram) (h3 : ∀ s, (held s).dram = s.dram) :
    (s.change party g agrees r taken refused held).dram = s.dram := by
  unfold State.change; (repeat' split) <;> simp [h1, h2, h3]
@[simp] theorem State.lookup_dram_mem (s : State) (party : Party) (j : Nat) (onHit : TagLine → State → State) (onWait : State → State)
    (h1 : ∀ l s, (onHit l s).dram.mem = s.dram.mem) (h2 : ∀ s, (onWait s).dram.mem = s.dram.mem) : (s.lookup party j onHit onWait).dram.mem = s.dram.mem := by
  unfold State.lookup; split <;> simp [h1, h2]
@[simp] theorem State.change_dram_mem (s : State) (party : Party) (g : Nat) (agrees : Bool) (r : TagRec) (taken refused held : State → State)
    (h1 : ∀ s, (taken s).dram.mem = s.dram.mem) (h2 : ∀ s, (refused s).dram.mem = s.dram.mem) (h3 : ∀ s, (held s).dram.mem = s.dram.mem) :
    (s.change party g agrees r taken refused held).dram.mem = s.dram.mem := by
  unfold State.change; (repeat' split) <;> simp [h1, h2, h3]
@[simp] theorem State.lookup_dram_badUnits (s : State) (party : Party) (j : Nat) (onHit : TagLine → State → State) (onWait : State → State)
    (h1 : ∀ l s, (onHit l s).dram.badUnits = s.dram.badUnits) (h2 : ∀ s, (onWait s).dram.badUnits = s.dram.badUnits) : (s.lookup party j onHit onWait).dram.badUnits = s.dram.badUnits := by
  unfold State.lookup; split <;> simp [h1, h2]
@[simp] theorem State.change_dram_badUnits (s : State) (party : Party) (g : Nat) (agrees : Bool) (r : TagRec) (taken refused held : State → State)
    (h1 : ∀ s, (taken s).dram.badUnits = s.dram.badUnits) (h2 : ∀ s, (refused s).dram.badUnits = s.dram.badUnits) (h3 : ∀ s, (held s).dram.badUnits = s.dram.badUnits) :
    (s.change party g agrees r taken refused held).dram.badUnits = s.dram.badUnits := by
  unfold State.change; (repeat' split) <;> simp [h1, h2, h3]
@[simp] theorem State.lookup_dram_damageCount (s : State) (party : Party) (j : Nat) (onHit : TagLine → State → State) (onWait : State → State)
    (h1 : ∀ l s, (onHit l s).dram.damageCount = s.dram.damageCount) (h2 : ∀ s, (onWait s).dram.damageCount = s.dram.damageCount) : (s.lookup party j onHit onWait).dram.damageCount = s.dram.damageCount := by
  unfold State.lookup; split <;> simp [h1, h2]
@[simp] theorem State.change_dram_damageCount (s : State) (party : Party) (g : Nat) (agrees : Bool) (r : TagRec) (taken refused held : State → State)
    (h1 : ∀ s, (taken s).dram.damageCount = s.dram.damageCount) (h2 : ∀ s, (refused s).dram.damageCount = s.dram.damageCount) (h3 : ∀ s, (held s).dram.damageCount = s.dram.damageCount) :
    (s.change party g agrees r taken refused held).dram.damageCount = s.dram.damageCount := by
  unfold State.change; (repeat' split) <;> simp [h1, h2, h3]
@[simp] theorem State.lookup_domains (s : State) (party : Party) (j : Nat) (onHit : TagLine → State → State) (onWait : State → State)
    (h1 : ∀ l s, (onHit l s).domains = s.domains) (h2 : ∀ s, (onWait s).domains = s.domains) : (s.lookup party j onHit onWait).domains = s.domains := by
  unfold State.lookup; split <;> simp [h1, h2]
@[simp] theorem State.change_domains (s : State) (party : Party) (g : Nat) (agrees : Bool) (r : TagRec) (taken refused held : State → State)
    (h1 : ∀ s, (taken s).domains = s.domains) (h2 : ∀ s, (refused s).domains = s.domains) (h3 : ∀ s, (held s).domains = s.domains) :
    (s.change party g agrees r taken refused held).domains = s.domains := by
  unfold State.change; (repeat' split) <;> simp [h1, h2, h3]
@[simp] theorem State.lookup_shares (s : State) (party : Party) (j : Nat) (onHit : TagLine → State → State) (onWait : State → State)
    (h1 : ∀ l s, (onHit l s).shares = s.shares) (h2 : ∀ s, (onWait s).shares = s.shares) : (s.lookup party j onHit onWait).shares = s.shares := by
  unfold State.lookup; split <;> simp [h1, h2]
@[simp] theorem State.change_shares (s : State) (party : Party) (g : Nat) (agrees : Bool) (r : TagRec) (taken refused held : State → State)
    (h1 : ∀ s, (taken s).shares = s.shares) (h2 : ∀ s, (refused s).shares = s.shares) (h3 : ∀ s, (held s).shares = s.shares) :
    (s.change party g agrees r taken refused held).shares = s.shares := by
  unfold State.change; (repeat' split) <;> simp [h1, h2, h3]
@[simp] theorem State.lookup_te (s : State) (party : Party) (j : Nat) (onHit : TagLine → State → State) (onWait : State → State)
    (h1 : ∀ l s, (onHit l s).te = s.te) (h2 : ∀ s, (onWait s).te = s.te) : (s.lookup party j onHit onWait).te = s.te := by
  unfold State.lookup; split <;> simp [h1, h2]
@[simp] theorem State.change_te (s : State) (party : Party) (g : Nat) (agrees : Bool) (r : TagRec) (taken refused held : State → State)
    (h1 : ∀ s, (taken s).te = s.te) (h2 : ∀ s, (refused s).te = s.te) (h3 : ∀ s, (held s).te = s.te) :
    (s.change party g agrees r taken refused held).te = s.te := by
  unfold State.change; (repeat' split) <;> simp [h1, h2, h3]
@[simp] theorem State.lookup_te_table (s : State) (party : Party) (j : Nat) (onHit : TagLine → State → State) (onWait : State → State)
    (h1 : ∀ l s, (onHit l s).te.table = s.te.table) (h2 : ∀ s, (onWait s).te.table = s.te.table) : (s.lookup party j onHit onWait).te.table = s.te.table := by
  unfold State.lookup; split <;> simp [h1, h2]
@[simp] theorem State.change_te_table (s : State) (party : Party) (g : Nat) (agrees : Bool) (r : TagRec) (taken refused held : State → State)
    (h1 : ∀ s, (taken s).te.table = s.te.table) (h2 : ∀ s, (refused s).te.table = s.te.table) (h3 : ∀ s, (held s).te.table = s.te.table) :
    (s.change party g agrees r taken refused held).te.table = s.te.table := by
  unfold State.change; (repeat' split) <;> simp [h1, h2, h3]
@[simp] theorem State.lookup_su (s : State) (party : Party) (j : Nat) (onHit : TagLine → State → State) (onWait : State → State)
    (h1 : ∀ l s, (onHit l s).su = s.su) (h2 : ∀ s, (onWait s).su = s.su) : (s.lookup party j onHit onWait).su = s.su := by
  unfold State.lookup; split <;> simp [h1, h2]
@[simp] theorem State.change_su (s : State) (party : Party) (g : Nat) (agrees : Bool) (r : TagRec) (taken refused held : State → State)
    (h1 : ∀ s, (taken s).su = s.su) (h2 : ∀ s, (refused s).su = s.su) (h3 : ∀ s, (held s).su = s.su) :
    (s.change party g agrees r taken refused held).su = s.su := by
  unfold State.change; (repeat' split) <;> simp [h1, h2, h3]
@[simp] theorem State.lookup_su_write (s : State) (party : Party) (j : Nat) (onHit : TagLine → State → State) (onWait : State → State)
    (h1 : ∀ l s, (onHit l s).su.write = s.su.write) (h2 : ∀ s, (onWait s).su.write = s.su.write) : (s.lookup party j onHit onWait).su.write = s.su.write := by
  unfold State.lookup; split <;> simp [h1, h2]
@[simp] theorem State.change_su_write (s : State) (party : Party) (g : Nat) (agrees : Bool) (r : TagRec) (taken refused held : State → State)
    (h1 : ∀ s, (taken s).su.write = s.su.write) (h2 : ∀ s, (refused s).su.write = s.su.write) (h3 : ∀ s, (held s).su.write = s.su.write) :
    (s.change party g agrees r taken refused held).su.write = s.su.write := by
  unfold State.change; (repeat' split) <;> simp [h1, h2, h3]
@[simp] theorem State.lookup_vl (s : State) (party : Party) (j : Nat) (onHit : TagLine → State → State) (onWait : State → State)
    (h1 : ∀ l s, (onHit l s).vl = s.vl) (h2 : ∀ s, (onWait s).vl = s.vl) : (s.lookup party j onHit onWait).vl = s.vl := by
  unfold State.lookup; split <;> simp [h1, h2]
@[simp] theorem State.change_vl (s : State) (party : Party) (g : Nat) (agrees : Bool) (r : TagRec) (taken refused held : State → State)
    (h1 : ∀ s, (taken s).vl = s.vl) (h2 : ∀ s, (refused s).vl = s.vl) (h3 : ∀ s, (held s).vl = s.vl) :
    (s.change party g agrees r taken refused held).vl = s.vl := by
  unfold State.change; (repeat' split) <;> simp [h1, h2, h3]
@[simp] theorem State.lookup_eu (s : State) (party : Party) (j : Nat) (onHit : TagLine → State → State) (onWait : State → State)
    (h1 : ∀ l s, (onHit l s).eu = s.eu) (h2 : ∀ s, (onWait s).eu = s.eu) : (s.lookup party j onHit onWait).eu = s.eu := by
  unfold State.lookup; split <;> simp [h1, h2]
@[simp] theorem State.change_eu (s : State) (party : Party) (g : Nat) (agrees : Bool) (r : TagRec) (taken refused held : State → State)
    (h1 : ∀ s, (taken s).eu = s.eu) (h2 : ∀ s, (refused s).eu = s.eu) (h3 : ∀ s, (held s).eu = s.eu) :
    (s.change party g agrees r taken refused held).eu = s.eu := by
  unfold State.change; (repeat' split) <;> simp [h1, h2, h3]
@[simp] theorem State.lookup_mc (s : State) (party : Party) (j : Nat) (onHit : TagLine → State → State) (onWait : State → State)
    (h1 : ∀ l s, (onHit l s).mc = s.mc) (h2 : ∀ s, (onWait s).mc = s.mc) : (s.lookup party j onHit onWait).mc = s.mc := by
  unfold State.lookup; split <;> simp [h1, h2]
@[simp] theorem State.change_mc (s : State) (party : Party) (g : Nat) (agrees : Bool) (r : TagRec) (taken refused held : State → State)
    (h1 : ∀ s, (taken s).mc = s.mc) (h2 : ∀ s, (refused s).mc = s.mc) (h3 : ∀ s, (held s).mc = s.mc) :
    (s.change party g agrees r taken refused held).mc = s.mc := by
  unfold State.change; (repeat' split) <;> simp [h1, h2, h3]
@[simp] theorem State.lookup_mc_mode (s : State) (party : Party) (j : Nat) (onHit : TagLine → State → State) (onWait : State → State)
    (h1 : ∀ l s, (onHit l s).mc.mode = s.mc.mode) (h2 : ∀ s, (onWait s).mc.mode = s.mc.mode) : (s.lookup party j onHit onWait).mc.mode = s.mc.mode := by
  unfold State.lookup; split <;> simp [h1, h2]
@[simp] theorem State.change_mc_mode (s : State) (party : Party) (g : Nat) (agrees : Bool) (r : TagRec) (taken refused held : State → State)
    (h1 : ∀ s, (taken s).mc.mode = s.mc.mode) (h2 : ∀ s, (refused s).mc.mode = s.mc.mode) (h3 : ∀ s, (held s).mc.mode = s.mc.mode) :
    (s.change party g agrees r taken refused held).mc.mode = s.mc.mode := by
  unfold State.change; (repeat' split) <;> simp [h1, h2, h3]
@[simp] theorem State.lookup_mc_poolCode (s : State) (party : Party) (j : Nat) (onHit : TagLine → State → State) (onWait : State → State)
    (h1 : ∀ l s, (onHit l s).mc.poolCode = s.mc.poolCode) (h2 : ∀ s, (onWait s).mc.poolCode = s.mc.poolCode) : (s.lookup party j onHit onWait).mc.poolCode = s.mc.poolCode := by
  unfold State.lookup; split <;> simp [h1, h2]
@[simp] theorem State.change_mc_poolCode (s : State) (party : Party) (g : Nat) (agrees : Bool) (r : TagRec) (taken refused held : State → State)
    (h1 : ∀ s, (taken s).mc.poolCode = s.mc.poolCode) (h2 : ∀ s, (refused s).mc.poolCode = s.mc.poolCode) (h3 : ∀ s, (held s).mc.poolCode = s.mc.poolCode) :
    (s.change party g agrees r taken refused held).mc.poolCode = s.mc.poolCode := by
  unfold State.change; (repeat' split) <;> simp [h1, h2, h3]
@[simp] theorem State.lookup_mc_inReset (s : State) (party : Party) (j : Nat) (onHit : TagLine → State → State) (onWait : State → State)
    (h1 : ∀ l s, (onHit l s).mc.inReset = s.mc.inReset) (h2 : ∀ s, (onWait s).mc.inReset = s.mc.inReset) : (s.lookup party j onHit onWait).mc.inReset = s.mc.inReset := by
  unfold State.lookup; split <;> simp [h1, h2]
@[simp] theorem State.change_mc_inReset (s : State) (party : Party) (g : Nat) (agrees : Bool) (r : TagRec) (taken refused held : State → State)
    (h1 : ∀ s, (taken s).mc.inReset = s.mc.inReset) (h2 : ∀ s, (refused s).mc.inReset = s.mc.inReset) (h3 : ∀ s, (held s).mc.inReset = s.mc.inReset) :
    (s.change party g agrees r taken refused held).mc.inReset = s.mc.inReset := by
  unfold State.change; (repeat' split) <;> simp [h1, h2, h3]
@[simp] theorem State.lookup_mc_resetLow (s : State) (party : Party) (j : Nat) (onHit : TagLine → State → State) (onWait : State → State)
    (h1 : ∀ l s, (onHit l s).mc.resetLow = s.mc.resetLow) (h2 : ∀ s, (onWait s).mc.resetLow = s.mc.resetLow) : (s.lookup party j onHit onWait).mc.resetLow = s.mc.resetLow := by
  unfold State.lookup; split <;> simp [h1, h2]
@[simp] theorem State.change_mc_resetLow (s : State) (party : Party) (g : Nat) (agrees : Bool) (r : TagRec) (taken refused held : State → State)
    (h1 : ∀ s, (taken s).mc.resetLow = s.mc.resetLow) (h2 : ∀ s, (refused s).mc.resetLow = s.mc.resetLow) (h3 : ∀ s, (held s).mc.resetLow = s.mc.resetLow) :
    (s.change party g agrees r taken refused held).mc.resetLow = s.mc.resetLow := by
  unfold State.change; (repeat' split) <;> simp [h1, h2, h3]
@[simp] theorem State.lookup_mc_storeState (s : State) (party : Party) (j : Nat) (onHit : TagLine → State → State) (onWait : State → State)
    (h1 : ∀ l s, (onHit l s).mc.storeState = s.mc.storeState) (h2 : ∀ s, (onWait s).mc.storeState = s.mc.storeState) : (s.lookup party j onHit onWait).mc.storeState = s.mc.storeState := by
  unfold State.lookup; split <;> simp [h1, h2]
@[simp] theorem State.change_mc_storeState (s : State) (party : Party) (g : Nat) (agrees : Bool) (r : TagRec) (taken refused held : State → State)
    (h1 : ∀ s, (taken s).mc.storeState = s.mc.storeState) (h2 : ∀ s, (refused s).mc.storeState = s.mc.storeState) (h3 : ∀ s, (held s).mc.storeState = s.mc.storeState) :
    (s.change party g agrees r taken refused held).mc.storeState = s.mc.storeState := by
  unfold State.change; (repeat' split) <;> simp [h1, h2, h3]
@[simp] theorem State.lookup_mc_timestamp (s : State) (party : Party) (j : Nat) (onHit : TagLine → State → State) (onWait : State → State)
    (h1 : ∀ l s, (onHit l s).mc.timestamp = s.mc.timestamp) (h2 : ∀ s, (onWait s).mc.timestamp = s.mc.timestamp) : (s.lookup party j onHit onWait).mc.timestamp = s.mc.timestamp := by
  unfold State.lookup; split <;> simp [h1, h2]
@[simp] theorem State.change_mc_timestamp (s : State) (party : Party) (g : Nat) (agrees : Bool) (r : TagRec) (taken refused held : State → State)
    (h1 : ∀ s, (taken s).mc.timestamp = s.mc.timestamp) (h2 : ∀ s, (refused s).mc.timestamp = s.mc.timestamp) (h3 : ∀ s, (held s).mc.timestamp = s.mc.timestamp) :
    (s.change party g agrees r taken refused held).mc.timestamp = s.mc.timestamp := by
  unfold State.change; (repeat' split) <;> simp [h1, h2, h3]
@[simp] theorem State.lookup_mc_recovery (s : State) (party : Party) (j : Nat) (onHit : TagLine → State → State) (onWait : State → State)
    (h1 : ∀ l s, (onHit l s).mc.recovery = s.mc.recovery) (h2 : ∀ s, (onWait s).mc.recovery = s.mc.recovery) : (s.lookup party j onHit onWait).mc.recovery = s.mc.recovery := by
  unfold State.lookup; split <;> simp [h1, h2]
@[simp] theorem State.change_mc_recovery (s : State) (party : Party) (g : Nat) (agrees : Bool) (r : TagRec) (taken refused held : State → State)
    (h1 : ∀ s, (taken s).mc.recovery = s.mc.recovery) (h2 : ∀ s, (refused s).mc.recovery = s.mc.recovery) (h3 : ∀ s, (held s).mc.recovery = s.mc.recovery) :
    (s.change party g agrees r taken refused held).mc.recovery = s.mc.recovery := by
  unfold State.change; (repeat' split) <;> simp [h1, h2, h3]
@[simp] theorem State.lookup_cp (s : State) (party : Party) (j : Nat) (onHit : TagLine → State → State) (onWait : State → State)
    (h1 : ∀ l s, (onHit l s).cp = s.cp) (h2 : ∀ s, (onWait s).cp = s.cp) : (s.lookup party j onHit onWait).cp = s.cp := by
  unfold State.lookup; split <;> simp [h1, h2]
@[simp] theorem State.change_cp (s : State) (party : Party) (g : Nat) (agrees : Bool) (r : TagRec) (taken refused held : State → State)
    (h1 : ∀ s, (taken s).cp = s.cp) (h2 : ∀ s, (refused s).cp = s.cp) (h3 : ∀ s, (held s).cp = s.cp) :
    (s.change party g agrees r taken refused held).cp = s.cp := by
  unfold State.change; (repeat' split) <;> simp [h1, h2, h3]
@[simp] theorem State.lookup_cp_receiver (s : State) (party : Party) (j : Nat) (onHit : TagLine → State → State) (onWait : State → State)
    (h1 : ∀ l s, (onHit l s).cp.receiver = s.cp.receiver) (h2 : ∀ s, (onWait s).cp.receiver = s.cp.receiver) : (s.lookup party j onHit onWait).cp.receiver = s.cp.receiver := by
  unfold State.lookup; split <;> simp [h1, h2]
@[simp] theorem State.change_cp_receiver (s : State) (party : Party) (g : Nat) (agrees : Bool) (r : TagRec) (taken refused held : State → State)
    (h1 : ∀ s, (taken s).cp.receiver = s.cp.receiver) (h2 : ∀ s, (refused s).cp.receiver = s.cp.receiver) (h3 : ∀ s, (held s).cp.receiver = s.cp.receiver) :
    (s.change party g agrees r taken refused held).cp.receiver = s.cp.receiver := by
  unfold State.change; (repeat' split) <;> simp [h1, h2, h3]
@[simp] theorem State.lookup_cp_executing (s : State) (party : Party) (j : Nat) (onHit : TagLine → State → State) (onWait : State → State)
    (h1 : ∀ l s, (onHit l s).cp.executing = s.cp.executing) (h2 : ∀ s, (onWait s).cp.executing = s.cp.executing) : (s.lookup party j onHit onWait).cp.executing = s.cp.executing := by
  unfold State.lookup; split <;> simp [h1, h2]
@[simp] theorem State.change_cp_executing (s : State) (party : Party) (g : Nat) (agrees : Bool) (r : TagRec) (taken refused held : State → State)
    (h1 : ∀ s, (taken s).cp.executing = s.cp.executing) (h2 : ∀ s, (refused s).cp.executing = s.cp.executing) (h3 : ∀ s, (held s).cp.executing = s.cp.executing) :
    (s.change party g agrees r taken refused held).cp.executing = s.cp.executing := by
  unfold State.change; (repeat' split) <;> simp [h1, h2, h3]
@[simp] theorem State.lookup_cp_inbound (s : State) (party : Party) (j : Nat) (onHit : TagLine → State → State) (onWait : State → State)
    (h1 : ∀ l s, (onHit l s).cp.inbound = s.cp.inbound) (h2 : ∀ s, (onWait s).cp.inbound = s.cp.inbound) : (s.lookup party j onHit onWait).cp.inbound = s.cp.inbound := by
  unfold State.lookup; split <;> simp [h1, h2]
@[simp] theorem State.change_cp_inbound (s : State) (party : Party) (g : Nat) (agrees : Bool) (r : TagRec) (taken refused held : State → State)
    (h1 : ∀ s, (taken s).cp.inbound = s.cp.inbound) (h2 : ∀ s, (refused s).cp.inbound = s.cp.inbound) (h3 : ∀ s, (held s).cp.inbound = s.cp.inbound) :
    (s.change party g agrees r taken refused held).cp.inbound = s.cp.inbound := by
  unfold State.change; (repeat' split) <;> simp [h1, h2, h3]
@[simp] theorem State.lookup_cp_resetWait (s : State) (party : Party) (j : Nat) (onHit : TagLine → State → State) (onWait : State → State)
    (h1 : ∀ l s, (onHit l s).cp.resetWait = s.cp.resetWait) (h2 : ∀ s, (onWait s).cp.resetWait = s.cp.resetWait) : (s.lookup party j onHit onWait).cp.resetWait = s.cp.resetWait := by
  unfold State.lookup; split <;> simp [h1, h2]
@[simp] theorem State.change_cp_resetWait (s : State) (party : Party) (g : Nat) (agrees : Bool) (r : TagRec) (taken refused held : State → State)
    (h1 : ∀ s, (taken s).cp.resetWait = s.cp.resetWait) (h2 : ∀ s, (refused s).cp.resetWait = s.cp.resetWait) (h3 : ∀ s, (held s).cp.resetWait = s.cp.resetWait) :
    (s.change party g agrees r taken refused held).cp.resetWait = s.cp.resetWait := by
  unfold State.change; (repeat' split) <;> simp [h1, h2, h3]
@[simp] theorem State.lookup_portA (s : State) (party : Party) (j : Nat) (onHit : TagLine → State → State) (onWait : State → State)
    (h1 : ∀ l s, (onHit l s).portA = s.portA) (h2 : ∀ s, (onWait s).portA = s.portA) : (s.lookup party j onHit onWait).portA = s.portA := by
  unfold State.lookup; split <;> simp [h1, h2]
@[simp] theorem State.change_portA (s : State) (party : Party) (g : Nat) (agrees : Bool) (r : TagRec) (taken refused held : State → State)
    (h1 : ∀ s, (taken s).portA = s.portA) (h2 : ∀ s, (refused s).portA = s.portA) (h3 : ∀ s, (held s).portA = s.portA) :
    (s.change party g agrees r taken refused held).portA = s.portA := by
  unfold State.change; (repeat' split) <;> simp [h1, h2, h3]
@[simp] theorem State.lookup_portB (s : State) (party : Party) (j : Nat) (onHit : TagLine → State → State) (onWait : State → State)
    (h1 : ∀ l s, (onHit l s).portB = s.portB) (h2 : ∀ s, (onWait s).portB = s.portB) : (s.lookup party j onHit onWait).portB = s.portB := by
  unfold State.lookup; split <;> simp [h1, h2]
@[simp] theorem State.change_portB (s : State) (party : Party) (g : Nat) (agrees : Bool) (r : TagRec) (taken refused held : State → State)
    (h1 : ∀ s, (taken s).portB = s.portB) (h2 : ∀ s, (refused s).portB = s.portB) (h3 : ∀ s, (held s).portB = s.portB) :
    (s.change party g agrees r taken refused held).portB = s.portB := by
  unfold State.change; (repeat' split) <;> simp [h1, h2, h3]
@[simp] theorem State.lookup_pending (s : State) (party : Party) (j : Nat) (onHit : TagLine → State → State) (onWait : State → State)
    (h1 : ∀ l s, (onHit l s).pending = s.pending) (h2 : ∀ s, (onWait s).pending = s.pending) : (s.lookup party j onHit onWait).pending = s.pending := by
  unfold State.lookup; split <;> simp [h1, h2]
@[simp] theorem State.change_pending (s : State) (party : Party) (g : Nat) (agrees : Bool) (r : TagRec) (taken refused held : State → State)
    (h1 : ∀ s, (taken s).pending = s.pending) (h2 : ∀ s, (refused s).pending = s.pending) (h3 : ∀ s, (held s).pending = s.pending) :
    (s.change party g agrees r taken refused held).pending = s.pending := by
  unfold State.change; (repeat' split) <;> simp [h1, h2, h3]

@[simp] theorem State.tryConfig_frame (s : State) :
    (s.tryConfig).dram = s.dram ∧ (s.tryConfig).tc = s.tc ∧ (s.tryConfig).domains = s.domains ∧
    (s.tryConfig).shares = s.shares ∧ (s.tryConfig).te = s.te ∧ (s.tryConfig).su = s.su ∧ (s.tryConfig).vl = s.vl ∧
    (s.tryConfig).mc.poolCode = s.mc.poolCode ∧ (s.tryConfig).mc.inReset = s.mc.inReset ∧
    (s.tryConfig).mc.resetLow = s.mc.resetLow ∧ (s.tryConfig).mc.storeState = s.mc.storeState ∧
    (s.tryConfig).mc.timestamp = s.mc.timestamp ∧ (s.tryConfig).mc.recovery = s.mc.recovery ∧
    (s.tryConfig).cp.receiver = s.cp.receiver ∧ (s.tryConfig).cp.executing = s.cp.executing ∧
    (s.tryConfig).cp.inbound = s.cp.inbound ∧ (s.tryConfig).cp.resetWait = s.cp.resetWait ∧
    (s.tryConfig).portA = s.portA ∧ (s.tryConfig).portB = s.portB ∧ (s.tryConfig).pending = s.pending := by
  and_intros <;> unfold State.tryConfig <;> (try dsimp only) <;> (repeat' split) <;> simp

@[simp] theorem State.trySuspend_frame (s : State) :
    (s.trySuspend).dram = s.dram ∧ (s.trySuspend).tc = s.tc ∧ (s.trySuspend).domains = s.domains ∧
    (s.trySuspend).shares = s.shares ∧ (s.trySuspend).te = s.te ∧ (s.trySuspend).su.write = s.su.write ∧
    (s.trySuspend).vl = s.vl ∧ (s.trySuspend).mc.poolCode = s.mc.poolCode ∧
    (s.trySuspend).mc.inReset = s.mc.inReset ∧ (s.trySuspend).mc.resetLow = s.mc.resetLow ∧
    (s.trySuspend).mc.storeState = s.mc.storeState ∧ (s.trySuspend).mc.timestamp = s.mc.timestamp ∧
    (s.trySuspend).mc.recovery = s.mc.recovery ∧ (s.trySuspend).cp.receiver = s.cp.receiver ∧
    (s.trySuspend).cp.executing = s.cp.executing ∧ (s.trySuspend).cp.inbound = s.cp.inbound ∧
    (s.trySuspend).cp.resetWait = s.cp.resetWait ∧ (s.trySuspend).portA = s.portA ∧
    (s.trySuspend).portB = s.portB ∧ (s.trySuspend).pending = s.pending := by
  and_intros <;> unfold State.trySuspend <;> (try dsimp only) <;> (repeat' split) <;> simp

@[simp] theorem State.settleChannels_frame (s : State) :
    (s.settleChannels).dram.mem = s.dram.mem ∧ (s.settleChannels).dram.badUnits = s.dram.badUnits ∧
    (s.settleChannels).dram.damageCount = s.dram.damageCount ∧ (s.settleChannels).tc = s.tc ∧
    (s.settleChannels).domains = s.domains ∧ (s.settleChannels).shares = s.shares ∧ (s.settleChannels).te = s.te ∧
    (s.settleChannels).su = s.su ∧ (s.settleChannels).vl = s.vl ∧ (s.settleChannels).eu = s.eu ∧
    (s.settleChannels).mc = s.mc ∧ (s.settleChannels).cp = s.cp ∧ (s.settleChannels).portA = s.portA ∧
    (s.settleChannels).portB = s.portB ∧ (s.settleChannels).pending = s.pending := by
  and_intros <;> unfold State.settleChannels <;> (try dsimp only) <;> (repeat' split) <;> simp

@[simp] theorem State.settleMode_frame (s : State) :
    (s.settleMode).dram.mem = s.dram.mem ∧ (s.settleMode).dram.badUnits = s.dram.badUnits ∧
    (s.settleMode).dram.damageCount = s.dram.damageCount ∧ (s.settleMode).tc = s.tc ∧
    (s.settleMode).domains = s.domains ∧ (s.settleMode).shares = s.shares ∧ (s.settleMode).te = s.te ∧
    (s.settleMode).su.write = s.su.write ∧ (s.settleMode).vl = s.vl ∧ (s.settleMode).mc.poolCode = s.mc.poolCode ∧
    (s.settleMode).mc.inReset = s.mc.inReset ∧ (s.settleMode).mc.resetLow = s.mc.resetLow ∧
    (s.settleMode).mc.storeState = s.mc.storeState ∧ (s.settleMode).mc.timestamp = s.mc.timestamp ∧
    (s.settleMode).mc.recovery = s.mc.recovery ∧ (s.settleMode).cp.receiver = s.cp.receiver ∧
    (s.settleMode).cp.executing = s.cp.executing ∧ (s.settleMode).cp.inbound = s.cp.inbound ∧
    (s.settleMode).cp.resetWait = s.cp.resetWait ∧ (s.settleMode).portA = s.portA ∧
    (s.settleMode).portB = s.portB ∧ (s.settleMode).pending = s.pending := by
  and_intros <;> unfold State.settleMode <;> (try dsimp only) <;> (repeat' split) <;> simp

@[simp] theorem State.resume_frame (s : State) :
    (s.resume).dram.mem = s.dram.mem ∧ (s.resume).dram.badUnits = s.dram.badUnits ∧
    (s.resume).dram.damageCount = s.dram.damageCount ∧ (s.resume).tc = s.tc ∧ (s.resume).domains = s.domains ∧
    (s.resume).shares = s.shares ∧ (s.resume).te = s.te ∧ (s.resume).su = s.su ∧ (s.resume).vl = s.vl ∧
    (s.resume).mc.poolCode = s.mc.poolCode ∧ (s.resume).mc.inReset = s.mc.inReset ∧
    (s.resume).mc.resetLow = s.mc.resetLow ∧ (s.resume).mc.storeState = s.mc.storeState ∧
    (s.resume).mc.timestamp = s.mc.timestamp ∧ (s.resume).mc.recovery = s.mc.recovery ∧
    (s.resume).cp.receiver = s.cp.receiver ∧ (s.resume).cp.executing = s.cp.executing ∧
    (s.resume).cp.inbound = s.cp.inbound ∧ (s.resume).cp.resetWait = s.cp.resetWait ∧ (s.resume).portA = s.portA ∧
    (s.resume).portB = s.portB ∧ (s.resume).pending = s.pending := by
  and_intros <;> unfold State.resume <;> (try dsimp only) <;> (repeat' split) <;> simp

@[simp] theorem State.endDrain_frame (s : State) (t : Ticket) (start : Nat) :
    (s.endDrain t start).dram = s.dram ∧ (s.endDrain t start).tc = s.tc ∧
    (s.endDrain t start).domains = s.domains ∧ (s.endDrain t start).shares = s.shares ∧
    (s.endDrain t start).su = s.su ∧ (s.endDrain t start).vl = s.vl ∧ (s.endDrain t start).eu = s.eu ∧
    (s.endDrain t start).mc = s.mc ∧ (s.endDrain t start).cp = s.cp ∧ (s.endDrain t start).portA = s.portA ∧
    (s.endDrain t start).portB = s.portB ∧ (s.endDrain t start).pending = s.pending := by
  and_intros <;> unfold State.endDrain <;> (try dsimp only) <;> (repeat' split) <;> simp

@[simp] theorem State.snapshotRemove_frame (s : State) (p : Port) (t : ReqTag) :
    (s.snapshotRemove p t).dram = s.dram ∧ (s.snapshotRemove p t).tc = s.tc ∧
    (s.snapshotRemove p t).domains = s.domains ∧ (s.snapshotRemove p t).shares = s.shares ∧
    (s.snapshotRemove p t).su = s.su ∧ (s.snapshotRemove p t).vl = s.vl ∧ (s.snapshotRemove p t).eu = s.eu ∧
    (s.snapshotRemove p t).mc = s.mc ∧ (s.snapshotRemove p t).cp = s.cp ∧ (s.snapshotRemove p t).portA = s.portA ∧
    (s.snapshotRemove p t).portB = s.portB ∧ (s.snapshotRemove p t).pending = s.pending := by
  and_intros <;> unfold State.snapshotRemove <;> (try dsimp only) <;> (repeat' split) <;> simp

@[simp] theorem State.removeEntry_frame (s : State) (p : Port) (t : ReqTag) :
    (s.removeEntry p t).dram = s.dram ∧ (s.removeEntry p t).tc = s.tc ∧ (s.removeEntry p t).domains = s.domains ∧
    (s.removeEntry p t).shares = s.shares ∧ (s.removeEntry p t).su = s.su ∧ (s.removeEntry p t).vl = s.vl ∧
    (s.removeEntry p t).eu = s.eu ∧ (s.removeEntry p t).mc = s.mc ∧ (s.removeEntry p t).cp = s.cp ∧
    (s.removeEntry p t).pending = s.pending := by
  and_intros <;> unfold State.removeEntry <;> (try dsimp only) <;> (repeat' split) <;> simp

@[simp] theorem State.frameSent_frame (s : State) (p : Port) :
    (s.frameSent p).dram = s.dram ∧ (s.frameSent p).tc = s.tc ∧ (s.frameSent p).domains = s.domains ∧
    (s.frameSent p).shares = s.shares ∧ (s.frameSent p).su = s.su ∧ (s.frameSent p).vl = s.vl ∧
    (s.frameSent p).eu = s.eu ∧ (s.frameSent p).mc = s.mc ∧ (s.frameSent p).cp = s.cp ∧
    (s.frameSent p).pending = s.pending := by
  and_intros <;> unfold State.frameSent <;> (try dsimp only) <;> (repeat' split) <;> simp

@[simp] theorem State.countIntegrity_frame (s : State) (p : Port) :
    (s.countIntegrity p).dram = s.dram ∧ (s.countIntegrity p).tc = s.tc ∧
    (s.countIntegrity p).domains = s.domains ∧ (s.countIntegrity p).shares = s.shares ∧
    (s.countIntegrity p).te = s.te ∧ (s.countIntegrity p).su = s.su ∧ (s.countIntegrity p).vl = s.vl ∧
    (s.countIntegrity p).mc = s.mc ∧ (s.countIntegrity p).cp.receiver = s.cp.receiver ∧
    (s.countIntegrity p).cp.executing = s.cp.executing ∧ (s.countIntegrity p).cp.inbound = s.cp.inbound ∧
    (s.countIntegrity p).cp.resetWait = s.cp.resetWait ∧ (s.countIntegrity p).pending = s.pending := by
  and_intros <;> unfold State.countIntegrity <;> (try dsimp only) <;> (repeat' split) <;> simp

@[simp] theorem State.goDown_frame (s : State) (p : Port) (dest : LinkState) :
    (s.goDown p dest).dram = s.dram ∧ (s.goDown p dest).tc = s.tc ∧ (s.goDown p dest).domains = s.domains ∧
    (s.goDown p dest).shares = s.shares ∧ (s.goDown p dest).su = s.su ∧ (s.goDown p dest).vl = s.vl ∧
    (s.goDown p dest).mc = s.mc ∧ (s.goDown p dest).cp.receiver = s.cp.receiver ∧
    (s.goDown p dest).cp.executing = s.cp.executing ∧ (s.goDown p dest).cp.inbound = s.cp.inbound ∧
    (s.goDown p dest).cp.resetWait = s.cp.resetWait ∧ (s.goDown p dest).pending = s.pending := by
  and_intros <;> unfold State.goDown <;> (try dsimp only) <;> (repeat' split) <;> simp

@[simp] theorem State.refuseUnentered_frame (s : State) (p : Port) (t : ReqTag) (op : Opcode) (reason : Reason) :
    (s.refuseUnentered p t op reason).dram = s.dram ∧ (s.refuseUnentered p t op reason).tc = s.tc ∧
    (s.refuseUnentered p t op reason).domains = s.domains ∧ (s.refuseUnentered p t op reason).shares = s.shares ∧
    (s.refuseUnentered p t op reason).te = s.te ∧ (s.refuseUnentered p t op reason).su = s.su ∧
    (s.refuseUnentered p t op reason).vl = s.vl ∧ (s.refuseUnentered p t op reason).mc = s.mc ∧
    (s.refuseUnentered p t op reason).cp.receiver = s.cp.receiver ∧
    (s.refuseUnentered p t op reason).cp.executing = s.cp.executing ∧
    (s.refuseUnentered p t op reason).cp.inbound = s.cp.inbound ∧
    (s.refuseUnentered p t op reason).cp.resetWait = s.cp.resetWait ∧
    (s.refuseUnentered p t op reason).pending = s.pending := by
  and_intros <;> unfold State.refuseUnentered <;> (try dsimp only) <;> (repeat' split) <;> simp

@[simp] theorem State.countRefusal_frame (s : State) (d : DomainId) :
    (s.countRefusal d).tc = s.tc ∧ (s.countRefusal d).shares = s.shares ∧ (s.countRefusal d).te = s.te ∧
    (s.countRefusal d).su = s.su ∧ (s.countRefusal d).vl = s.vl ∧ (s.countRefusal d).eu = s.eu ∧
    (s.countRefusal d).mc = s.mc ∧ (s.countRefusal d).cp = s.cp ∧ (s.countRefusal d).portA = s.portA ∧
    (s.countRefusal d).portB = s.portB ∧ (s.countRefusal d).pending = s.pending := by
  and_intros <;> unfold State.countRefusal <;> (try dsimp only) <;> (repeat' split) <;> simp

@[simp] theorem State.standingRecord_frame (s : State) (d : DomainId) (new : Standing) :
    (s.standingRecord d new).dram = s.dram ∧ (s.standingRecord d new).tc = s.tc ∧
    (s.standingRecord d new).domains = s.domains ∧ (s.standingRecord d new).shares = s.shares ∧
    (s.standingRecord d new).te = s.te ∧ (s.standingRecord d new).su = s.su ∧ (s.standingRecord d new).mc = s.mc ∧
    (s.standingRecord d new).cp.receiver = s.cp.receiver ∧ (s.standingRecord d new).cp.executing = s.cp.executing ∧
    (s.standingRecord d new).cp.inbound = s.cp.inbound ∧ (s.standingRecord d new).cp.resetWait = s.cp.resetWait ∧
    (s.standingRecord d new).portA = s.portA ∧ (s.standingRecord d new).portB = s.portB ∧
    (s.standingRecord d new).pending = s.pending := by
  and_intros <;> unfold State.standingRecord <;> (try dsimp only) <;> (repeat' split) <;> simp

@[simp] theorem State.standingChange_frame (s : State) (d : DomainId) (old new : Standing) :
    (s.standingChange d old new).dram = s.dram ∧ (s.standingChange d old new).tc = s.tc ∧
    (s.standingChange d old new).domains = s.domains ∧ (s.standingChange d old new).shares = s.shares ∧
    (s.standingChange d old new).te = s.te ∧ (s.standingChange d old new).su = s.su ∧
    (s.standingChange d old new).mc = s.mc ∧ (s.standingChange d old new).cp.receiver = s.cp.receiver ∧
    (s.standingChange d old new).cp.executing = s.cp.executing ∧
    (s.standingChange d old new).cp.inbound = s.cp.inbound ∧
    (s.standingChange d old new).cp.resetWait = s.cp.resetWait ∧ (s.standingChange d old new).portA = s.portA ∧
    (s.standingChange d old new).portB = s.portB ∧ (s.standingChange d old new).pending = s.pending := by
  and_intros <;> unfold State.standingChange <;> (try dsimp only) <;> (repeat' split) <;> simp

@[simp] theorem State.watch_frame (s : State) (p : Port) (e : Entry) (seen : TagSeen) :
    (s.watch p e seen).dram = s.dram ∧ (s.watch p e seen).tc = s.tc ∧ (s.watch p e seen).domains = s.domains ∧
    (s.watch p e seen).shares = s.shares ∧ (s.watch p e seen).te = s.te ∧ (s.watch p e seen).su = s.su ∧
    (s.watch p e seen).mc = s.mc ∧ (s.watch p e seen).cp.receiver = s.cp.receiver ∧
    (s.watch p e seen).cp.executing = s.cp.executing ∧ (s.watch p e seen).cp.inbound = s.cp.inbound ∧
    (s.watch p e seen).cp.resetWait = s.cp.resetWait ∧ (s.watch p e seen).portA = s.portA ∧
    (s.watch p e seen).portB = s.portB ∧ (s.watch p e seen).pending = s.pending := by
  and_intros <;> unfold State.watch <;> (try dsimp only) <;> (repeat' split) <;> simp

@[simp] theorem State.ruleEffects_frame (s : State) (p : Port) (e : Entry) (r : Ruling) :
    (s.ruleEffects p e r).tc = s.tc ∧ (s.ruleEffects p e r).shares = s.shares ∧ (s.ruleEffects p e r).te = s.te ∧
    (s.ruleEffects p e r).su = s.su ∧ (s.ruleEffects p e r).mc = s.mc ∧
    (s.ruleEffects p e r).cp.receiver = s.cp.receiver ∧ (s.ruleEffects p e r).cp.executing = s.cp.executing ∧
    (s.ruleEffects p e r).cp.inbound = s.cp.inbound ∧ (s.ruleEffects p e r).cp.resetWait = s.cp.resetWait ∧
    (s.ruleEffects p e r).portA = s.portA ∧ (s.ruleEffects p e r).portB = s.portB ∧
    (s.ruleEffects p e r).pending = s.pending := by
  and_intros <;> unfold State.ruleEffects <;> (try dsimp only) <;> (repeat' split) <;> simp

@[simp] theorem State.refuseEntry_frame (s : State) (p : Port) (e : Entry) (reason : Reason) :
    (s.refuseEntry p e reason).dram = s.dram ∧ (s.refuseEntry p e reason).tc = s.tc ∧
    (s.refuseEntry p e reason).domains = s.domains ∧ (s.refuseEntry p e reason).shares = s.shares ∧
    (s.refuseEntry p e reason).su = s.su ∧ (s.refuseEntry p e reason).vl = s.vl ∧
    (s.refuseEntry p e reason).eu = s.eu ∧ (s.refuseEntry p e reason).mc = s.mc ∧
    (s.refuseEntry p e reason).cp = s.cp ∧ (s.refuseEntry p e reason).pending = s.pending := by
  and_intros <;> unfold State.refuseEntry <;> (try dsimp only) <;> (repeat' split) <;> simp

@[simp] theorem State.serveEntry_frame (s : State) (p : Port) (e : Entry) :
    (s.serveEntry p e).dram = s.dram ∧ (s.serveEntry p e).tc = s.tc ∧ (s.serveEntry p e).domains = s.domains ∧
    (s.serveEntry p e).shares = s.shares ∧ (s.serveEntry p e).te = s.te ∧ (s.serveEntry p e).su = s.su ∧
    (s.serveEntry p e).vl = s.vl ∧ (s.serveEntry p e).eu = s.eu ∧ (s.serveEntry p e).mc = s.mc ∧
    (s.serveEntry p e).cp = s.cp ∧ (s.serveEntry p e).pending = s.pending := by
  and_intros <;> unfold State.serveEntry <;> (try dsimp only) <;> (repeat' split) <;> simp

@[simp] theorem State.applyRuling_frame (s : State) (p : Port) (e : Entry) (r : Ruling) :
    (s.applyRuling p e r).tc = s.tc ∧ (s.applyRuling p e r).shares = s.shares ∧ (s.applyRuling p e r).su = s.su ∧
    (s.applyRuling p e r).mc = s.mc ∧ (s.applyRuling p e r).cp.receiver = s.cp.receiver ∧
    (s.applyRuling p e r).cp.executing = s.cp.executing ∧ (s.applyRuling p e r).cp.inbound = s.cp.inbound ∧
    (s.applyRuling p e r).cp.resetWait = s.cp.resetWait ∧ (s.applyRuling p e r).pending = s.pending := by
  and_intros <;> unfold State.applyRuling <;> (try dsimp only) <;> (repeat' split) <;> simp

@[simp] theorem State.decideWithTag_frame (s : State) (p : Port) (e : Entry) (line : TagLine) :
    (s.decideWithTag p e line).tc = s.tc ∧ (s.decideWithTag p e line).shares = s.shares ∧
    (s.decideWithTag p e line).su = s.su ∧ (s.decideWithTag p e line).mc = s.mc ∧
    (s.decideWithTag p e line).cp.receiver = s.cp.receiver ∧
    (s.decideWithTag p e line).cp.executing = s.cp.executing ∧
    (s.decideWithTag p e line).cp.inbound = s.cp.inbound ∧
    (s.decideWithTag p e line).cp.resetWait = s.cp.resetWait ∧ (s.decideWithTag p e line).pending = s.pending := by
  and_intros <;> unfold State.decideWithTag <;> (try dsimp only) <;> (repeat' split) <;> simp

@[simp] theorem State.lookupRequest_frame (s : State) (p : Port) (e : Entry) :
    (s.lookupRequest p e).shares = s.shares ∧ (s.lookupRequest p e).su = s.su ∧ (s.lookupRequest p e).mc = s.mc ∧
    (s.lookupRequest p e).cp.receiver = s.cp.receiver ∧ (s.lookupRequest p e).cp.executing = s.cp.executing ∧
    (s.lookupRequest p e).cp.inbound = s.cp.inbound ∧ (s.lookupRequest p e).cp.resetWait = s.cp.resetWait ∧
    (s.lookupRequest p e).pending = s.pending := by
  and_intros <;> unfold State.lookupRequest <;> (try dsimp only) <;> (repeat' split) <;> simp

@[simp] theorem State.takeRequest_frame (s : State) (p : Port) (t : ReqTag) :
    (s.takeRequest p t).shares = s.shares ∧ (s.takeRequest p t).su = s.su ∧ (s.takeRequest p t).mc = s.mc ∧
    (s.takeRequest p t).cp.receiver = s.cp.receiver ∧ (s.takeRequest p t).cp.executing = s.cp.executing ∧
    (s.takeRequest p t).cp.inbound = s.cp.inbound ∧ (s.takeRequest p t).cp.resetWait = s.cp.resetWait ∧
    (s.takeRequest p t).pending = s.pending := by
  and_intros <;> unfold State.takeRequest <;> (try dsimp only) <;> (repeat' split) <;> simp

@[simp] theorem State.retakeRequest_frame (s : State) (p : Port) (t : ReqTag) :
    (s.retakeRequest p t).shares = s.shares ∧ (s.retakeRequest p t).su = s.su ∧ (s.retakeRequest p t).mc = s.mc ∧
    (s.retakeRequest p t).cp.receiver = s.cp.receiver ∧ (s.retakeRequest p t).cp.executing = s.cp.executing ∧
    (s.retakeRequest p t).cp.inbound = s.cp.inbound ∧ (s.retakeRequest p t).cp.resetWait = s.cp.resetWait ∧
    (s.retakeRequest p t).pending = s.pending := by
  and_intros <;> unfold State.retakeRequest <;> (try dsimp only) <;> (repeat' split) <;> simp

end Sys2Proof.Machine
end

