-- ==== Sys2Proof/Laws/FramesEngine.lean ====
section
/-! SUPPORT. What the engine's, the scrubber's, the walk's and the fills' operations leave as it was.

There is one lemma for each operation, which names the parts of the state that it does not touch. A part that a lemma
does not name may change. -/

set_option linter.unusedTactic false
set_option linter.unreachableTactic false
set_option linter.unusedSimpArgs false
set_option linter.unnecessarySeqFocus false

namespace Sys2Proof.Machine

@[simp] theorem State.closeRetired_frame (s : State) (d : DomainId) :
    (s.closeRetired d).tc = s.tc ∧ (s.closeRetired d).te = s.te ∧ (s.closeRetired d).su = s.su ∧
    (s.closeRetired d).vl = s.vl ∧ (s.closeRetired d).eu = s.eu ∧ (s.closeRetired d).mc = s.mc ∧
    (s.closeRetired d).cp = s.cp ∧ (s.closeRetired d).portA = s.portA ∧ (s.closeRetired d).portB = s.portB ∧
    (s.closeRetired d).pending = s.pending := by
  and_intros <;> unfold State.closeRetired <;> (try dsimp only) <;> (repeat' split) <;> simp

@[simp] theorem State.markFormatted_frame (s : State) :
    (s.markFormatted).tc = s.tc ∧ (s.markFormatted).domains = s.domains ∧ (s.markFormatted).shares = s.shares ∧
    (s.markFormatted).te = s.te ∧ (s.markFormatted).su = s.su ∧ (s.markFormatted).vl = s.vl ∧
    (s.markFormatted).eu = s.eu ∧ (s.markFormatted).mc.mode = s.mc.mode ∧
    (s.markFormatted).mc.poolCode = s.mc.poolCode ∧ (s.markFormatted).mc.inReset = s.mc.inReset ∧
    (s.markFormatted).mc.resetLow = s.mc.resetLow ∧ (s.markFormatted).mc.timestamp = s.mc.timestamp ∧
    (s.markFormatted).mc.recovery = s.mc.recovery ∧ (s.markFormatted).cp = s.cp ∧
    (s.markFormatted).portA = s.portA ∧ (s.markFormatted).portB = s.portB ∧ (s.markFormatted).pending = s.pending := by
  and_intros <;> unfold State.markFormatted <;> (try dsimp only) <;> (repeat' split) <;> simp

@[simp] theorem State.finishKind_frame (s : State) (c : Command) (st : Completion) :
    (s.finishKind c st).tc = s.tc ∧ (s.finishKind c st).te = s.te ∧ (s.finishKind c st).su = s.su ∧
    (s.finishKind c st).vl = s.vl ∧ (s.finishKind c st).eu = s.eu ∧ (s.finishKind c st).mc.mode = s.mc.mode ∧
    (s.finishKind c st).mc.poolCode = s.mc.poolCode ∧ (s.finishKind c st).mc.inReset = s.mc.inReset ∧
    (s.finishKind c st).mc.resetLow = s.mc.resetLow ∧ (s.finishKind c st).mc.timestamp = s.mc.timestamp ∧
    (s.finishKind c st).mc.recovery = s.mc.recovery ∧ (s.finishKind c st).cp = s.cp ∧
    (s.finishKind c st).portA = s.portA ∧ (s.finishKind c st).portB = s.portB ∧
    (s.finishKind c st).pending = s.pending := by
  and_intros <;> unfold State.finishKind <;> (try dsimp only) <;> (repeat' split) <;> simp

@[simp] theorem State.notify_frame (s : State) (t : Ticket) (st : Completion) :
    (s.notify t st).tc = s.tc ∧ (s.notify t st).su = s.su ∧ (s.notify t st).vl = s.vl ∧ (s.notify t st).eu = s.eu ∧
    (s.notify t st).mc.mode = s.mc.mode ∧ (s.notify t st).mc.poolCode = s.mc.poolCode ∧
    (s.notify t st).mc.inReset = s.mc.inReset ∧ (s.notify t st).mc.resetLow = s.mc.resetLow ∧
    (s.notify t st).mc.timestamp = s.mc.timestamp ∧ (s.notify t st).mc.recovery = s.mc.recovery ∧
    (s.notify t st).cp.receiver = s.cp.receiver ∧ (s.notify t st).cp.executing = s.cp.executing ∧
    (s.notify t st).cp.inbound = s.cp.inbound ∧ (s.notify t st).cp.resetWait = s.cp.resetWait ∧
    (s.notify t st).portA = s.portA ∧ (s.notify t st).portB = s.portB ∧ (s.notify t st).pending = s.pending := by
  and_intros <;> unfold State.notify <;> (try dsimp only) <;> (repeat' split) <;> simp

@[simp] theorem State.notifyDone_frame (s : State) (t : Ticket) :
    (s.notifyDone t).tc = s.tc ∧ (s.notifyDone t).su = s.su ∧ (s.notifyDone t).vl = s.vl ∧
    (s.notifyDone t).eu = s.eu ∧ (s.notifyDone t).mc.mode = s.mc.mode ∧
    (s.notifyDone t).mc.poolCode = s.mc.poolCode ∧ (s.notifyDone t).mc.inReset = s.mc.inReset ∧
    (s.notifyDone t).mc.resetLow = s.mc.resetLow ∧ (s.notifyDone t).mc.timestamp = s.mc.timestamp ∧
    (s.notifyDone t).mc.recovery = s.mc.recovery ∧ (s.notifyDone t).cp.receiver = s.cp.receiver ∧
    (s.notifyDone t).cp.executing = s.cp.executing ∧ (s.notifyDone t).cp.inbound = s.cp.inbound ∧
    (s.notifyDone t).cp.resetWait = s.cp.resetWait ∧ (s.notifyDone t).portA = s.portA ∧
    (s.notifyDone t).portB = s.portB ∧ (s.notifyDone t).pending = s.pending := by
  and_intros <;> unfold State.notifyDone <;> (try dsimp only) <;> (repeat' split) <;> simp

@[simp] theorem State.creditDone_frame (s : State) (t : Ticket) :
    (s.creditDone t).dram = s.dram ∧ (s.creditDone t).tc = s.tc ∧ (s.creditDone t).domains = s.domains ∧
    (s.creditDone t).shares = s.shares ∧ (s.creditDone t).su = s.su ∧ (s.creditDone t).vl = s.vl ∧
    (s.creditDone t).eu = s.eu ∧ (s.creditDone t).mc = s.mc ∧ (s.creditDone t).cp = s.cp ∧
    (s.creditDone t).portA = s.portA ∧ (s.creditDone t).portB = s.portB ∧ (s.creditDone t).pending = s.pending := by
  and_intros <;> unfold State.creditDone <;> (try dsimp only) <;> (repeat' split) <;> simp

@[simp] theorem State.creditPoisoned_frame (s : State) (t : Ticket) :
    (s.creditPoisoned t).dram = s.dram ∧ (s.creditPoisoned t).tc = s.tc ∧
    (s.creditPoisoned t).domains = s.domains ∧ (s.creditPoisoned t).shares = s.shares ∧
    (s.creditPoisoned t).su = s.su ∧ (s.creditPoisoned t).vl = s.vl ∧ (s.creditPoisoned t).eu = s.eu ∧
    (s.creditPoisoned t).mc = s.mc ∧ (s.creditPoisoned t).cp = s.cp ∧ (s.creditPoisoned t).portA = s.portA ∧
    (s.creditPoisoned t).portB = s.portB ∧ (s.creditPoisoned t).pending = s.pending := by
  and_intros <;> unfold State.creditPoisoned <;> (try dsimp only) <;> (repeat' split) <;> simp

@[simp] theorem State.heldUp_frame (s : State) (d : DomainId) :
    (s.heldUp d).dram = s.dram ∧ (s.heldUp d).tc = s.tc ∧ (s.heldUp d).shares = s.shares ∧ (s.heldUp d).te = s.te ∧
    (s.heldUp d).su = s.su ∧ (s.heldUp d).vl = s.vl ∧ (s.heldUp d).eu = s.eu ∧ (s.heldUp d).mc = s.mc ∧
    (s.heldUp d).cp = s.cp ∧ (s.heldUp d).portA = s.portA ∧ (s.heldUp d).portB = s.portB ∧
    (s.heldUp d).pending = s.pending := by
  and_intros <;> unfold State.heldUp <;> (try dsimp only) <;> (repeat' split) <;> simp

@[simp] theorem State.heldDown_frame (s : State) (d : DomainId) :
    (s.heldDown d).dram = s.dram ∧ (s.heldDown d).tc = s.tc ∧ (s.heldDown d).shares = s.shares ∧
    (s.heldDown d).te = s.te ∧ (s.heldDown d).su = s.su ∧ (s.heldDown d).vl = s.vl ∧ (s.heldDown d).eu = s.eu ∧
    (s.heldDown d).mc = s.mc ∧ (s.heldDown d).cp = s.cp ∧ (s.heldDown d).portA = s.portA ∧
    (s.heldDown d).portB = s.portB ∧ (s.heldDown d).pending = s.pending := by
  and_intros <;> unfold State.heldDown <;> (try dsimp only) <;> (repeat' split) <;> simp

@[simp] theorem State.refUp_frame (s : State) (i : ShareIx) :
    (s.refUp i).dram = s.dram ∧ (s.refUp i).tc = s.tc ∧ (s.refUp i).domains = s.domains ∧ (s.refUp i).te = s.te ∧
    (s.refUp i).su = s.su ∧ (s.refUp i).vl = s.vl ∧ (s.refUp i).eu = s.eu ∧ (s.refUp i).mc = s.mc ∧
    (s.refUp i).cp = s.cp ∧ (s.refUp i).portA = s.portA ∧ (s.refUp i).portB = s.portB ∧
    (s.refUp i).pending = s.pending := by
  and_intros <;> unfold State.refUp <;> (try dsimp only) <;> (repeat' split) <;> simp

@[simp] theorem State.refDown_frame (s : State) (i : ShareIx) :
    (s.refDown i).dram = s.dram ∧ (s.refDown i).tc = s.tc ∧ (s.refDown i).domains = s.domains ∧
    (s.refDown i).te = s.te ∧ (s.refDown i).su = s.su ∧ (s.refDown i).vl = s.vl ∧ (s.refDown i).eu = s.eu ∧
    (s.refDown i).mc = s.mc ∧ (s.refDown i).cp = s.cp ∧ (s.refDown i).portA = s.portA ∧
    (s.refDown i).portB = s.portB ∧ (s.refDown i).pending = s.pending := by
  and_intros <;> unfold State.refDown <;> (try dsimp only) <;> (repeat' split) <;> simp

@[simp] theorem State.enterDrain_frame (s : State) (t : Ticket) :
    (s.enterDrain t).dram = s.dram ∧ (s.enterDrain t).tc = s.tc ∧ (s.enterDrain t).domains = s.domains ∧
    (s.enterDrain t).shares = s.shares ∧ (s.enterDrain t).su = s.su ∧ (s.enterDrain t).vl = s.vl ∧
    (s.enterDrain t).eu = s.eu ∧ (s.enterDrain t).mc = s.mc ∧ (s.enterDrain t).cp = s.cp ∧
    (s.enterDrain t).portA = s.portA ∧ (s.enterDrain t).portB = s.portB ∧ (s.enterDrain t).pending = s.pending := by
  and_intros <;> unfold State.enterDrain <;> (try dsimp only) <;> (repeat' split) <;> simp

@[simp] theorem State.applyCounts_frame (s : State) (held refs : SMap Nat) :
    (s.applyCounts held refs).dram = s.dram ∧ (s.applyCounts held refs).tc = s.tc ∧
    (s.applyCounts held refs).te = s.te ∧ (s.applyCounts held refs).su = s.su ∧
    (s.applyCounts held refs).vl = s.vl ∧ (s.applyCounts held refs).eu = s.eu ∧
    (s.applyCounts held refs).mc = s.mc ∧ (s.applyCounts held refs).cp = s.cp ∧
    (s.applyCounts held refs).portA = s.portA ∧ (s.applyCounts held refs).portB = s.portB ∧
    (s.applyCounts held refs).pending = s.pending := by
  and_intros <;> unfold State.applyCounts <;> (try dsimp only) <;> (repeat' split) <;> simp

@[simp] theorem State.applyRecount_frame (s : State) (w : Work) :
    (s.applyRecount w).tc = s.tc ∧ (s.applyRecount w).su = s.su ∧ (s.applyRecount w).vl = s.vl ∧
    (s.applyRecount w).eu = s.eu ∧ (s.applyRecount w).mc.mode = s.mc.mode ∧
    (s.applyRecount w).mc.poolCode = s.mc.poolCode ∧ (s.applyRecount w).mc.inReset = s.mc.inReset ∧
    (s.applyRecount w).mc.resetLow = s.mc.resetLow ∧ (s.applyRecount w).mc.timestamp = s.mc.timestamp ∧
    (s.applyRecount w).mc.recovery = s.mc.recovery ∧ (s.applyRecount w).cp.receiver = s.cp.receiver ∧
    (s.applyRecount w).cp.executing = s.cp.executing ∧ (s.applyRecount w).cp.inbound = s.cp.inbound ∧
    (s.applyRecount w).cp.resetWait = s.cp.resetWait ∧ (s.applyRecount w).portA = s.portA ∧
    (s.applyRecount w).portB = s.portB ∧ (s.applyRecount w).pending = s.pending := by
  and_intros <;> unfold State.applyRecount <;> (try dsimp only) <;> (repeat' split) <;> simp

@[simp] theorem State.enterMark_frame (s : State) (t : Ticket) (start : Nat) :
    (s.enterMark t start).dram = s.dram ∧ (s.enterMark t start).tc = s.tc ∧
    (s.enterMark t start).domains = s.domains ∧ (s.enterMark t start).shares = s.shares ∧
    (s.enterMark t start).su = s.su ∧ (s.enterMark t start).vl = s.vl ∧ (s.enterMark t start).eu = s.eu ∧
    (s.enterMark t start).mc = s.mc ∧ (s.enterMark t start).cp = s.cp ∧ (s.enterMark t start).portA = s.portA ∧
    (s.enterMark t start).portB = s.portB ∧ (s.enterMark t start).pending = s.pending := by
  and_intros <;> unfold State.enterMark <;> (try dsimp only) <;> (repeat' split) <;> simp

@[simp] theorem State.endVerify_frame (s : State) (w : Work) (c : Command) :
    (s.endVerify w c).tc = s.tc ∧ (s.endVerify w c).su = s.su ∧ (s.endVerify w c).vl = s.vl ∧
    (s.endVerify w c).eu = s.eu ∧ (s.endVerify w c).mc.mode = s.mc.mode ∧
    (s.endVerify w c).mc.poolCode = s.mc.poolCode ∧ (s.endVerify w c).mc.inReset = s.mc.inReset ∧
    (s.endVerify w c).mc.resetLow = s.mc.resetLow ∧ (s.endVerify w c).mc.timestamp = s.mc.timestamp ∧
    (s.endVerify w c).mc.recovery = s.mc.recovery ∧ (s.endVerify w c).cp.receiver = s.cp.receiver ∧
    (s.endVerify w c).cp.executing = s.cp.executing ∧ (s.endVerify w c).cp.inbound = s.cp.inbound ∧
    (s.endVerify w c).cp.resetWait = s.cp.resetWait ∧ (s.endVerify w c).portA = s.portA ∧
    (s.endVerify w c).portB = s.portB ∧ (s.endVerify w c).pending = s.pending := by
  and_intros <;> unfold State.endVerify <;> (try dsimp only) <;> (repeat' split) <;> simp

@[simp] theorem State.verifyAct_frame (s : State) (w : Work) (c : Command) (r : TagRec) :
    (s.verifyAct w c r).tc = s.tc ∧ (s.verifyAct w c r).su = s.su ∧ (s.verifyAct w c r).vl = s.vl ∧
    (s.verifyAct w c r).eu = s.eu ∧ (s.verifyAct w c r).mc.mode = s.mc.mode ∧
    (s.verifyAct w c r).mc.poolCode = s.mc.poolCode ∧ (s.verifyAct w c r).mc.inReset = s.mc.inReset ∧
    (s.verifyAct w c r).mc.resetLow = s.mc.resetLow ∧ (s.verifyAct w c r).mc.timestamp = s.mc.timestamp ∧
    (s.verifyAct w c r).mc.recovery = s.mc.recovery ∧ (s.verifyAct w c r).cp.receiver = s.cp.receiver ∧
    (s.verifyAct w c r).cp.executing = s.cp.executing ∧ (s.verifyAct w c r).cp.inbound = s.cp.inbound ∧
    (s.verifyAct w c r).cp.resetWait = s.cp.resetWait ∧ (s.verifyAct w c r).portA = s.portA ∧
    (s.verifyAct w c r).portB = s.portB ∧ (s.verifyAct w c r).pending = s.pending := by
  and_intros <;> unfold State.verifyAct <;> (try dsimp only) <;> (repeat' split) <;> simp

@[simp] theorem State.beginVerify_frame (s : State) (w : Work) (c : Command) :
    (s.beginVerify w c).tc = s.tc ∧ (s.beginVerify w c).su = s.su ∧ (s.beginVerify w c).vl = s.vl ∧
    (s.beginVerify w c).eu = s.eu ∧ (s.beginVerify w c).mc.mode = s.mc.mode ∧
    (s.beginVerify w c).mc.poolCode = s.mc.poolCode ∧ (s.beginVerify w c).mc.inReset = s.mc.inReset ∧
    (s.beginVerify w c).mc.resetLow = s.mc.resetLow ∧ (s.beginVerify w c).mc.timestamp = s.mc.timestamp ∧
    (s.beginVerify w c).mc.recovery = s.mc.recovery ∧ (s.beginVerify w c).cp.receiver = s.cp.receiver ∧
    (s.beginVerify w c).cp.executing = s.cp.executing ∧ (s.beginVerify w c).cp.inbound = s.cp.inbound ∧
    (s.beginVerify w c).cp.resetWait = s.cp.resetWait ∧ (s.beginVerify w c).portA = s.portA ∧
    (s.beginVerify w c).portB = s.portB ∧ (s.beginVerify w c).pending = s.pending := by
  and_intros <;> unfold State.beginVerify <;> (try dsimp only) <;> (repeat' split) <;> simp

@[simp] theorem State.skipCredit_frame (s : State) (t : Ticket) (c : Command) :
    (s.skipCredit t c).dram = s.dram ∧ (s.skipCredit t c).tc = s.tc ∧ (s.skipCredit t c).domains = s.domains ∧
    (s.skipCredit t c).shares = s.shares ∧ (s.skipCredit t c).su = s.su ∧ (s.skipCredit t c).vl = s.vl ∧
    (s.skipCredit t c).eu = s.eu ∧ (s.skipCredit t c).mc = s.mc ∧ (s.skipCredit t c).cp = s.cp ∧
    (s.skipCredit t c).portA = s.portA ∧ (s.skipCredit t c).portB = s.portB ∧
    (s.skipCredit t c).pending = s.pending := by
  and_intros <;> unfold State.skipCredit <;> (try dsimp only) <;> (repeat' split) <;> simp

@[simp] theorem State.endMark_frame (s : State) (t : Ticket) (c : Command) :
    (s.endMark t c).tc = s.tc ∧ (s.endMark t c).su = s.su ∧ (s.endMark t c).vl = s.vl ∧ (s.endMark t c).eu = s.eu ∧
    (s.endMark t c).mc.mode = s.mc.mode ∧ (s.endMark t c).mc.poolCode = s.mc.poolCode ∧
    (s.endMark t c).mc.inReset = s.mc.inReset ∧ (s.endMark t c).mc.resetLow = s.mc.resetLow ∧
    (s.endMark t c).mc.timestamp = s.mc.timestamp ∧ (s.endMark t c).mc.recovery = s.mc.recovery ∧
    (s.endMark t c).cp.receiver = s.cp.receiver ∧ (s.endMark t c).cp.executing = s.cp.executing ∧
    (s.endMark t c).cp.inbound = s.cp.inbound ∧ (s.endMark t c).cp.resetWait = s.cp.resetWait ∧
    (s.endMark t c).portA = s.portA ∧ (s.endMark t c).portB = s.portB ∧ (s.endMark t c).pending = s.pending := by
  and_intros <;> unfold State.endMark <;> (try dsimp only) <;> (repeat' split) <;> simp

@[simp] theorem State.markNext_frame (s : State) (w : Work) (c : Command) :
    (s.markNext w c).tc = s.tc ∧ (s.markNext w c).su = s.su ∧ (s.markNext w c).vl = s.vl ∧
    (s.markNext w c).eu = s.eu ∧ (s.markNext w c).mc.mode = s.mc.mode ∧
    (s.markNext w c).mc.poolCode = s.mc.poolCode ∧ (s.markNext w c).mc.inReset = s.mc.inReset ∧
    (s.markNext w c).mc.resetLow = s.mc.resetLow ∧ (s.markNext w c).mc.timestamp = s.mc.timestamp ∧
    (s.markNext w c).mc.recovery = s.mc.recovery ∧ (s.markNext w c).cp.receiver = s.cp.receiver ∧
    (s.markNext w c).cp.executing = s.cp.executing ∧ (s.markNext w c).cp.inbound = s.cp.inbound ∧
    (s.markNext w c).cp.resetWait = s.cp.resetWait ∧ (s.markNext w c).portA = s.portA ∧
    (s.markNext w c).portB = s.portB ∧ (s.markNext w c).pending = s.pending := by
  and_intros <;> unfold State.markNext <;> (try dsimp only) <;> (repeat' split) <;> simp

@[simp] theorem State.engineWaits_frame (s : State) :
    (s.engineWaits).dram = s.dram ∧ (s.engineWaits).tc = s.tc ∧ (s.engineWaits).domains = s.domains ∧
    (s.engineWaits).shares = s.shares ∧ (s.engineWaits).te.table = s.te.table ∧ (s.engineWaits).su = s.su ∧
    (s.engineWaits).vl = s.vl ∧ (s.engineWaits).eu = s.eu ∧ (s.engineWaits).mc = s.mc ∧ (s.engineWaits).cp = s.cp ∧
    (s.engineWaits).portA = s.portA ∧ (s.engineWaits).portB = s.portB ∧ (s.engineWaits).pending = s.pending := by
  and_intros <;> unfold State.engineWaits <;> (try dsimp only) <;> (repeat' split) <;> simp

@[simp] theorem State.noteCredited_frame (s : State) (c : Command) (g : Nat) :
    (s.noteCredited c g).dram = s.dram ∧ (s.noteCredited c g).tc = s.tc ∧
    (s.noteCredited c g).domains = s.domains ∧ (s.noteCredited c g).shares = s.shares ∧
    (s.noteCredited c g).te.table = s.te.table ∧ (s.noteCredited c g).su = s.su ∧ (s.noteCredited c g).vl = s.vl ∧
    (s.noteCredited c g).eu = s.eu ∧ (s.noteCredited c g).mc = s.mc ∧ (s.noteCredited c g).cp = s.cp ∧
    (s.noteCredited c g).portA = s.portA ∧ (s.noteCredited c g).portB = s.portB ∧
    (s.noteCredited c g).pending = s.pending := by
  and_intros <;> unfold State.noteCredited <;> (try dsimp only) <;> (repeat' split) <;> simp

theorem markTag_dram {t : Ticket} {c : Command} {r new : TagRec} {k : State → State} (h : markTag t c r = some (new, k)) (s : State) :
    (k s).dram = s.dram := by
  unfold markTag at h
  (repeat' split at h) <;> first | cases h; done | (cases h; simp)
theorem markTag_dram_mem {t : Ticket} {c : Command} {r new : TagRec} {k : State → State} (h : markTag t c r = some (new, k)) (s : State) :
    (k s).dram.mem = s.dram.mem := by
  unfold markTag at h
  (repeat' split at h) <;> first | cases h; done | (cases h; simp)
theorem markTag_dram_badUnits {t : Ticket} {c : Command} {r new : TagRec} {k : State → State} (h : markTag t c r = some (new, k)) (s : State) :
    (k s).dram.badUnits = s.dram.badUnits := by
  unfold markTag at h
  (repeat' split at h) <;> first | cases h; done | (cases h; simp)
theorem markTag_dram_damageCount {t : Ticket} {c : Command} {r new : TagRec} {k : State → State} (h : markTag t c r = some (new, k)) (s : State) :
    (k s).dram.damageCount = s.dram.damageCount := by
  unfold markTag at h
  (repeat' split at h) <;> first | cases h; done | (cases h; simp)
theorem markTag_tc {t : Ticket} {c : Command} {r new : TagRec} {k : State → State} (h : markTag t c r = some (new, k)) (s : State) :
    (k s).tc = s.tc := by
  unfold markTag at h
  (repeat' split at h) <;> first | cases h; done | (cases h; simp)
theorem markTag_tc_fills {t : Ticket} {c : Command} {r new : TagRec} {k : State → State} (h : markTag t c r = some (new, k)) (s : State) :
    (k s).tc.fills = s.tc.fills := by
  unfold markTag at h
  (repeat' split at h) <;> first | cases h; done | (cases h; simp)
theorem markTag_su {t : Ticket} {c : Command} {r new : TagRec} {k : State → State} (h : markTag t c r = some (new, k)) (s : State) :
    (k s).su = s.su := by
  unfold markTag at h
  (repeat' split at h) <;> first | cases h; done | (cases h; simp)
theorem markTag_su_write {t : Ticket} {c : Command} {r new : TagRec} {k : State → State} (h : markTag t c r = some (new, k)) (s : State) :
    (k s).su.write = s.su.write := by
  unfold markTag at h
  (repeat' split at h) <;> first | cases h; done | (cases h; simp)
theorem markTag_vl {t : Ticket} {c : Command} {r new : TagRec} {k : State → State} (h : markTag t c r = some (new, k)) (s : State) :
    (k s).vl = s.vl := by
  unfold markTag at h
  (repeat' split at h) <;> first | cases h; done | (cases h; simp)
theorem markTag_eu {t : Ticket} {c : Command} {r new : TagRec} {k : State → State} (h : markTag t c r = some (new, k)) (s : State) :
    (k s).eu = s.eu := by
  unfold markTag at h
  (repeat' split at h) <;> first | cases h; done | (cases h; simp)
theorem markTag_mc {t : Ticket} {c : Command} {r new : TagRec} {k : State → State} (h : markTag t c r = some (new, k)) (s : State) :
    (k s).mc = s.mc := by
  unfold markTag at h
  (repeat' split at h) <;> first | cases h; done | (cases h; simp)
theorem markTag_mc_mode {t : Ticket} {c : Command} {r new : TagRec} {k : State → State} (h : markTag t c r = some (new, k)) (s : State) :
    (k s).mc.mode = s.mc.mode := by
  unfold markTag at h
  (repeat' split at h) <;> first | cases h; done | (cases h; simp)
theorem markTag_mc_poolCode {t : Ticket} {c : Command} {r new : TagRec} {k : State → State} (h : markTag t c r = some (new, k)) (s : State) :
    (k s).mc.poolCode = s.mc.poolCode := by
  unfold markTag at h
  (repeat' split at h) <;> first | cases h; done | (cases h; simp)
theorem markTag_mc_inReset {t : Ticket} {c : Command} {r new : TagRec} {k : State → State} (h : markTag t c r = some (new, k)) (s : State) :
    (k s).mc.inReset = s.mc.inReset := by
  unfold markTag at h
  (repeat' split at h) <;> first | cases h; done | (cases h; simp)
theorem markTag_mc_resetLow {t : Ticket} {c : Command} {r new : TagRec} {k : State → State} (h : markTag t c r = some (new, k)) (s : State) :
    (k s).mc.resetLow = s.mc.resetLow := by
  unfold markTag at h
  (repeat' split at h) <;> first | cases h; done | (cases h; simp)
theorem markTag_mc_storeState {t : Ticket} {c : Command} {r new : TagRec} {k : State → State} (h : markTag t c r = some (new, k)) (s : State) :
    (k s).mc.storeState = s.mc.storeState := by
  unfold markTag at h
  (repeat' split at h) <;> first | cases h; done | (cases h; simp)
theorem markTag_mc_timestamp {t : Ticket} {c : Command} {r new : TagRec} {k : State → State} (h : markTag t c r = some (new, k)) (s : State) :
    (k s).mc.timestamp = s.mc.timestamp := by
  unfold markTag at h
  (repeat' split at h) <;> first | cases h; done | (cases h; simp)
theorem markTag_mc_recovery {t : Ticket} {c : Command} {r new : TagRec} {k : State → State} (h : markTag t c r = some (new, k)) (s : State) :
    (k s).mc.recovery = s.mc.recovery := by
  unfold markTag at h
  (repeat' split at h) <;> first | cases h; done | (cases h; simp)
theorem markTag_cp {t : Ticket} {c : Command} {r new : TagRec} {k : State → State} (h : markTag t c r = some (new, k)) (s : State) :
    (k s).cp = s.cp := by
  unfold markTag at h
  (repeat' split at h) <;> first | cases h; done | (cases h; simp)
theorem markTag_cp_receiver {t : Ticket} {c : Command} {r new : TagRec} {k : State → State} (h : markTag t c r = some (new, k)) (s : State) :
    (k s).cp.receiver = s.cp.receiver := by
  unfold markTag at h
  (repeat' split at h) <;> first | cases h; done | (cases h; simp)
theorem markTag_cp_executing {t : Ticket} {c : Command} {r new : TagRec} {k : State → State} (h : markTag t c r = some (new, k)) (s : State) :
    (k s).cp.executing = s.cp.executing := by
  unfold markTag at h
  (repeat' split at h) <;> first | cases h; done | (cases h; simp)
theorem markTag_cp_inbound {t : Ticket} {c : Command} {r new : TagRec} {k : State → State} (h : markTag t c r = some (new, k)) (s : State) :
    (k s).cp.inbound = s.cp.inbound := by
  unfold markTag at h
  (repeat' split at h) <;> first | cases h; done | (cases h; simp)
theorem markTag_cp_resetWait {t : Ticket} {c : Command} {r new : TagRec} {k : State → State} (h : markTag t c r = some (new, k)) (s : State) :
    (k s).cp.resetWait = s.cp.resetWait := by
  unfold markTag at h
  (repeat' split at h) <;> first | cases h; done | (cases h; simp)
theorem markTag_portA {t : Ticket} {c : Command} {r new : TagRec} {k : State → State} (h : markTag t c r = some (new, k)) (s : State) :
    (k s).portA = s.portA := by
  unfold markTag at h
  (repeat' split at h) <;> first | cases h; done | (cases h; simp)
theorem markTag_portB {t : Ticket} {c : Command} {r new : TagRec} {k : State → State} (h : markTag t c r = some (new, k)) (s : State) :
    (k s).portB = s.portB := by
  unfold markTag at h
  (repeat' split at h) <;> first | cases h; done | (cases h; simp)
theorem markTag_pending {t : Ticket} {c : Command} {r new : TagRec} {k : State → State} (h : markTag t c r = some (new, k)) (s : State) :
    (k s).pending = s.pending := by
  unfold markTag at h
  (repeat' split at h) <;> first | cases h; done | (cases h; simp)
@[simp] theorem State.markAct_su (s : State) (w : Work) (c : Command) (r : TagRec) : (State.markAct s w c r).su = s.su := by
  unfold State.markAct
  split
  · rename_i h; simp [markTag_su h]
  · simp
@[simp] theorem State.markAct_vl (s : State) (w : Work) (c : Command) (r : TagRec) : (State.markAct s w c r).vl = s.vl := by
  unfold State.markAct
  split
  · rename_i h; simp [markTag_vl h]
  · simp
@[simp] theorem State.markAct_eu (s : State) (w : Work) (c : Command) (r : TagRec) : (State.markAct s w c r).eu = s.eu := by
  unfold State.markAct
  split
  · rename_i h; simp [markTag_eu h]
  · simp
@[simp] theorem State.markAct_mc_mode (s : State) (w : Work) (c : Command) (r : TagRec) : (State.markAct s w c r).mc.mode = s.mc.mode := by
  unfold State.markAct
  split
  · rename_i h; simp [markTag_mc_mode h]
  · simp
@[simp] theorem State.markAct_mc_poolCode (s : State) (w : Work) (c : Command) (r : TagRec) : (State.markAct s w c r).mc.poolCode = s.mc.poolCode := by
  unfold State.markAct
  split
  · rename_i h; simp [markTag_mc_poolCode h]
  · simp
@[simp] theorem State.markAct_mc_inReset (s : State) (w : Work) (c : Command) (r : TagRec) : (State.markAct s w c r).mc.inReset = s.mc.inReset := by
  unfold State.markAct
  split
  · rename_i h; simp [markTag_mc_inReset h]
  · simp
@[simp] theorem State.markAct_mc_resetLow (s : State) (w : Work) (c : Command) (r : TagRec) : (State.markAct s w c r).mc.resetLow = s.mc.resetLow := by
  unfold State.markAct
  split
  · rename_i h; simp [markTag_mc_resetLow h]
  · simp
@[simp] theorem State.markAct_mc_timestamp (s : State) (w : Work) (c : Command) (r : TagRec) : (State.markAct s w c r).mc.timestamp = s.mc.timestamp := by
  unfold State.markAct
  split
  · rename_i h; simp [markTag_mc_timestamp h]
  · simp
@[simp] theorem State.markAct_mc_recovery (s : State) (w : Work) (c : Command) (r : TagRec) : (State.markAct s w c r).mc.recovery = s.mc.recovery := by
  unfold State.markAct
  split
  · rename_i h; simp [markTag_mc_recovery h]
  · simp
@[simp] theorem State.markAct_cp_receiver (s : State) (w : Work) (c : Command) (r : TagRec) : (State.markAct s w c r).cp.receiver = s.cp.receiver := by
  unfold State.markAct
  split
  · rename_i h; simp [markTag_cp_receiver h]
  · simp
@[simp] theorem State.markAct_cp_executing (s : State) (w : Work) (c : Command) (r : TagRec) : (State.markAct s w c r).cp.executing = s.cp.executing := by
  unfold State.markAct
  split
  · rename_i h; simp [markTag_cp_executing h]
  · simp
@[simp] theorem State.markAct_cp_inbound (s : State) (w : Work) (c : Command) (r : TagRec) : (State.markAct s w c r).cp.inbound = s.cp.inbound := by
  unfold State.markAct
  split
  · rename_i h; simp [markTag_cp_inbound h]
  · simp
@[simp] theorem State.markAct_cp_resetWait (s : State) (w : Work) (c : Command) (r : TagRec) : (State.markAct s w c r).cp.resetWait = s.cp.resetWait := by
  unfold State.markAct
  split
  · rename_i h; simp [markTag_cp_resetWait h]
  · simp
@[simp] theorem State.markAct_portA (s : State) (w : Work) (c : Command) (r : TagRec) : (State.markAct s w c r).portA = s.portA := by
  unfold State.markAct
  split
  · rename_i h; simp [markTag_portA h]
  · simp
@[simp] theorem State.markAct_portB (s : State) (w : Work) (c : Command) (r : TagRec) : (State.markAct s w c r).portB = s.portB := by
  unfold State.markAct
  split
  · rename_i h; simp [markTag_portB h]
  · simp
@[simp] theorem State.markAct_pending (s : State) (w : Work) (c : Command) (r : TagRec) : (State.markAct s w c r).pending = s.pending := by
  unfold State.markAct
  split
  · rename_i h; simp [markTag_pending h]
  · simp

@[simp] theorem State.updateTail_frame (s : State) (f : Run → Run) :
    (s.updateTail f).dram = s.dram ∧ (s.updateTail f).tc = s.tc ∧ (s.updateTail f).domains = s.domains ∧
    (s.updateTail f).shares = s.shares ∧ (s.updateTail f).te = s.te ∧ (s.updateTail f).su.write = s.su.write ∧
    (s.updateTail f).vl = s.vl ∧ (s.updateTail f).eu = s.eu ∧ (s.updateTail f).mc = s.mc ∧
    (s.updateTail f).cp = s.cp ∧ (s.updateTail f).portA = s.portA ∧ (s.updateTail f).portB = s.portB ∧
    (s.updateTail f).pending = s.pending := by
  and_intros <;> unfold State.updateTail <;> (try dsimp only) <;> (repeat' split) <;> simp

@[simp] theorem State.appendRun_frame (s : State) (first : Nat) (t : Option Ticket) :
    (s.appendRun first t).dram = s.dram ∧ (s.appendRun first t).tc = s.tc ∧
    (s.appendRun first t).domains = s.domains ∧ (s.appendRun first t).shares = s.shares ∧
    (s.appendRun first t).te = s.te ∧ (s.appendRun first t).su.write = s.su.write ∧
    (s.appendRun first t).vl = s.vl ∧ (s.appendRun first t).eu = s.eu ∧ (s.appendRun first t).mc = s.mc ∧
    (s.appendRun first t).cp = s.cp ∧ (s.appendRun first t).portA = s.portA ∧
    (s.appendRun first t).portB = s.portB ∧ (s.appendRun first t).pending = s.pending := by
  and_intros <;> unfold State.appendRun <;> (try dsimp only) <;> (repeat' split) <;> simp

@[simp] theorem State.engineOpens_frame (s : State) (w : Work) :
    (s.engineOpens w).dram = s.dram ∧ (s.engineOpens w).tc = s.tc ∧ (s.engineOpens w).domains = s.domains ∧
    (s.engineOpens w).shares = s.shares ∧ (s.engineOpens w).su.write = s.su.write ∧ (s.engineOpens w).vl = s.vl ∧
    (s.engineOpens w).eu = s.eu ∧ (s.engineOpens w).mc = s.mc ∧ (s.engineOpens w).cp = s.cp ∧
    (s.engineOpens w).portA = s.portA ∧ (s.engineOpens w).portB = s.portB ∧ (s.engineOpens w).pending = s.pending := by
  and_intros <;> unfold State.engineOpens <;> (try dsimp only) <;> (repeat' split) <;> simp

@[simp] theorem State.openRun_frame (s : State) (w : Work) :
    (s.openRun w).dram = s.dram ∧ (s.openRun w).tc = s.tc ∧ (s.openRun w).domains = s.domains ∧
    (s.openRun w).shares = s.shares ∧ (s.openRun w).su.write = s.su.write ∧ (s.openRun w).vl = s.vl ∧
    (s.openRun w).eu = s.eu ∧ (s.openRun w).mc = s.mc ∧ (s.openRun w).cp = s.cp ∧ (s.openRun w).portA = s.portA ∧
    (s.openRun w).portB = s.portB ∧ (s.openRun w).pending = s.pending := by
  and_intros <;> unfold State.openRun <;> (try dsimp only) <;> (repeat' split) <;> simp

@[simp] theorem State.closeRun_frame (s : State) :
    (s.closeRun).dram = s.dram ∧ (s.closeRun).tc = s.tc ∧ (s.closeRun).domains = s.domains ∧
    (s.closeRun).shares = s.shares ∧ (s.closeRun).te.table = s.te.table ∧ (s.closeRun).su.write = s.su.write ∧
    (s.closeRun).vl = s.vl ∧ (s.closeRun).eu = s.eu ∧ (s.closeRun).mc = s.mc ∧ (s.closeRun).cp = s.cp ∧
    (s.closeRun).portA = s.portA ∧ (s.closeRun).portB = s.portB ∧ (s.closeRun).pending = s.pending := by
  and_intros <;> unfold State.closeRun <;> (try dsimp only) <;> (repeat' split) <;> simp

@[simp] theorem State.growRun_frame (s : State) (n : Nat) :
    (s.growRun n).dram = s.dram ∧ (s.growRun n).tc = s.tc ∧ (s.growRun n).domains = s.domains ∧
    (s.growRun n).shares = s.shares ∧ (s.growRun n).te.table = s.te.table ∧ (s.growRun n).su.write = s.su.write ∧
    (s.growRun n).vl = s.vl ∧ (s.growRun n).eu = s.eu ∧ (s.growRun n).mc = s.mc ∧ (s.growRun n).cp = s.cp ∧
    (s.growRun n).portA = s.portA ∧ (s.growRun n).portB = s.portB ∧ (s.growRun n).pending = s.pending := by
  and_intros <;> unfold State.growRun <;> (try dsimp only) <;> (repeat' split) <;> simp

@[simp] theorem State.skipInRun_frame (s : State) (w : Work) :
    (s.skipInRun w).dram = s.dram ∧ (s.skipInRun w).tc = s.tc ∧ (s.skipInRun w).domains = s.domains ∧
    (s.skipInRun w).shares = s.shares ∧ (s.skipInRun w).te.table = s.te.table ∧
    (s.skipInRun w).su.write = s.su.write ∧ (s.skipInRun w).vl = s.vl ∧ (s.skipInRun w).eu = s.eu ∧
    (s.skipInRun w).mc = s.mc ∧ (s.skipInRun w).cp = s.cp ∧ (s.skipInRun w).portA = s.portA ∧
    (s.skipInRun w).portB = s.portB ∧ (s.skipInRun w).pending = s.pending := by
  and_intros <;> unfold State.skipInRun <;> (try dsimp only) <;> (repeat' split) <;> simp

@[simp] theorem State.endHandoff_frame (s : State) (t : Ticket) :
    (s.endHandoff t).tc = s.tc ∧ (s.endHandoff t).su.write = s.su.write ∧ (s.endHandoff t).vl = s.vl ∧
    (s.endHandoff t).eu = s.eu ∧ (s.endHandoff t).mc.mode = s.mc.mode ∧
    (s.endHandoff t).mc.poolCode = s.mc.poolCode ∧ (s.endHandoff t).mc.inReset = s.mc.inReset ∧
    (s.endHandoff t).mc.resetLow = s.mc.resetLow ∧ (s.endHandoff t).mc.timestamp = s.mc.timestamp ∧
    (s.endHandoff t).mc.recovery = s.mc.recovery ∧ (s.endHandoff t).cp.receiver = s.cp.receiver ∧
    (s.endHandoff t).cp.executing = s.cp.executing ∧ (s.endHandoff t).cp.inbound = s.cp.inbound ∧
    (s.endHandoff t).cp.resetWait = s.cp.resetWait ∧ (s.endHandoff t).portA = s.portA ∧
    (s.endHandoff t).portB = s.portB ∧ (s.endHandoff t).pending = s.pending := by
  and_intros <;> unfold State.endHandoff <;> (try dsimp only) <;> (repeat' split) <;> simp

@[simp] theorem State.handoffNext_frame (s : State) (w : Work) (c : Command) (n : Nat) :
    (s.handoffNext w c n).tc = s.tc ∧ (s.handoffNext w c n).su.write = s.su.write ∧
    (s.handoffNext w c n).vl = s.vl ∧ (s.handoffNext w c n).eu = s.eu ∧ (s.handoffNext w c n).mc.mode = s.mc.mode ∧
    (s.handoffNext w c n).mc.poolCode = s.mc.poolCode ∧ (s.handoffNext w c n).mc.inReset = s.mc.inReset ∧
    (s.handoffNext w c n).mc.resetLow = s.mc.resetLow ∧ (s.handoffNext w c n).mc.timestamp = s.mc.timestamp ∧
    (s.handoffNext w c n).mc.recovery = s.mc.recovery ∧ (s.handoffNext w c n).cp.receiver = s.cp.receiver ∧
    (s.handoffNext w c n).cp.executing = s.cp.executing ∧ (s.handoffNext w c n).cp.inbound = s.cp.inbound ∧
    (s.handoffNext w c n).cp.resetWait = s.cp.resetWait ∧ (s.handoffNext w c n).portA = s.portA ∧
    (s.handoffNext w c n).portB = s.portB ∧ (s.handoffNext w c n).pending = s.pending := by
  and_intros <;> unfold State.handoffNext <;> (try dsimp only) <;> (repeat' split) <;> simp

@[simp] theorem State.creditSkipped_frame (s : State) (w : Work) (c : Command) :
    (s.creditSkipped w c).dram = s.dram ∧ (s.creditSkipped w c).tc = s.tc ∧
    (s.creditSkipped w c).domains = s.domains ∧ (s.creditSkipped w c).shares = s.shares ∧
    (s.creditSkipped w c).su = s.su ∧ (s.creditSkipped w c).vl = s.vl ∧ (s.creditSkipped w c).eu = s.eu ∧
    (s.creditSkipped w c).mc = s.mc ∧ (s.creditSkipped w c).cp = s.cp ∧ (s.creditSkipped w c).portA = s.portA ∧
    (s.creditSkipped w c).portB = s.portB ∧ (s.creditSkipped w c).pending = s.pending := by
  and_intros <;> unfold State.creditSkipped <;> (try dsimp only) <;> (repeat' split) <;> simp

@[simp] theorem State.handoffAct_frame (s : State) (w : Work) (c : Command) (r : TagRec) :
    (s.handoffAct w c r).su.write = s.su.write ∧ (s.handoffAct w c r).vl = s.vl ∧ (s.handoffAct w c r).eu = s.eu ∧
    (s.handoffAct w c r).mc.mode = s.mc.mode ∧ (s.handoffAct w c r).mc.poolCode = s.mc.poolCode ∧
    (s.handoffAct w c r).mc.inReset = s.mc.inReset ∧ (s.handoffAct w c r).mc.resetLow = s.mc.resetLow ∧
    (s.handoffAct w c r).mc.timestamp = s.mc.timestamp ∧ (s.handoffAct w c r).mc.recovery = s.mc.recovery ∧
    (s.handoffAct w c r).cp.receiver = s.cp.receiver ∧ (s.handoffAct w c r).cp.executing = s.cp.executing ∧
    (s.handoffAct w c r).cp.inbound = s.cp.inbound ∧ (s.handoffAct w c r).cp.resetWait = s.cp.resetWait ∧
    (s.handoffAct w c r).portA = s.portA ∧ (s.handoffAct w c r).portB = s.portB ∧
    (s.handoffAct w c r).pending = s.pending := by
  and_intros <;> unfold State.handoffAct <;> (try dsimp only) <;> (repeat' split) <;> simp

@[simp] theorem State.installed_frame (s : State) (w : Work) (c : Command) :
    (s.installed w c).tc = s.tc ∧ (s.installed w c).su.write = s.su.write ∧ (s.installed w c).vl = s.vl ∧
    (s.installed w c).eu = s.eu ∧ (s.installed w c).mc.mode = s.mc.mode ∧
    (s.installed w c).mc.poolCode = s.mc.poolCode ∧ (s.installed w c).mc.inReset = s.mc.inReset ∧
    (s.installed w c).mc.resetLow = s.mc.resetLow ∧ (s.installed w c).mc.timestamp = s.mc.timestamp ∧
    (s.installed w c).mc.recovery = s.mc.recovery ∧ (s.installed w c).cp.receiver = s.cp.receiver ∧
    (s.installed w c).cp.executing = s.cp.executing ∧ (s.installed w c).cp.inbound = s.cp.inbound ∧
    (s.installed w c).cp.resetWait = s.cp.resetWait ∧ (s.installed w c).portA = s.portA ∧
    (s.installed w c).portB = s.portB ∧ (s.installed w c).pending = s.pending := by
  and_intros <;> unfold State.installed <;> (try dsimp only) <;> (repeat' split) <;> simp

@[simp] theorem State.install_frame (s : State) (w : Work) (c : Command) :
    (s.install w c).su.write = s.su.write ∧ (s.install w c).vl = s.vl ∧ (s.install w c).eu = s.eu ∧
    (s.install w c).mc.mode = s.mc.mode ∧ (s.install w c).mc.poolCode = s.mc.poolCode ∧
    (s.install w c).mc.inReset = s.mc.inReset ∧ (s.install w c).mc.resetLow = s.mc.resetLow ∧
    (s.install w c).mc.timestamp = s.mc.timestamp ∧ (s.install w c).mc.recovery = s.mc.recovery ∧
    (s.install w c).cp.receiver = s.cp.receiver ∧ (s.install w c).cp.executing = s.cp.executing ∧
    (s.install w c).cp.inbound = s.cp.inbound ∧ (s.install w c).cp.resetWait = s.cp.resetWait ∧
    (s.install w c).portA = s.portA ∧ (s.install w c).portB = s.portB ∧ (s.install w c).pending = s.pending := by
  and_intros <;> unfold State.install <;> (try dsimp only) <;> (repeat' split) <;> simp

@[simp] theorem State.writeFixedParts_tc (s : State) (c : PoolCode) : (State.writeFixedParts s c).tc = s.tc := by
  unfold State.writeFixedParts
  dsimp only
  rw [foldl_tc _ _ _ (by intros; simp), foldl_tc _ _ _ (by intros; simp), foldl_tc _ _ _ (by intros; split <;> simp)]
  simp
@[simp] theorem State.writeFixedParts_te (s : State) (c : PoolCode) : (State.writeFixedParts s c).te = s.te := by
  unfold State.writeFixedParts
  dsimp only
  rw [foldl_te _ _ _ (by intros; simp), foldl_te _ _ _ (by intros; simp), foldl_te _ _ _ (by intros; split <;> simp)]
  simp
@[simp] theorem State.writeFixedParts_su (s : State) (c : PoolCode) : (State.writeFixedParts s c).su = s.su := by
  unfold State.writeFixedParts
  dsimp only
  rw [foldl_su _ _ _ (by intros; simp), foldl_su _ _ _ (by intros; simp), foldl_su _ _ _ (by intros; split <;> simp)]
  simp
@[simp] theorem State.writeFixedParts_vl (s : State) (c : PoolCode) : (State.writeFixedParts s c).vl = s.vl := by
  unfold State.writeFixedParts
  dsimp only
  rw [foldl_vl _ _ _ (by intros; simp), foldl_vl _ _ _ (by intros; simp), foldl_vl _ _ _ (by intros; split <;> simp)]
  simp
@[simp] theorem State.writeFixedParts_eu (s : State) (c : PoolCode) : (State.writeFixedParts s c).eu = s.eu := by
  unfold State.writeFixedParts
  dsimp only
  rw [foldl_eu _ _ _ (by intros; simp), foldl_eu _ _ _ (by intros; simp), foldl_eu _ _ _ (by intros; split <;> simp)]
  simp
@[simp] theorem State.writeFixedParts_mc_mode (s : State) (c : PoolCode) : (State.writeFixedParts s c).mc.mode = s.mc.mode := by
  unfold State.writeFixedParts
  dsimp only
  rw [foldl_mc_mode _ _ _ (by intros; simp), foldl_mc_mode _ _ _ (by intros; simp), foldl_mc_mode _ _ _ (by intros; split <;> simp)]
  simp
@[simp] theorem State.writeFixedParts_mc_poolCode (s : State) (c : PoolCode) : (State.writeFixedParts s c).mc.poolCode = s.mc.poolCode := by
  unfold State.writeFixedParts
  dsimp only
  rw [foldl_mc_poolCode _ _ _ (by intros; simp), foldl_mc_poolCode _ _ _ (by intros; simp), foldl_mc_poolCode _ _ _ (by intros; split <;> simp)]
  simp
@[simp] theorem State.writeFixedParts_mc_inReset (s : State) (c : PoolCode) : (State.writeFixedParts s c).mc.inReset = s.mc.inReset := by
  unfold State.writeFixedParts
  dsimp only
  rw [foldl_mc_inReset _ _ _ (by intros; simp), foldl_mc_inReset _ _ _ (by intros; simp), foldl_mc_inReset _ _ _ (by intros; split <;> simp)]
  simp
@[simp] theorem State.writeFixedParts_mc_resetLow (s : State) (c : PoolCode) : (State.writeFixedParts s c).mc.resetLow = s.mc.resetLow := by
  unfold State.writeFixedParts
  dsimp only
  rw [foldl_mc_resetLow _ _ _ (by intros; simp), foldl_mc_resetLow _ _ _ (by intros; simp), foldl_mc_resetLow _ _ _ (by intros; split <;> simp)]
  simp
@[simp] theorem State.writeFixedParts_mc_storeState (s : State) (c : PoolCode) : (State.writeFixedParts s c).mc.storeState = s.mc.storeState := by
  unfold State.writeFixedParts
  dsimp only
  rw [foldl_mc_storeState _ _ _ (by intros; simp), foldl_mc_storeState _ _ _ (by intros; simp), foldl_mc_storeState _ _ _ (by intros; split <;> simp)]
  simp
@[simp] theorem State.writeFixedParts_mc_timestamp (s : State) (c : PoolCode) : (State.writeFixedParts s c).mc.timestamp = s.mc.timestamp := by
  unfold State.writeFixedParts
  dsimp only
  rw [foldl_mc_timestamp _ _ _ (by intros; simp), foldl_mc_timestamp _ _ _ (by intros; simp), foldl_mc_timestamp _ _ _ (by intros; split <;> simp)]
  simp
@[simp] theorem State.writeFixedParts_mc_recovery (s : State) (c : PoolCode) : (State.writeFixedParts s c).mc.recovery = s.mc.recovery := by
  unfold State.writeFixedParts
  dsimp only
  rw [foldl_mc_recovery _ _ _ (by intros; simp), foldl_mc_recovery _ _ _ (by intros; simp), foldl_mc_recovery _ _ _ (by intros; split <;> simp)]
  simp
@[simp] theorem State.writeFixedParts_cp (s : State) (c : PoolCode) : (State.writeFixedParts s c).cp = s.cp := by
  unfold State.writeFixedParts
  dsimp only
  rw [foldl_cp _ _ _ (by intros; simp), foldl_cp _ _ _ (by intros; simp), foldl_cp _ _ _ (by intros; split <;> simp)]
  simp
@[simp] theorem State.writeFixedParts_portA (s : State) (c : PoolCode) : (State.writeFixedParts s c).portA = s.portA := by
  unfold State.writeFixedParts
  dsimp only
  rw [foldl_portA _ _ _ (by intros; simp), foldl_portA _ _ _ (by intros; simp), foldl_portA _ _ _ (by intros; split <;> simp)]
  simp
@[simp] theorem State.writeFixedParts_portB (s : State) (c : PoolCode) : (State.writeFixedParts s c).portB = s.portB := by
  unfold State.writeFixedParts
  dsimp only
  rw [foldl_portB _ _ _ (by intros; simp), foldl_portB _ _ _ (by intros; simp), foldl_portB _ _ _ (by intros; split <;> simp)]
  simp
@[simp] theorem State.writeFixedParts_pending (s : State) (c : PoolCode) : (State.writeFixedParts s c).pending = s.pending := by
  unfold State.writeFixedParts
  dsimp only
  rw [foldl_pending _ _ _ (by intros; simp), foldl_pending _ _ _ (by intros; simp), foldl_pending _ _ _ (by intros; split <;> simp)]
  simp

@[simp] theorem State.leaveRun_frame (s : State) :
    (s.leaveRun).dram = s.dram ∧ (s.leaveRun).tc = s.tc ∧ (s.leaveRun).domains = s.domains ∧
    (s.leaveRun).shares = s.shares ∧ (s.leaveRun).te = s.te ∧ (s.leaveRun).su.write = s.su.write ∧
    (s.leaveRun).vl = s.vl ∧ (s.leaveRun).eu = s.eu ∧ (s.leaveRun).mc = s.mc ∧ (s.leaveRun).cp = s.cp ∧
    (s.leaveRun).portA = s.portA ∧ (s.leaveRun).portB = s.portB ∧ (s.leaveRun).pending = s.pending := by
  and_intros <;> unfold State.leaveRun <;> (try dsimp only) <;> (repeat' split) <;> simp

@[simp] theorem State.reportGranule_frame (s : State) (g : Nat) (t : Option Ticket) (freed : Bool) :
    (s.reportGranule g t freed).dram = s.dram ∧ (s.reportGranule g t freed).tc = s.tc ∧
    (s.reportGranule g t freed).domains = s.domains ∧ (s.reportGranule g t freed).shares = s.shares ∧
    (s.reportGranule g t freed).su = s.su ∧ (s.reportGranule g t freed).vl = s.vl ∧
    (s.reportGranule g t freed).eu = s.eu ∧ (s.reportGranule g t freed).mc = s.mc ∧
    (s.reportGranule g t freed).cp = s.cp ∧ (s.reportGranule g t freed).portA = s.portA ∧
    (s.reportGranule g t freed).portB = s.portB ∧ (s.reportGranule g t freed).pending = s.pending := by
  and_intros <;> unfold State.reportGranule <;> (try dsimp only) <;> (repeat' split) <;> simp

@[simp] theorem State.changeDone_frame (s : State) (g : Nat) (freed : Bool) :
    (s.changeDone g freed).dram = s.dram ∧ (s.changeDone g freed).tc = s.tc ∧
    (s.changeDone g freed).domains = s.domains ∧ (s.changeDone g freed).shares = s.shares ∧
    (s.changeDone g freed).su.write = s.su.write ∧ (s.changeDone g freed).vl = s.vl ∧
    (s.changeDone g freed).eu = s.eu ∧ (s.changeDone g freed).mc = s.mc ∧ (s.changeDone g freed).cp = s.cp ∧
    (s.changeDone g freed).portA = s.portA ∧ (s.changeDone g freed).portB = s.portB ∧
    (s.changeDone g freed).pending = s.pending := by
  and_intros <;> unfold State.changeDone <;> (try dsimp only) <;> (repeat' split) <;> simp

@[simp] theorem State.scrubAct_frame (w : WaitingChange) (line : TagLine) (s : State) :
    (State.scrubAct w line s).dram = s.dram ∧ (State.scrubAct w line s).domains = s.domains ∧
    (State.scrubAct w line s).shares = s.shares ∧ (State.scrubAct w line s).su.write = s.su.write ∧
    (State.scrubAct w line s).vl = s.vl ∧ (State.scrubAct w line s).eu = s.eu ∧
    (State.scrubAct w line s).mc = s.mc ∧ (State.scrubAct w line s).cp = s.cp ∧
    (State.scrubAct w line s).portA = s.portA ∧ (State.scrubAct w line s).portB = s.portB ∧
    (State.scrubAct w line s).pending = s.pending := by
  and_intros <;> unfold State.scrubAct <;> (try dsimp only) <;> (repeat' split) <;> simp

@[simp] theorem State.scrubIssue_frame (s : State) (w : WaitingChange) :
    (s.scrubIssue w).dram = s.dram ∧ (s.scrubIssue w).domains = s.domains ∧ (s.scrubIssue w).shares = s.shares ∧
    (s.scrubIssue w).su.write = s.su.write ∧ (s.scrubIssue w).vl = s.vl ∧ (s.scrubIssue w).eu = s.eu ∧
    (s.scrubIssue w).mc = s.mc ∧ (s.scrubIssue w).cp = s.cp ∧ (s.scrubIssue w).portA = s.portA ∧
    (s.scrubIssue w).portB = s.portB ∧ (s.scrubIssue w).pending = s.pending := by
  and_intros <;> unfold State.scrubIssue <;> (try dsimp only) <;> (repeat' split) <;> simp

@[simp] theorem State.scrubRetry_frame (s : State) :
    (s.scrubRetry).dram = s.dram ∧ (s.scrubRetry).domains = s.domains ∧ (s.scrubRetry).shares = s.shares ∧
    (s.scrubRetry).su.write = s.su.write ∧ (s.scrubRetry).vl = s.vl ∧ (s.scrubRetry).eu = s.eu ∧
    (s.scrubRetry).mc = s.mc ∧ (s.scrubRetry).cp = s.cp ∧ (s.scrubRetry).portA = s.portA ∧
    (s.scrubRetry).portB = s.portB ∧ (s.scrubRetry).pending = s.pending := by
  and_intros <;> unfold State.scrubRetry <;> (try dsimp only) <;> (repeat' split) <;> simp

@[simp] theorem State.scrubPump_frame (s : State) :
    (s.scrubPump).dram = s.dram ∧ (s.scrubPump).domains = s.domains ∧ (s.scrubPump).shares = s.shares ∧
    (s.scrubPump).vl = s.vl ∧ (s.scrubPump).eu = s.eu ∧ (s.scrubPump).mc = s.mc ∧ (s.scrubPump).cp = s.cp ∧
    (s.scrubPump).portA = s.portA ∧ (s.scrubPump).portB = s.portB ∧ (s.scrubPump).pending = s.pending := by
  and_intros <;> unfold State.scrubPump <;> (try dsimp only) <;> (repeat' split) <;> simp

@[simp] theorem State.placeFreed_frame (s : State) :
    (s.placeFreed).dram = s.dram ∧ (s.placeFreed).tc = s.tc ∧ (s.placeFreed).domains = s.domains ∧
    (s.placeFreed).shares = s.shares ∧ (s.placeFreed).su.write = s.su.write ∧ (s.placeFreed).vl = s.vl ∧
    (s.placeFreed).eu = s.eu ∧ (s.placeFreed).mc.mode = s.mc.mode ∧ (s.placeFreed).mc.poolCode = s.mc.poolCode ∧
    (s.placeFreed).mc.inReset = s.mc.inReset ∧ (s.placeFreed).mc.resetLow = s.mc.resetLow ∧
    (s.placeFreed).mc.storeState = s.mc.storeState ∧ (s.placeFreed).mc.timestamp = s.mc.timestamp ∧
    (s.placeFreed).cp = s.cp ∧ (s.placeFreed).portA = s.portA ∧ (s.placeFreed).portB = s.portB ∧
    (s.placeFreed).pending = s.pending := by
  and_intros <;> unfold State.placeFreed <;> (try dsimp only) <;> (repeat' split) <;> simp

@[simp] theorem State.reportRun_frame (s : State) (t : Option Ticket) :
    (s.reportRun t).tc = s.tc ∧ (s.reportRun t).su = s.su ∧ (s.reportRun t).vl = s.vl ∧ (s.reportRun t).eu = s.eu ∧
    (s.reportRun t).mc.mode = s.mc.mode ∧ (s.reportRun t).mc.poolCode = s.mc.poolCode ∧
    (s.reportRun t).mc.inReset = s.mc.inReset ∧ (s.reportRun t).mc.resetLow = s.mc.resetLow ∧
    (s.reportRun t).mc.timestamp = s.mc.timestamp ∧ (s.reportRun t).mc.recovery = s.mc.recovery ∧
    (s.reportRun t).cp.receiver = s.cp.receiver ∧ (s.reportRun t).cp.executing = s.cp.executing ∧
    (s.reportRun t).cp.inbound = s.cp.inbound ∧ (s.reportRun t).cp.resetWait = s.cp.resetWait ∧
    (s.reportRun t).portA = s.portA ∧ (s.reportRun t).portB = s.portB ∧ (s.reportRun t).pending = s.pending := by
  and_intros <;> unfold State.reportRun <;> (try dsimp only) <;> (repeat' split) <;> simp

@[simp] theorem State.removeRuns_tc (n : Nat) (s : State) : (State.removeRuns n s).tc = s.tc := by
  induction n generalizing s with
  | zero => rfl
  | succ n ih => unfold State.removeRuns; (repeat' split) <;> simp [ih]
@[simp] theorem State.removeRuns_su_write (n : Nat) (s : State) : (State.removeRuns n s).su.write = s.su.write := by
  induction n generalizing s with
  | zero => rfl
  | succ n ih => unfold State.removeRuns; (repeat' split) <;> simp [ih]
@[simp] theorem State.removeRuns_vl (n : Nat) (s : State) : (State.removeRuns n s).vl = s.vl := by
  induction n generalizing s with
  | zero => rfl
  | succ n ih => unfold State.removeRuns; (repeat' split) <;> simp [ih]
@[simp] theorem State.removeRuns_eu (n : Nat) (s : State) : (State.removeRuns n s).eu = s.eu := by
  induction n generalizing s with
  | zero => rfl
  | succ n ih => unfold State.removeRuns; (repeat' split) <;> simp [ih]
@[simp] theorem State.removeRuns_mc_mode (n : Nat) (s : State) : (State.removeRuns n s).mc.mode = s.mc.mode := by
  induction n generalizing s with
  | zero => rfl
  | succ n ih => unfold State.removeRuns; (repeat' split) <;> simp [ih]
@[simp] theorem State.removeRuns_mc_poolCode (n : Nat) (s : State) : (State.removeRuns n s).mc.poolCode = s.mc.poolCode := by
  induction n generalizing s with
  | zero => rfl
  | succ n ih => unfold State.removeRuns; (repeat' split) <;> simp [ih]
@[simp] theorem State.removeRuns_mc_inReset (n : Nat) (s : State) : (State.removeRuns n s).mc.inReset = s.mc.inReset := by
  induction n generalizing s with
  | zero => rfl
  | succ n ih => unfold State.removeRuns; (repeat' split) <;> simp [ih]
@[simp] theorem State.removeRuns_mc_resetLow (n : Nat) (s : State) : (State.removeRuns n s).mc.resetLow = s.mc.resetLow := by
  induction n generalizing s with
  | zero => rfl
  | succ n ih => unfold State.removeRuns; (repeat' split) <;> simp [ih]
@[simp] theorem State.removeRuns_mc_timestamp (n : Nat) (s : State) : (State.removeRuns n s).mc.timestamp = s.mc.timestamp := by
  induction n generalizing s with
  | zero => rfl
  | succ n ih => unfold State.removeRuns; (repeat' split) <;> simp [ih]
@[simp] theorem State.removeRuns_cp_receiver (n : Nat) (s : State) : (State.removeRuns n s).cp.receiver = s.cp.receiver := by
  induction n generalizing s with
  | zero => rfl
  | succ n ih => unfold State.removeRuns; (repeat' split) <;> simp [ih]
@[simp] theorem State.removeRuns_cp_executing (n : Nat) (s : State) : (State.removeRuns n s).cp.executing = s.cp.executing := by
  induction n generalizing s with
  | zero => rfl
  | succ n ih => unfold State.removeRuns; (repeat' split) <;> simp [ih]
@[simp] theorem State.removeRuns_cp_inbound (n : Nat) (s : State) : (State.removeRuns n s).cp.inbound = s.cp.inbound := by
  induction n generalizing s with
  | zero => rfl
  | succ n ih => unfold State.removeRuns; (repeat' split) <;> simp [ih]
@[simp] theorem State.removeRuns_cp_resetWait (n : Nat) (s : State) : (State.removeRuns n s).cp.resetWait = s.cp.resetWait := by
  induction n generalizing s with
  | zero => rfl
  | succ n ih => unfold State.removeRuns; (repeat' split) <;> simp [ih]
@[simp] theorem State.removeRuns_portA (n : Nat) (s : State) : (State.removeRuns n s).portA = s.portA := by
  induction n generalizing s with
  | zero => rfl
  | succ n ih => unfold State.removeRuns; (repeat' split) <;> simp [ih]
@[simp] theorem State.removeRuns_portB (n : Nat) (s : State) : (State.removeRuns n s).portB = s.portB := by
  induction n generalizing s with
  | zero => rfl
  | succ n ih => unfold State.removeRuns; (repeat' split) <;> simp [ih]
@[simp] theorem State.removeRuns_pending (n : Nat) (s : State) : (State.removeRuns n s).pending = s.pending := by
  induction n generalizing s with
  | zero => rfl
  | succ n ih => unfold State.removeRuns; (repeat' split) <;> simp [ih]

@[simp] theorem State.scrubSettle_frame (s : State) :
    (s.scrubSettle).vl = s.vl ∧ (s.scrubSettle).eu = s.eu ∧ (s.scrubSettle).mc.mode = s.mc.mode ∧
    (s.scrubSettle).mc.poolCode = s.mc.poolCode ∧ (s.scrubSettle).mc.inReset = s.mc.inReset ∧
    (s.scrubSettle).mc.resetLow = s.mc.resetLow ∧ (s.scrubSettle).mc.timestamp = s.mc.timestamp ∧
    (s.scrubSettle).cp.receiver = s.cp.receiver ∧ (s.scrubSettle).cp.executing = s.cp.executing ∧
    (s.scrubSettle).cp.inbound = s.cp.inbound ∧ (s.scrubSettle).cp.resetWait = s.cp.resetWait ∧
    (s.scrubSettle).portA = s.portA ∧ (s.scrubSettle).portB = s.portB ∧ (s.scrubSettle).pending = s.pending := by
  and_intros <;> unfold State.scrubSettle <;> (try dsimp only) <;> (repeat' split) <;> simp

@[simp] theorem State.queryAct_frame (q : Query) (line : TagLine) (s : State) :
    (State.queryAct q line s).dram = s.dram ∧ (State.queryAct q line s).tc = s.tc ∧
    (State.queryAct q line s).domains = s.domains ∧ (State.queryAct q line s).shares = s.shares ∧
    (State.queryAct q line s).te = s.te ∧ (State.queryAct q line s).su = s.su ∧
    (State.queryAct q line s).vl = s.vl ∧ (State.queryAct q line s).eu = s.eu ∧
    (State.queryAct q line s).mc = s.mc ∧ (State.queryAct q line s).cp.receiver = s.cp.receiver ∧
    (State.queryAct q line s).cp.resetWait = s.cp.resetWait ∧ (State.queryAct q line s).portA = s.portA ∧
    (State.queryAct q line s).portB = s.portB ∧ (State.queryAct q line s).pending = s.pending := by
  and_intros <;> unfold State.queryAct <;> (try dsimp only) <;> (repeat' split) <;> simp

@[simp] theorem State.queryTry_dram (n : Nat) (s : State) : (State.queryTry n s).dram = s.dram := by
  induction n generalizing s with
  | zero => rfl
  | succ n ih => unfold State.queryTry; split <;> simp [ih]
@[simp] theorem State.queryTry_domains (n : Nat) (s : State) : (State.queryTry n s).domains = s.domains := by
  induction n generalizing s with
  | zero => rfl
  | succ n ih => unfold State.queryTry; split <;> simp [ih]
@[simp] theorem State.queryTry_shares (n : Nat) (s : State) : (State.queryTry n s).shares = s.shares := by
  induction n generalizing s with
  | zero => rfl
  | succ n ih => unfold State.queryTry; split <;> simp [ih]
@[simp] theorem State.queryTry_te (n : Nat) (s : State) : (State.queryTry n s).te = s.te := by
  induction n generalizing s with
  | zero => rfl
  | succ n ih => unfold State.queryTry; split <;> simp [ih]
@[simp] theorem State.queryTry_su (n : Nat) (s : State) : (State.queryTry n s).su = s.su := by
  induction n generalizing s with
  | zero => rfl
  | succ n ih => unfold State.queryTry; split <;> simp [ih]
@[simp] theorem State.queryTry_vl (n : Nat) (s : State) : (State.queryTry n s).vl = s.vl := by
  induction n generalizing s with
  | zero => rfl
  | succ n ih => unfold State.queryTry; split <;> simp [ih]
@[simp] theorem State.queryTry_eu (n : Nat) (s : State) : (State.queryTry n s).eu = s.eu := by
  induction n generalizing s with
  | zero => rfl
  | succ n ih => unfold State.queryTry; split <;> simp [ih]
@[simp] theorem State.queryTry_mc (n : Nat) (s : State) : (State.queryTry n s).mc = s.mc := by
  induction n generalizing s with
  | zero => rfl
  | succ n ih => unfold State.queryTry; split <;> simp [ih]
@[simp] theorem State.queryTry_cp_receiver (n : Nat) (s : State) : (State.queryTry n s).cp.receiver = s.cp.receiver := by
  induction n generalizing s with
  | zero => rfl
  | succ n ih => unfold State.queryTry; split <;> simp [ih]
@[simp] theorem State.queryTry_cp_resetWait (n : Nat) (s : State) : (State.queryTry n s).cp.resetWait = s.cp.resetWait := by
  induction n generalizing s with
  | zero => rfl
  | succ n ih => unfold State.queryTry; split <;> simp [ih]
@[simp] theorem State.queryTry_portA (n : Nat) (s : State) : (State.queryTry n s).portA = s.portA := by
  induction n generalizing s with
  | zero => rfl
  | succ n ih => unfold State.queryTry; split <;> simp [ih]
@[simp] theorem State.queryTry_portB (n : Nat) (s : State) : (State.queryTry n s).portB = s.portB := by
  induction n generalizing s with
  | zero => rfl
  | succ n ih => unfold State.queryTry; split <;> simp [ih]
@[simp] theorem State.queryTry_pending (n : Nat) (s : State) : (State.queryTry n s).pending = s.pending := by
  induction n generalizing s with
  | zero => rfl
  | succ n ih => unfold State.queryTry; split <;> simp [ih]

@[simp] theorem State.endRecovery_frame (s : State) (walked lost requeued : Nat) :
    (s.endRecovery walked lost requeued).dram = s.dram ∧ (s.endRecovery walked lost requeued).tc = s.tc ∧
    (s.endRecovery walked lost requeued).domains = s.domains ∧
    (s.endRecovery walked lost requeued).shares = s.shares ∧ (s.endRecovery walked lost requeued).te = s.te ∧
    (s.endRecovery walked lost requeued).su = s.su ∧ (s.endRecovery walked lost requeued).vl = s.vl ∧
    (s.endRecovery walked lost requeued).eu = s.eu ∧
    (s.endRecovery walked lost requeued).mc.poolCode = s.mc.poolCode ∧
    (s.endRecovery walked lost requeued).mc.inReset = s.mc.inReset ∧
    (s.endRecovery walked lost requeued).mc.resetLow = s.mc.resetLow ∧
    (s.endRecovery walked lost requeued).mc.storeState = s.mc.storeState ∧
    (s.endRecovery walked lost requeued).mc.timestamp = s.mc.timestamp ∧
    (s.endRecovery walked lost requeued).cp.receiver = s.cp.receiver ∧
    (s.endRecovery walked lost requeued).cp.executing = s.cp.executing ∧
    (s.endRecovery walked lost requeued).cp.inbound = s.cp.inbound ∧
    (s.endRecovery walked lost requeued).cp.resetWait = s.cp.resetWait ∧
    (s.endRecovery walked lost requeued).portA = s.portA ∧ (s.endRecovery walked lost requeued).portB = s.portB ∧
    (s.endRecovery walked lost requeued).pending = s.pending := by
  and_intros <;> unfold State.endRecovery <;> (try dsimp only) <;> (repeat' split) <;> simp

@[simp] theorem State.fixQuota_frame (s : State) (n : Nat) :
    (s.fixQuota n).tc = s.tc ∧ (s.fixQuota n).shares = s.shares ∧ (s.fixQuota n).te = s.te ∧
    (s.fixQuota n).su = s.su ∧ (s.fixQuota n).vl = s.vl ∧ (s.fixQuota n).eu = s.eu ∧ (s.fixQuota n).mc = s.mc ∧
    (s.fixQuota n).cp = s.cp ∧ (s.fixQuota n).portA = s.portA ∧ (s.fixQuota n).portB = s.portB ∧
    (s.fixQuota n).pending = s.pending := by
  and_intros <;> unfold State.fixQuota <;> (try dsimp only) <;> (repeat' split) <;> simp

@[simp] theorem State.finishWalk_frame (s : State) (w : Walk) :
    (s.finishWalk w).tc = s.tc ∧ (s.finishWalk w).te = s.te ∧ (s.finishWalk w).su = s.su ∧
    (s.finishWalk w).vl = s.vl ∧ (s.finishWalk w).eu = s.eu ∧ (s.finishWalk w).mc.poolCode = s.mc.poolCode ∧
    (s.finishWalk w).mc.inReset = s.mc.inReset ∧ (s.finishWalk w).mc.resetLow = s.mc.resetLow ∧
    (s.finishWalk w).mc.storeState = s.mc.storeState ∧ (s.finishWalk w).mc.timestamp = s.mc.timestamp ∧
    (s.finishWalk w).cp.receiver = s.cp.receiver ∧ (s.finishWalk w).cp.executing = s.cp.executing ∧
    (s.finishWalk w).cp.inbound = s.cp.inbound ∧ (s.finishWalk w).cp.resetWait = s.cp.resetWait ∧
    (s.finishWalk w).portA = s.portA ∧ (s.finishWalk w).portB = s.portB ∧ (s.finishWalk w).pending = s.pending := by
  and_intros <;> unfold State.finishWalk <;> (try dsimp only) <;> (repeat' split) <;> simp

@[simp] theorem State.setWalk_frame (s : State) (w : Walk) :
    (s.setWalk w).dram = s.dram ∧ (s.setWalk w).tc = s.tc ∧ (s.setWalk w).domains = s.domains ∧
    (s.setWalk w).shares = s.shares ∧ (s.setWalk w).te = s.te ∧ (s.setWalk w).su = s.su ∧ (s.setWalk w).vl = s.vl ∧
    (s.setWalk w).eu = s.eu ∧ (s.setWalk w).mc.mode = s.mc.mode ∧ (s.setWalk w).mc.poolCode = s.mc.poolCode ∧
    (s.setWalk w).mc.inReset = s.mc.inReset ∧ (s.setWalk w).mc.resetLow = s.mc.resetLow ∧
    (s.setWalk w).mc.storeState = s.mc.storeState ∧ (s.setWalk w).mc.timestamp = s.mc.timestamp ∧
    (s.setWalk w).cp = s.cp ∧ (s.setWalk w).portA = s.portA ∧ (s.setWalk w).portB = s.portB ∧
    (s.setWalk w).pending = s.pending := by
  and_intros <;> unfold State.setWalk <;> (try dsimp only) <;> (repeat' split) <;> simp

@[simp] theorem State.ownerFound_frame (s : State) (d : DomainId) :
    (s.ownerFound d).dram = s.dram ∧ (s.ownerFound d).tc = s.tc ∧ (s.ownerFound d).shares = s.shares ∧
    (s.ownerFound d).te = s.te ∧ (s.ownerFound d).su = s.su ∧ (s.ownerFound d).vl = s.vl ∧
    (s.ownerFound d).eu = s.eu ∧ (s.ownerFound d).mc.mode = s.mc.mode ∧
    (s.ownerFound d).mc.poolCode = s.mc.poolCode ∧ (s.ownerFound d).mc.inReset = s.mc.inReset ∧
    (s.ownerFound d).mc.resetLow = s.mc.resetLow ∧ (s.ownerFound d).mc.storeState = s.mc.storeState ∧
    (s.ownerFound d).mc.timestamp = s.mc.timestamp ∧ (s.ownerFound d).mc.recovery = s.mc.recovery ∧
    (s.ownerFound d).cp = s.cp ∧ (s.ownerFound d).portA = s.portA ∧ (s.ownerFound d).portB = s.portB ∧
    (s.ownerFound d).pending = s.pending := by
  and_intros <;> unfold State.ownerFound <;> (try dsimp only) <;> (repeat' split) <;> simp

@[simp] theorem State.walkCloses_frame (s : State) (w : Walk) :
    (s.walkCloses w).dram = s.dram ∧ (s.walkCloses w).tc = s.tc ∧ (s.walkCloses w).domains = s.domains ∧
    (s.walkCloses w).shares = s.shares ∧ (s.walkCloses w).te = s.te ∧ (s.walkCloses w).su.write = s.su.write ∧
    (s.walkCloses w).vl = s.vl ∧ (s.walkCloses w).eu = s.eu ∧ (s.walkCloses w).mc.mode = s.mc.mode ∧
    (s.walkCloses w).mc.poolCode = s.mc.poolCode ∧ (s.walkCloses w).mc.inReset = s.mc.inReset ∧
    (s.walkCloses w).mc.resetLow = s.mc.resetLow ∧ (s.walkCloses w).mc.storeState = s.mc.storeState ∧
    (s.walkCloses w).mc.timestamp = s.mc.timestamp ∧ (s.walkCloses w).cp = s.cp ∧
    (s.walkCloses w).portA = s.portA ∧ (s.walkCloses w).portB = s.portB ∧ (s.walkCloses w).pending = s.pending := by
  and_intros <;> unfold State.walkCloses <;> (try dsimp only) <;> (repeat' split) <;> simp

@[simp] theorem State.walkNext_frame (s : State) :
    (s.walkNext).dram = s.dram ∧ (s.walkNext).tc = s.tc ∧ (s.walkNext).domains = s.domains ∧
    (s.walkNext).shares = s.shares ∧ (s.walkNext).te = s.te ∧ (s.walkNext).su = s.su ∧ (s.walkNext).vl = s.vl ∧
    (s.walkNext).eu = s.eu ∧ (s.walkNext).mc.mode = s.mc.mode ∧ (s.walkNext).mc.poolCode = s.mc.poolCode ∧
    (s.walkNext).mc.inReset = s.mc.inReset ∧ (s.walkNext).mc.resetLow = s.mc.resetLow ∧
    (s.walkNext).mc.storeState = s.mc.storeState ∧ (s.walkNext).mc.timestamp = s.mc.timestamp ∧
    (s.walkNext).cp = s.cp ∧ (s.walkNext).portA = s.portA ∧ (s.walkNext).portB = s.portB ∧
    (s.walkNext).pending = s.pending := by
  and_intros <;> unfold State.walkNext <;> (try dsimp only) <;> (repeat' split) <;> simp

@[simp] theorem State.walkWaits_frame (s : State) :
    (s.walkWaits).dram = s.dram ∧ (s.walkWaits).tc = s.tc ∧ (s.walkWaits).domains = s.domains ∧
    (s.walkWaits).shares = s.shares ∧ (s.walkWaits).te = s.te ∧ (s.walkWaits).su = s.su ∧ (s.walkWaits).vl = s.vl ∧
    (s.walkWaits).eu = s.eu ∧ (s.walkWaits).mc.mode = s.mc.mode ∧ (s.walkWaits).mc.poolCode = s.mc.poolCode ∧
    (s.walkWaits).mc.inReset = s.mc.inReset ∧ (s.walkWaits).mc.resetLow = s.mc.resetLow ∧
    (s.walkWaits).mc.storeState = s.mc.storeState ∧ (s.walkWaits).mc.timestamp = s.mc.timestamp ∧
    (s.walkWaits).cp = s.cp ∧ (s.walkWaits).portA = s.portA ∧ (s.walkWaits).portB = s.portB ∧
    (s.walkWaits).pending = s.pending := by
  and_intros <;> unfold State.walkWaits <;> (try dsimp only) <;> (repeat' split) <;> simp

@[simp] theorem State.requeued_frame (s : State) :
    (s.requeued).dram = s.dram ∧ (s.requeued).tc = s.tc ∧ (s.requeued).domains = s.domains ∧
    (s.requeued).shares = s.shares ∧ (s.requeued).te = s.te ∧ (s.requeued).su.write = s.su.write ∧
    (s.requeued).vl = s.vl ∧ (s.requeued).eu = s.eu ∧ (s.requeued).mc.mode = s.mc.mode ∧
    (s.requeued).mc.poolCode = s.mc.poolCode ∧ (s.requeued).mc.inReset = s.mc.inReset ∧
    (s.requeued).mc.resetLow = s.mc.resetLow ∧ (s.requeued).mc.storeState = s.mc.storeState ∧
    (s.requeued).mc.timestamp = s.mc.timestamp ∧ (s.requeued).cp = s.cp ∧ (s.requeued).portA = s.portA ∧
    (s.requeued).portB = s.portB ∧ (s.requeued).pending = s.pending := by
  and_intros <;> unfold State.requeued <;> (try dsimp only) <;> (repeat' split) <;> simp

@[simp] theorem State.endPass_frame (s : State) :
    (s.endPass).tc = s.tc ∧ (s.endPass).te = s.te ∧ (s.endPass).su.write = s.su.write ∧ (s.endPass).vl = s.vl ∧
    (s.endPass).eu = s.eu ∧ (s.endPass).mc.poolCode = s.mc.poolCode ∧ (s.endPass).mc.inReset = s.mc.inReset ∧
    (s.endPass).mc.resetLow = s.mc.resetLow ∧ (s.endPass).mc.storeState = s.mc.storeState ∧
    (s.endPass).mc.timestamp = s.mc.timestamp ∧ (s.endPass).cp.receiver = s.cp.receiver ∧
    (s.endPass).cp.executing = s.cp.executing ∧ (s.endPass).cp.inbound = s.cp.inbound ∧
    (s.endPass).cp.resetWait = s.cp.resetWait ∧ (s.endPass).portA = s.portA ∧ (s.endPass).portB = s.portB ∧
    (s.endPass).pending = s.pending := by
  and_intros <;> unfold State.endPass <;> (try dsimp only) <;> (repeat' split) <;> simp

@[simp] theorem State.lineDone_frame (s : State) (line : TagLine) :
    (s.lineDone line).tc = s.tc ∧ (s.lineDone line).te = s.te ∧ (s.lineDone line).su.write = s.su.write ∧
    (s.lineDone line).vl = s.vl ∧ (s.lineDone line).eu = s.eu ∧ (s.lineDone line).mc.poolCode = s.mc.poolCode ∧
    (s.lineDone line).mc.inReset = s.mc.inReset ∧ (s.lineDone line).mc.resetLow = s.mc.resetLow ∧
    (s.lineDone line).mc.storeState = s.mc.storeState ∧ (s.lineDone line).mc.timestamp = s.mc.timestamp ∧
    (s.lineDone line).cp.receiver = s.cp.receiver ∧ (s.lineDone line).cp.executing = s.cp.executing ∧
    (s.lineDone line).cp.inbound = s.cp.inbound ∧ (s.lineDone line).cp.resetWait = s.cp.resetWait ∧
    (s.lineDone line).portA = s.portA ∧ (s.lineDone line).portB = s.portB ∧ (s.lineDone line).pending = s.pending := by
  and_intros <;> unfold State.lineDone <;> (try dsimp only) <;> (repeat' split) <;> simp

@[simp] theorem State.requeue_te (s : State) (g : Nat) (r : TagRec) (o : Option DomainId) : (s.requeue g r o).1.te = s.te := by
  unfold State.requeue; (try dsimp only); (repeat' split) <;> simp
@[simp] theorem State.walkTag_te (s : State) (g : Nat) (r : TagRec) : (s.walkTag g r).1.te = s.te := by
  unfold State.walkTag; (try dsimp only); (repeat' split) <;> simp
@[simp] theorem State.walkGranules_te (line : TagLine) (l : List Nat) (s : State) : (State.walkGranules line l s).te = s.te := by
  induction l generalizing s line with
  | nil => unfold State.walkGranules; simp
  | cons g gs ih =>
    have h := State.walkTag_te s g (line.get (g % 4))
    unfold State.walkGranules; split <;> rename_i heq <;> rw [heq] at h <;> first | (rw [ih]; exact h) | exact h
@[simp] theorem State.requeue_su_write (s : State) (g : Nat) (r : TagRec) (o : Option DomainId) : (s.requeue g r o).1.su.write = s.su.write := by
  unfold State.requeue; (try dsimp only); (repeat' split) <;> simp
@[simp] theorem State.walkTag_su_write (s : State) (g : Nat) (r : TagRec) : (s.walkTag g r).1.su.write = s.su.write := by
  unfold State.walkTag; (try dsimp only); (repeat' split) <;> simp
@[simp] theorem State.walkGranules_su_write (line : TagLine) (l : List Nat) (s : State) : (State.walkGranules line l s).su.write = s.su.write := by
  induction l generalizing s line with
  | nil => unfold State.walkGranules; simp
  | cons g gs ih =>
    have h := State.walkTag_su_write s g (line.get (g % 4))
    unfold State.walkGranules; split <;> rename_i heq <;> rw [heq] at h <;> first | (rw [ih]; exact h) | exact h
@[simp] theorem State.requeue_vl (s : State) (g : Nat) (r : TagRec) (o : Option DomainId) : (s.requeue g r o).1.vl = s.vl := by
  unfold State.requeue; (try dsimp only); (repeat' split) <;> simp
@[simp] theorem State.walkTag_vl (s : State) (g : Nat) (r : TagRec) : (s.walkTag g r).1.vl = s.vl := by
  unfold State.walkTag; (try dsimp only); (repeat' split) <;> simp
@[simp] theorem State.walkGranules_vl (line : TagLine) (l : List Nat) (s : State) : (State.walkGranules line l s).vl = s.vl := by
  induction l generalizing s line with
  | nil => unfold State.walkGranules; simp
  | cons g gs ih =>
    have h := State.walkTag_vl s g (line.get (g % 4))
    unfold State.walkGranules; split <;> rename_i heq <;> rw [heq] at h <;> first | (rw [ih]; exact h) | exact h
@[simp] theorem State.requeue_eu (s : State) (g : Nat) (r : TagRec) (o : Option DomainId) : (s.requeue g r o).1.eu = s.eu := by
  unfold State.requeue; (try dsimp only); (repeat' split) <;> simp
@[simp] theorem State.walkTag_eu (s : State) (g : Nat) (r : TagRec) : (s.walkTag g r).1.eu = s.eu := by
  unfold State.walkTag; (try dsimp only); (repeat' split) <;> simp
@[simp] theorem State.walkGranules_eu (line : TagLine) (l : List Nat) (s : State) : (State.walkGranules line l s).eu = s.eu := by
  induction l generalizing s line with
  | nil => unfold State.walkGranules; simp
  | cons g gs ih =>
    have h := State.walkTag_eu s g (line.get (g % 4))
    unfold State.walkGranules; split <;> rename_i heq <;> rw [heq] at h <;> first | (rw [ih]; exact h) | exact h
@[simp] theorem State.requeue_mc_poolCode (s : State) (g : Nat) (r : TagRec) (o : Option DomainId) : (s.requeue g r o).1.mc.poolCode = s.mc.poolCode := by
  unfold State.requeue; (try dsimp only); (repeat' split) <;> simp
@[simp] theorem State.walkTag_mc_poolCode (s : State) (g : Nat) (r : TagRec) : (s.walkTag g r).1.mc.poolCode = s.mc.poolCode := by
  unfold State.walkTag; (try dsimp only); (repeat' split) <;> simp
@[simp] theorem State.walkGranules_mc_poolCode (line : TagLine) (l : List Nat) (s : State) : (State.walkGranules line l s).mc.poolCode = s.mc.poolCode := by
  induction l generalizing s line with
  | nil => unfold State.walkGranules; simp
  | cons g gs ih =>
    have h := State.walkTag_mc_poolCode s g (line.get (g % 4))
    unfold State.walkGranules; split <;> rename_i heq <;> rw [heq] at h <;> first | (rw [ih]; exact h) | exact h
@[simp] theorem State.requeue_mc_inReset (s : State) (g : Nat) (r : TagRec) (o : Option DomainId) : (s.requeue g r o).1.mc.inReset = s.mc.inReset := by
  unfold State.requeue; (try dsimp only); (repeat' split) <;> simp
@[simp] theorem State.walkTag_mc_inReset (s : State) (g : Nat) (r : TagRec) : (s.walkTag g r).1.mc.inReset = s.mc.inReset := by
  unfold State.walkTag; (try dsimp only); (repeat' split) <;> simp
@[simp] theorem State.walkGranules_mc_inReset (line : TagLine) (l : List Nat) (s : State) : (State.walkGranules line l s).mc.inReset = s.mc.inReset := by
  induction l generalizing s line with
  | nil => unfold State.walkGranules; simp
  | cons g gs ih =>
    have h := State.walkTag_mc_inReset s g (line.get (g % 4))
    unfold State.walkGranules; split <;> rename_i heq <;> rw [heq] at h <;> first | (rw [ih]; exact h) | exact h
@[simp] theorem State.requeue_mc_resetLow (s : State) (g : Nat) (r : TagRec) (o : Option DomainId) : (s.requeue g r o).1.mc.resetLow = s.mc.resetLow := by
  unfold State.requeue; (try dsimp only); (repeat' split) <;> simp
@[simp] theorem State.walkTag_mc_resetLow (s : State) (g : Nat) (r : TagRec) : (s.walkTag g r).1.mc.resetLow = s.mc.resetLow := by
  unfold State.walkTag; (try dsimp only); (repeat' split) <;> simp
@[simp] theorem State.walkGranules_mc_resetLow (line : TagLine) (l : List Nat) (s : State) : (State.walkGranules line l s).mc.resetLow = s.mc.resetLow := by
  induction l generalizing s line with
  | nil => unfold State.walkGranules; simp
  | cons g gs ih =>
    have h := State.walkTag_mc_resetLow s g (line.get (g % 4))
    unfold State.walkGranules; split <;> rename_i heq <;> rw [heq] at h <;> first | (rw [ih]; exact h) | exact h
@[simp] theorem State.requeue_mc_storeState (s : State) (g : Nat) (r : TagRec) (o : Option DomainId) : (s.requeue g r o).1.mc.storeState = s.mc.storeState := by
  unfold State.requeue; (try dsimp only); (repeat' split) <;> simp
@[simp] theorem State.walkTag_mc_storeState (s : State) (g : Nat) (r : TagRec) : (s.walkTag g r).1.mc.storeState = s.mc.storeState := by
  unfold State.walkTag; (try dsimp only); (repeat' split) <;> simp
@[simp] theorem State.walkGranules_mc_storeState (line : TagLine) (l : List Nat) (s : State) : (State.walkGranules line l s).mc.storeState = s.mc.storeState := by
  induction l generalizing s line with
  | nil => unfold State.walkGranules; simp
  | cons g gs ih =>
    have h := State.walkTag_mc_storeState s g (line.get (g % 4))
    unfold State.walkGranules; split <;> rename_i heq <;> rw [heq] at h <;> first | (rw [ih]; exact h) | exact h
@[simp] theorem State.requeue_mc_timestamp (s : State) (g : Nat) (r : TagRec) (o : Option DomainId) : (s.requeue g r o).1.mc.timestamp = s.mc.timestamp := by
  unfold State.requeue; (try dsimp only); (repeat' split) <;> simp
@[simp] theorem State.walkTag_mc_timestamp (s : State) (g : Nat) (r : TagRec) : (s.walkTag g r).1.mc.timestamp = s.mc.timestamp := by
  unfold State.walkTag; (try dsimp only); (repeat' split) <;> simp
@[simp] theorem State.walkGranules_mc_timestamp (line : TagLine) (l : List Nat) (s : State) : (State.walkGranules line l s).mc.timestamp = s.mc.timestamp := by
  induction l generalizing s line with
  | nil => unfold State.walkGranules; simp
  | cons g gs ih =>
    have h := State.walkTag_mc_timestamp s g (line.get (g % 4))
    unfold State.walkGranules; split <;> rename_i heq <;> rw [heq] at h <;> first | (rw [ih]; exact h) | exact h
@[simp] theorem State.requeue_cp_receiver (s : State) (g : Nat) (r : TagRec) (o : Option DomainId) : (s.requeue g r o).1.cp.receiver = s.cp.receiver := by
  unfold State.requeue; (try dsimp only); (repeat' split) <;> simp
@[simp] theorem State.walkTag_cp_receiver (s : State) (g : Nat) (r : TagRec) : (s.walkTag g r).1.cp.receiver = s.cp.receiver := by
  unfold State.walkTag; (try dsimp only); (repeat' split) <;> simp
@[simp] theorem State.walkGranules_cp_receiver (line : TagLine) (l : List Nat) (s : State) : (State.walkGranules line l s).cp.receiver = s.cp.receiver := by
  induction l generalizing s line with
  | nil => unfold State.walkGranules; simp
  | cons g gs ih =>
    have h := State.walkTag_cp_receiver s g (line.get (g % 4))
    unfold State.walkGranules; split <;> rename_i heq <;> rw [heq] at h <;> first | (rw [ih]; exact h) | exact h
@[simp] theorem State.requeue_cp_executing (s : State) (g : Nat) (r : TagRec) (o : Option DomainId) : (s.requeue g r o).1.cp.executing = s.cp.executing := by
  unfold State.requeue; (try dsimp only); (repeat' split) <;> simp
@[simp] theorem State.walkTag_cp_executing (s : State) (g : Nat) (r : TagRec) : (s.walkTag g r).1.cp.executing = s.cp.executing := by
  unfold State.walkTag; (try dsimp only); (repeat' split) <;> simp
@[simp] theorem State.walkGranules_cp_executing (line : TagLine) (l : List Nat) (s : State) : (State.walkGranules line l s).cp.executing = s.cp.executing := by
  induction l generalizing s line with
  | nil => unfold State.walkGranules; simp
  | cons g gs ih =>
    have h := State.walkTag_cp_executing s g (line.get (g % 4))
    unfold State.walkGranules; split <;> rename_i heq <;> rw [heq] at h <;> first | (rw [ih]; exact h) | exact h
@[simp] theorem State.requeue_cp_inbound (s : State) (g : Nat) (r : TagRec) (o : Option DomainId) : (s.requeue g r o).1.cp.inbound = s.cp.inbound := by
  unfold State.requeue; (try dsimp only); (repeat' split) <;> simp
@[simp] theorem State.walkTag_cp_inbound (s : State) (g : Nat) (r : TagRec) : (s.walkTag g r).1.cp.inbound = s.cp.inbound := by
  unfold State.walkTag; (try dsimp only); (repeat' split) <;> simp
@[simp] theorem State.walkGranules_cp_inbound (line : TagLine) (l : List Nat) (s : State) : (State.walkGranules line l s).cp.inbound = s.cp.inbound := by
  induction l generalizing s line with
  | nil => unfold State.walkGranules; simp
  | cons g gs ih =>
    have h := State.walkTag_cp_inbound s g (line.get (g % 4))
    unfold State.walkGranules; split <;> rename_i heq <;> rw [heq] at h <;> first | (rw [ih]; exact h) | exact h
@[simp] theorem State.requeue_cp_resetWait (s : State) (g : Nat) (r : TagRec) (o : Option DomainId) : (s.requeue g r o).1.cp.resetWait = s.cp.resetWait := by
  unfold State.requeue; (try dsimp only); (repeat' split) <;> simp
@[simp] theorem State.walkTag_cp_resetWait (s : State) (g : Nat) (r : TagRec) : (s.walkTag g r).1.cp.resetWait = s.cp.resetWait := by
  unfold State.walkTag; (try dsimp only); (repeat' split) <;> simp
@[simp] theorem State.walkGranules_cp_resetWait (line : TagLine) (l : List Nat) (s : State) : (State.walkGranules line l s).cp.resetWait = s.cp.resetWait := by
  induction l generalizing s line with
  | nil => unfold State.walkGranules; simp
  | cons g gs ih =>
    have h := State.walkTag_cp_resetWait s g (line.get (g % 4))
    unfold State.walkGranules; split <;> rename_i heq <;> rw [heq] at h <;> first | (rw [ih]; exact h) | exact h
@[simp] theorem State.requeue_portA (s : State) (g : Nat) (r : TagRec) (o : Option DomainId) : (s.requeue g r o).1.portA = s.portA := by
  unfold State.requeue; (try dsimp only); (repeat' split) <;> simp
@[simp] theorem State.walkTag_portA (s : State) (g : Nat) (r : TagRec) : (s.walkTag g r).1.portA = s.portA := by
  unfold State.walkTag; (try dsimp only); (repeat' split) <;> simp
@[simp] theorem State.walkGranules_portA (line : TagLine) (l : List Nat) (s : State) : (State.walkGranules line l s).portA = s.portA := by
  induction l generalizing s line with
  | nil => unfold State.walkGranules; simp
  | cons g gs ih =>
    have h := State.walkTag_portA s g (line.get (g % 4))
    unfold State.walkGranules; split <;> rename_i heq <;> rw [heq] at h <;> first | (rw [ih]; exact h) | exact h
@[simp] theorem State.requeue_portB (s : State) (g : Nat) (r : TagRec) (o : Option DomainId) : (s.requeue g r o).1.portB = s.portB := by
  unfold State.requeue; (try dsimp only); (repeat' split) <;> simp
@[simp] theorem State.walkTag_portB (s : State) (g : Nat) (r : TagRec) : (s.walkTag g r).1.portB = s.portB := by
  unfold State.walkTag; (try dsimp only); (repeat' split) <;> simp
@[simp] theorem State.walkGranules_portB (line : TagLine) (l : List Nat) (s : State) : (State.walkGranules line l s).portB = s.portB := by
  induction l generalizing s line with
  | nil => unfold State.walkGranules; simp
  | cons g gs ih =>
    have h := State.walkTag_portB s g (line.get (g % 4))
    unfold State.walkGranules; split <;> rename_i heq <;> rw [heq] at h <;> first | (rw [ih]; exact h) | exact h
@[simp] theorem State.requeue_pending (s : State) (g : Nat) (r : TagRec) (o : Option DomainId) : (s.requeue g r o).1.pending = s.pending := by
  unfold State.requeue; (try dsimp only); (repeat' split) <;> simp
@[simp] theorem State.walkTag_pending (s : State) (g : Nat) (r : TagRec) : (s.walkTag g r).1.pending = s.pending := by
  unfold State.walkTag; (try dsimp only); (repeat' split) <;> simp
@[simp] theorem State.walkGranules_pending (line : TagLine) (l : List Nat) (s : State) : (State.walkGranules line l s).pending = s.pending := by
  induction l generalizing s line with
  | nil => unfold State.walkGranules; simp
  | cons g gs ih =>
    have h := State.walkTag_pending s g (line.get (g % 4))
    unfold State.walkGranules; split <;> rename_i heq <;> rw [heq] at h <;> first | (rw [ih]; exact h) | exact h

@[simp] theorem State.walkAct_frame (line : TagLine) (s : State) :
    (State.walkAct line s).te = s.te ∧ (State.walkAct line s).su.write = s.su.write ∧
    (State.walkAct line s).vl = s.vl ∧ (State.walkAct line s).eu = s.eu ∧
    (State.walkAct line s).mc.poolCode = s.mc.poolCode ∧ (State.walkAct line s).mc.inReset = s.mc.inReset ∧
    (State.walkAct line s).mc.resetLow = s.mc.resetLow ∧ (State.walkAct line s).mc.storeState = s.mc.storeState ∧
    (State.walkAct line s).mc.timestamp = s.mc.timestamp ∧ (State.walkAct line s).cp.receiver = s.cp.receiver ∧
    (State.walkAct line s).cp.executing = s.cp.executing ∧ (State.walkAct line s).cp.inbound = s.cp.inbound ∧
    (State.walkAct line s).cp.resetWait = s.cp.resetWait ∧ (State.walkAct line s).portA = s.portA ∧
    (State.walkAct line s).portB = s.portB ∧ (State.walkAct line s).pending = s.pending := by
  and_intros <;> unfold State.walkAct <;> (try dsimp only) <;> (repeat' split) <;> simp

@[simp] theorem State.walkTry_frame (s : State) :
    (s.walkTry).te = s.te ∧ (s.walkTry).su.write = s.su.write ∧ (s.walkTry).vl = s.vl ∧ (s.walkTry).eu = s.eu ∧
    (s.walkTry).mc.poolCode = s.mc.poolCode ∧ (s.walkTry).mc.inReset = s.mc.inReset ∧
    (s.walkTry).mc.resetLow = s.mc.resetLow ∧ (s.walkTry).mc.storeState = s.mc.storeState ∧
    (s.walkTry).mc.timestamp = s.mc.timestamp ∧ (s.walkTry).cp.receiver = s.cp.receiver ∧
    (s.walkTry).cp.executing = s.cp.executing ∧ (s.walkTry).cp.inbound = s.cp.inbound ∧
    (s.walkTry).cp.resetWait = s.cp.resetWait ∧ (s.walkTry).portA = s.portA ∧ (s.walkTry).portB = s.portB ∧
    (s.walkTry).pending = s.pending := by
  and_intros <;> unfold State.walkTry <;> (try dsimp only) <;> (repeat' split) <;> simp

@[simp] theorem State.walkRetry_frame (s : State) :
    (s.walkRetry).te = s.te ∧ (s.walkRetry).su.write = s.su.write ∧ (s.walkRetry).vl = s.vl ∧
    (s.walkRetry).eu = s.eu ∧ (s.walkRetry).mc.poolCode = s.mc.poolCode ∧ (s.walkRetry).mc.inReset = s.mc.inReset ∧
    (s.walkRetry).mc.resetLow = s.mc.resetLow ∧ (s.walkRetry).mc.storeState = s.mc.storeState ∧
    (s.walkRetry).mc.timestamp = s.mc.timestamp ∧ (s.walkRetry).cp.receiver = s.cp.receiver ∧
    (s.walkRetry).cp.executing = s.cp.executing ∧ (s.walkRetry).cp.inbound = s.cp.inbound ∧
    (s.walkRetry).cp.resetWait = s.cp.resetWait ∧ (s.walkRetry).portA = s.portA ∧ (s.walkRetry).portB = s.portB ∧
    (s.walkRetry).pending = s.pending := by
  and_intros <;> unfold State.walkRetry <;> (try dsimp only) <;> (repeat' split) <;> simp

@[simp] theorem State.reportLoss_frame (s : State) :
    (s.reportLoss).dram = s.dram ∧ (s.reportLoss).tc = s.tc ∧ (s.reportLoss).domains = s.domains ∧
    (s.reportLoss).shares = s.shares ∧ (s.reportLoss).te.table = s.te.table ∧ (s.reportLoss).su = s.su ∧
    (s.reportLoss).vl = s.vl ∧ (s.reportLoss).eu = s.eu ∧ (s.reportLoss).mc = s.mc ∧ (s.reportLoss).cp = s.cp ∧
    (s.reportLoss).portA = s.portA ∧ (s.reportLoss).portB = s.portB ∧ (s.reportLoss).pending = s.pending := by
  and_intros <;> unfold State.reportLoss <;> (try dsimp only) <;> (repeat' split) <;> simp

@[simp] theorem State.reportLost_frame (s : State) (j : Nat) (origin : Option Port) (lost : List Nat) :
    (s.reportLost j origin lost).dram = s.dram ∧ (s.reportLost j origin lost).tc = s.tc ∧
    (s.reportLost j origin lost).domains = s.domains ∧ (s.reportLost j origin lost).shares = s.shares ∧
    (s.reportLost j origin lost).te.table = s.te.table ∧ (s.reportLost j origin lost).su = s.su ∧
    (s.reportLost j origin lost).mc.mode = s.mc.mode ∧ (s.reportLost j origin lost).mc.poolCode = s.mc.poolCode ∧
    (s.reportLost j origin lost).mc.inReset = s.mc.inReset ∧
    (s.reportLost j origin lost).mc.resetLow = s.mc.resetLow ∧
    (s.reportLost j origin lost).mc.storeState = s.mc.storeState ∧
    (s.reportLost j origin lost).mc.timestamp = s.mc.timestamp ∧
    (s.reportLost j origin lost).mc.recovery = s.mc.recovery ∧
    (s.reportLost j origin lost).cp.receiver = s.cp.receiver ∧
    (s.reportLost j origin lost).cp.executing = s.cp.executing ∧
    (s.reportLost j origin lost).cp.inbound = s.cp.inbound ∧
    (s.reportLost j origin lost).cp.resetWait = s.cp.resetWait ∧ (s.reportLost j origin lost).portA = s.portA ∧
    (s.reportLost j origin lost).portB = s.portB ∧ (s.reportLost j origin lost).pending = s.pending := by
  and_intros <;> unfold State.reportLost <;> (try dsimp only) <;> (repeat' split) <;> simp

@[simp] theorem State.countLost_frame (s : State) (j : Nat) (lost : List Nat) :
    (s.countLost j lost).dram = s.dram ∧ (s.countLost j lost).tc = s.tc ∧
    (s.countLost j lost).domains = s.domains ∧ (s.countLost j lost).shares = s.shares ∧
    (s.countLost j lost).te = s.te ∧ (s.countLost j lost).su = s.su ∧ (s.countLost j lost).vl = s.vl ∧
    (s.countLost j lost).eu = s.eu ∧ (s.countLost j lost).mc.mode = s.mc.mode ∧
    (s.countLost j lost).mc.poolCode = s.mc.poolCode ∧ (s.countLost j lost).mc.inReset = s.mc.inReset ∧
    (s.countLost j lost).mc.resetLow = s.mc.resetLow ∧ (s.countLost j lost).mc.storeState = s.mc.storeState ∧
    (s.countLost j lost).mc.timestamp = s.mc.timestamp ∧ (s.countLost j lost).cp = s.cp ∧
    (s.countLost j lost).portA = s.portA ∧ (s.countLost j lost).portB = s.portB ∧
    (s.countLost j lost).pending = s.pending := by
  and_intros <;> unfold State.countLost <;> (try dsimp only) <;> (repeat' split) <;> simp

@[simp] theorem State.lostTags_frame (s : State) (j : Nat) (origin : Option Port) (lost : List Nat) :
    (s.lostTags j origin lost).dram = s.dram ∧ (s.lostTags j origin lost).tc = s.tc ∧
    (s.lostTags j origin lost).domains = s.domains ∧ (s.lostTags j origin lost).shares = s.shares ∧
    (s.lostTags j origin lost).te.table = s.te.table ∧ (s.lostTags j origin lost).su = s.su ∧
    (s.lostTags j origin lost).mc.mode = s.mc.mode ∧ (s.lostTags j origin lost).mc.poolCode = s.mc.poolCode ∧
    (s.lostTags j origin lost).mc.inReset = s.mc.inReset ∧ (s.lostTags j origin lost).mc.resetLow = s.mc.resetLow ∧
    (s.lostTags j origin lost).mc.storeState = s.mc.storeState ∧
    (s.lostTags j origin lost).mc.timestamp = s.mc.timestamp ∧
    (s.lostTags j origin lost).cp.receiver = s.cp.receiver ∧
    (s.lostTags j origin lost).cp.executing = s.cp.executing ∧
    (s.lostTags j origin lost).cp.inbound = s.cp.inbound ∧
    (s.lostTags j origin lost).cp.resetWait = s.cp.resetWait ∧ (s.lostTags j origin lost).portA = s.portA ∧
    (s.lostTags j origin lost).portB = s.portB ∧ (s.lostTags j origin lost).pending = s.pending := by
  and_intros <;> unfold State.lostTags <;> (try dsimp only) <;> (repeat' split) <;> simp

@[simp] theorem State.settle_frame (s : State) :
    (s.settle).vl = s.vl ∧ (s.settle).mc.poolCode = s.mc.poolCode ∧ (s.settle).mc.inReset = s.mc.inReset ∧
    (s.settle).mc.resetLow = s.mc.resetLow ∧ (s.settle).mc.timestamp = s.mc.timestamp ∧
    (s.settle).cp.receiver = s.cp.receiver ∧ (s.settle).cp.executing = s.cp.executing ∧
    (s.settle).cp.inbound = s.cp.inbound ∧ (s.settle).cp.resetWait = s.cp.resetWait ∧ (s.settle).portA = s.portA ∧
    (s.settle).portB = s.portB ∧ (s.settle).pending = s.pending := by
  and_intros <;> unfold State.settle <;> (try dsimp only) <;> (repeat' split) <;> simp

end Sys2Proof.Machine
end

