-- ==== Sys2Proof/Laws/FramesMessages.lean ====
section
/-! SUPPORT. What the operations of resets, messages, commands and ports leave as it was.

There is one lemma for each operation, which names the parts of the state that it does not touch. A part that a lemma
does not name may change. -/

set_option linter.unusedTactic false
set_option linter.unreachableTactic false
set_option linter.unusedSimpArgs false
set_option linter.unnecessarySeqFocus false

namespace Sys2Proof.Machine

@[simp] theorem State.powerOnEnds_frame (s : State) :
    (s.powerOnEnds).dram = s.dram ∧ (s.powerOnEnds).tc = s.tc ∧ (s.powerOnEnds).domains = s.domains ∧
    (s.powerOnEnds).shares = s.shares ∧ (s.powerOnEnds).te = s.te ∧ (s.powerOnEnds).su = s.su ∧
    (s.powerOnEnds).vl = s.vl ∧ (s.powerOnEnds).eu = s.eu ∧ (s.powerOnEnds).mc.mode = s.mc.mode ∧
    (s.powerOnEnds).mc.poolCode = s.mc.poolCode ∧ (s.powerOnEnds).mc.resetLow = s.mc.resetLow ∧
    (s.powerOnEnds).mc.storeState = s.mc.storeState ∧ (s.powerOnEnds).mc.timestamp = s.mc.timestamp ∧
    (s.powerOnEnds).mc.recovery = s.mc.recovery ∧ (s.powerOnEnds).cp.receiver = s.cp.receiver ∧
    (s.powerOnEnds).cp.executing = s.cp.executing ∧ (s.powerOnEnds).cp.inbound = s.cp.inbound ∧
    (s.powerOnEnds).cp.resetWait = s.cp.resetWait ∧ (s.powerOnEnds).portA = s.portA ∧
    (s.powerOnEnds).portB = s.portB ∧ (s.powerOnEnds).pending = s.pending := by
  and_intros <;> unfold State.powerOnEnds <;> (try dsimp only) <;> (repeat' split) <;> simp

@[simp] theorem State.warmResetEnds_frame (s : State) :
    (s.warmResetEnds).dram = s.dram ∧ (s.warmResetEnds).tc = s.tc ∧ (s.warmResetEnds).domains = s.domains ∧
    (s.warmResetEnds).shares = s.shares ∧ (s.warmResetEnds).te = s.te ∧ (s.warmResetEnds).su = s.su ∧
    (s.warmResetEnds).vl = s.vl ∧ (s.warmResetEnds).eu = s.eu ∧ (s.warmResetEnds).mc.mode = s.mc.mode ∧
    (s.warmResetEnds).mc.poolCode = s.mc.poolCode ∧ (s.warmResetEnds).mc.resetLow = s.mc.resetLow ∧
    (s.warmResetEnds).mc.storeState = s.mc.storeState ∧ (s.warmResetEnds).mc.timestamp = s.mc.timestamp ∧
    (s.warmResetEnds).cp = s.cp ∧ (s.warmResetEnds).portA = s.portA ∧ (s.warmResetEnds).portB = s.portB ∧
    (s.warmResetEnds).pending = s.pending := by
  and_intros <;> unfold State.warmResetEnds <;> (try dsimp only) <;> (repeat' split) <;> simp

@[simp] theorem State.headerRead_frame (s : State) (c : PoolCode) (r : ReadOutcome) :
    (s.headerRead c r).tc = s.tc ∧ (s.headerRead c r).domains = s.domains ∧ (s.headerRead c r).shares = s.shares ∧
    (s.headerRead c r).te = s.te ∧ (s.headerRead c r).su = s.su ∧ (s.headerRead c r).vl = s.vl ∧
    (s.headerRead c r).eu = s.eu ∧ (s.headerRead c r).mc.inReset = s.mc.inReset ∧
    (s.headerRead c r).mc.resetLow = s.mc.resetLow ∧ (s.headerRead c r).mc.timestamp = s.mc.timestamp ∧
    (s.headerRead c r).cp.receiver = s.cp.receiver ∧ (s.headerRead c r).cp.executing = s.cp.executing ∧
    (s.headerRead c r).cp.inbound = s.cp.inbound ∧ (s.headerRead c r).cp.resetWait = s.cp.resetWait ∧
    (s.headerRead c r).portA = s.portA ∧ (s.headerRead c r).portB = s.portB ∧
    (s.headerRead c r).pending = s.pending := by
  and_intros <;> unfold State.headerRead <;> (try dsimp only) <;> (repeat' split) <;> simp

@[simp] theorem State.loadDomain_frame (c : PoolCode) (r : ReadOutcome) (s : State) (n : Nat) :
    (State.loadDomain c r s n).tc = s.tc ∧ (State.loadDomain c r s n).shares = s.shares ∧
    (State.loadDomain c r s n).te = s.te ∧ (State.loadDomain c r s n).su = s.su ∧
    (State.loadDomain c r s n).vl = s.vl ∧ (State.loadDomain c r s n).eu = s.eu ∧
    (State.loadDomain c r s n).mc.mode = s.mc.mode ∧ (State.loadDomain c r s n).mc.poolCode = s.mc.poolCode ∧
    (State.loadDomain c r s n).mc.inReset = s.mc.inReset ∧ (State.loadDomain c r s n).mc.resetLow = s.mc.resetLow ∧
    (State.loadDomain c r s n).mc.storeState = s.mc.storeState ∧
    (State.loadDomain c r s n).mc.timestamp = s.mc.timestamp ∧ (State.loadDomain c r s n).cp = s.cp ∧
    (State.loadDomain c r s n).portA = s.portA ∧ (State.loadDomain c r s n).portB = s.portB ∧
    (State.loadDomain c r s n).pending = s.pending ∧ (State.loadDomain c r s n).dram = s.dram ∧
    (State.loadDomain c r s n).mc.recovery = s.mc.recovery := by
  and_intros <;> unfold State.loadDomain <;> (try dsimp only) <;> (repeat' split) <;> simp

@[simp] theorem State.domainRead_frame (s : State) (c : PoolCode) (n : Nat) (r : ReadOutcome) :
    (s.domainRead c n r).tc = s.tc ∧ (s.domainRead c n r).shares = s.shares ∧ (s.domainRead c n r).te = s.te ∧
    (s.domainRead c n r).su = s.su ∧ (s.domainRead c n r).vl = s.vl ∧ (s.domainRead c n r).eu = s.eu ∧
    (s.domainRead c n r).mc.mode = s.mc.mode ∧ (s.domainRead c n r).mc.poolCode = s.mc.poolCode ∧
    (s.domainRead c n r).mc.inReset = s.mc.inReset ∧ (s.domainRead c n r).mc.resetLow = s.mc.resetLow ∧
    (s.domainRead c n r).mc.storeState = s.mc.storeState ∧ (s.domainRead c n r).mc.timestamp = s.mc.timestamp ∧
    (s.domainRead c n r).cp = s.cp ∧ (s.domainRead c n r).portA = s.portA ∧ (s.domainRead c n r).portB = s.portB ∧
    (s.domainRead c n r).pending = s.pending := by
  and_intros <;> unfold State.domainRead <;> (try dsimp only) <;> (repeat' split) <;> simp

@[simp] theorem State.loadShare_frame (c : PoolCode) (r : ReadOutcome) (s : State) (n : Nat) :
    (State.loadShare c r s n).dram = s.dram ∧ (State.loadShare c r s n).tc = s.tc ∧
    (State.loadShare c r s n).domains = s.domains ∧ (State.loadShare c r s n).te = s.te ∧
    (State.loadShare c r s n).su = s.su ∧ (State.loadShare c r s n).vl = s.vl ∧
    (State.loadShare c r s n).eu = s.eu ∧ (State.loadShare c r s n).mc = s.mc ∧
    (State.loadShare c r s n).cp = s.cp ∧ (State.loadShare c r s n).portA = s.portA ∧
    (State.loadShare c r s n).portB = s.portB ∧ (State.loadShare c r s n).pending = s.pending := by
  and_intros <;> unfold State.loadShare <;> (try dsimp only) <;> (repeat' split) <;> simp

@[simp] theorem State.shareRead_frame (s : State) (c : PoolCode) (n : Nat) (r : ReadOutcome) :
    (s.shareRead c n r).tc = s.tc ∧ (s.shareRead c n r).domains = s.domains ∧ (s.shareRead c n r).te = s.te ∧
    (s.shareRead c n r).su = s.su ∧ (s.shareRead c n r).vl = s.vl ∧ (s.shareRead c n r).eu = s.eu ∧
    (s.shareRead c n r).mc.mode = s.mc.mode ∧ (s.shareRead c n r).mc.poolCode = s.mc.poolCode ∧
    (s.shareRead c n r).mc.inReset = s.mc.inReset ∧ (s.shareRead c n r).mc.resetLow = s.mc.resetLow ∧
    (s.shareRead c n r).mc.storeState = s.mc.storeState ∧ (s.shareRead c n r).mc.timestamp = s.mc.timestamp ∧
    (s.shareRead c n r).cp = s.cp ∧ (s.shareRead c n r).portA = s.portA ∧ (s.shareRead c n r).portB = s.portB ∧
    (s.shareRead c n r).pending = s.pending := by
  and_intros <;> unfold State.shareRead <;> (try dsimp only) <;> (repeat' split) <;> simp

@[simp] theorem State.offerFrame_frame (s : State) (body : List Byte) :
    (s.offerFrame body).dram = s.dram ∧ (s.offerFrame body).tc = s.tc ∧ (s.offerFrame body).domains = s.domains ∧
    (s.offerFrame body).shares = s.shares ∧ (s.offerFrame body).te = s.te ∧ (s.offerFrame body).su = s.su ∧
    (s.offerFrame body).vl = s.vl ∧ (s.offerFrame body).eu = s.eu ∧ (s.offerFrame body).mc = s.mc ∧
    (s.offerFrame body).portA = s.portA ∧ (s.offerFrame body).portB = s.portB ∧
    (s.offerFrame body).pending = s.pending := by
  and_intros <;> unfold State.offerFrame <;> (try dsimp only) <;> (repeat' split) <;> simp

@[simp] theorem State.setReceiver_frame (s : State) (r : Receiver) :
    (s.setReceiver r).dram = s.dram ∧ (s.setReceiver r).tc = s.tc ∧ (s.setReceiver r).domains = s.domains ∧
    (s.setReceiver r).shares = s.shares ∧ (s.setReceiver r).te = s.te ∧ (s.setReceiver r).su = s.su ∧
    (s.setReceiver r).vl = s.vl ∧ (s.setReceiver r).eu = s.eu ∧ (s.setReceiver r).mc = s.mc ∧
    (s.setReceiver r).cp.executing = s.cp.executing ∧ (s.setReceiver r).cp.inbound = s.cp.inbound ∧
    (s.setReceiver r).cp.resetWait = s.cp.resetWait ∧ (s.setReceiver r).portA = s.portA ∧
    (s.setReceiver r).portB = s.portB ∧ (s.setReceiver r).pending = s.pending := by
  and_intros <;> unfold State.setReceiver <;> (try dsimp only) <;> (repeat' split) <;> simp

@[simp] theorem State.endFrame_frame (s : State) (body : List Byte) (high low : Byte) :
    (s.endFrame body high low).dram = s.dram ∧ (s.endFrame body high low).tc = s.tc ∧
    (s.endFrame body high low).domains = s.domains ∧ (s.endFrame body high low).shares = s.shares ∧
    (s.endFrame body high low).te = s.te ∧ (s.endFrame body high low).su = s.su ∧
    (s.endFrame body high low).vl = s.vl ∧ (s.endFrame body high low).eu = s.eu ∧
    (s.endFrame body high low).mc = s.mc ∧ (s.endFrame body high low).portA = s.portA ∧
    (s.endFrame body high low).portB = s.portB ∧ (s.endFrame body high low).pending = s.pending := by
  and_intros <;> unfold State.endFrame <;> (try dsimp only) <;> (repeat' split) <;> simp

@[simp] theorem State.takeByte_frame (s : State) (b : Byte) :
    (s.takeByte b).dram = s.dram ∧ (s.takeByte b).tc = s.tc ∧ (s.takeByte b).domains = s.domains ∧
    (s.takeByte b).shares = s.shares ∧ (s.takeByte b).te = s.te ∧ (s.takeByte b).su = s.su ∧
    (s.takeByte b).vl = s.vl ∧ (s.takeByte b).eu = s.eu ∧ (s.takeByte b).mc = s.mc ∧
    (s.takeByte b).portA = s.portA ∧ (s.takeByte b).portB = s.portB ∧ (s.takeByte b).pending = s.pending := by
  and_intros <;> unfold State.takeByte <;> (try dsimp only) <;> (repeat' split) <;> simp

@[simp] theorem State.takeBytes_frame (s : State) (bytes : List Byte) :
    (s.takeBytes bytes).dram = s.dram ∧ (s.takeBytes bytes).tc = s.tc ∧ (s.takeBytes bytes).domains = s.domains ∧
    (s.takeBytes bytes).shares = s.shares ∧ (s.takeBytes bytes).te = s.te ∧ (s.takeBytes bytes).su = s.su ∧
    (s.takeBytes bytes).vl = s.vl ∧ (s.takeBytes bytes).eu = s.eu ∧ (s.takeBytes bytes).mc = s.mc ∧
    (s.takeBytes bytes).portA = s.portA ∧ (s.takeBytes bytes).portB = s.portB ∧
    (s.takeBytes bytes).pending = s.pending := by
  and_intros <;> unfold State.takeBytes <;> (try dsimp only) <;> (repeat' split) <;> simp

@[simp] theorem State.replyGone_frame (s : State) :
    (s.replyGone).dram = s.dram ∧ (s.replyGone).tc = s.tc ∧ (s.replyGone).domains = s.domains ∧
    (s.replyGone).shares = s.shares ∧ (s.replyGone).te = s.te ∧ (s.replyGone).su = s.su ∧ (s.replyGone).vl = s.vl ∧
    (s.replyGone).eu = s.eu ∧ (s.replyGone).mc = s.mc ∧ (s.replyGone).cp.receiver = s.cp.receiver ∧
    (s.replyGone).cp.executing = s.cp.executing ∧ (s.replyGone).cp.inbound = s.cp.inbound ∧
    (s.replyGone).cp.resetWait = s.cp.resetWait ∧ (s.replyGone).portA = s.portA ∧ (s.replyGone).portB = s.portB ∧
    (s.replyGone).pending = s.pending := by
  and_intros <;> unfold State.replyGone <;> (try dsimp only) <;> (repeat' split) <;> simp

@[simp] theorem State.noticeHandsOn_frame (s : State) (n : Notice) :
    (s.noticeHandsOn n).dram = s.dram ∧ (s.noticeHandsOn n).tc = s.tc ∧ (s.noticeHandsOn n).domains = s.domains ∧
    (s.noticeHandsOn n).shares = s.shares ∧ (s.noticeHandsOn n).su = s.su ∧ (s.noticeHandsOn n).vl = s.vl ∧
    (s.noticeHandsOn n).mc.poolCode = s.mc.poolCode ∧ (s.noticeHandsOn n).mc.inReset = s.mc.inReset ∧
    (s.noticeHandsOn n).mc.resetLow = s.mc.resetLow ∧ (s.noticeHandsOn n).mc.storeState = s.mc.storeState ∧
    (s.noticeHandsOn n).mc.timestamp = s.mc.timestamp ∧ (s.noticeHandsOn n).mc.recovery = s.mc.recovery ∧
    (s.noticeHandsOn n).cp.receiver = s.cp.receiver ∧ (s.noticeHandsOn n).cp.executing = s.cp.executing ∧
    (s.noticeHandsOn n).cp.inbound = s.cp.inbound ∧ (s.noticeHandsOn n).cp.resetWait = s.cp.resetWait ∧
    (s.noticeHandsOn n).portA = s.portA ∧ (s.noticeHandsOn n).portB = s.portB ∧
    (s.noticeHandsOn n).pending = s.pending := by
  and_intros <;> unfold State.noticeHandsOn <;> (try dsimp only) <;> (repeat' split) <;> simp

@[simp] theorem State.takeSlot_frame (s : State) (c : Command) :
    (s.takeSlot c).dram = s.dram ∧ (s.takeSlot c).tc = s.tc ∧ (s.takeSlot c).domains = s.domains ∧
    (s.takeSlot c).shares = s.shares ∧ (s.takeSlot c).su = s.su ∧ (s.takeSlot c).vl = s.vl ∧
    (s.takeSlot c).eu = s.eu ∧ (s.takeSlot c).mc = s.mc ∧ (s.takeSlot c).cp = s.cp ∧
    (s.takeSlot c).portA = s.portA ∧ (s.takeSlot c).portB = s.portB ∧ (s.takeSlot c).pending = s.pending := by
  and_intros <;> unfold State.takeSlot <;> (try dsimp only) <;> (repeat' split) <;> simp

@[simp] theorem State.acceptKind_frame (s : State) (c : Command) :
    (s.acceptKind c).tc = s.tc ∧ (s.acceptKind c).shares = s.shares ∧ (s.acceptKind c).te = s.te ∧
    (s.acceptKind c).su = s.su ∧ (s.acceptKind c).vl = s.vl ∧ (s.acceptKind c).eu = s.eu ∧
    (s.acceptKind c).mc.mode = s.mc.mode ∧ (s.acceptKind c).mc.poolCode = s.mc.poolCode ∧
    (s.acceptKind c).mc.inReset = s.mc.inReset ∧ (s.acceptKind c).mc.resetLow = s.mc.resetLow ∧
    (s.acceptKind c).mc.timestamp = s.mc.timestamp ∧ (s.acceptKind c).mc.recovery = s.mc.recovery ∧
    (s.acceptKind c).cp = s.cp ∧ (s.acceptKind c).portA = s.portA ∧ (s.acceptKind c).portB = s.portB ∧
    (s.acceptKind c).pending = s.pending := by
  and_intros <;> unfold State.acceptKind <;> (try dsimp only) <;> (repeat' split) <;> simp

@[simp] theorem State.accept_frame (s : State) (c : Command) :
    (s.accept c).tc = s.tc ∧ (s.accept c).shares = s.shares ∧ (s.accept c).su = s.su ∧ (s.accept c).vl = s.vl ∧
    (s.accept c).eu = s.eu ∧ (s.accept c).mc.mode = s.mc.mode ∧ (s.accept c).mc.poolCode = s.mc.poolCode ∧
    (s.accept c).mc.inReset = s.mc.inReset ∧ (s.accept c).mc.resetLow = s.mc.resetLow ∧
    (s.accept c).mc.timestamp = s.mc.timestamp ∧ (s.accept c).mc.recovery = s.mc.recovery ∧
    (s.accept c).cp.receiver = s.cp.receiver ∧ (s.accept c).cp.resetWait = s.cp.resetWait ∧
    (s.accept c).portA = s.portA ∧ (s.accept c).portB = s.portB ∧ (s.accept c).pending = s.pending := by
  and_intros <;> unfold State.accept <;> (try dsimp only) <;> (repeat' split) <;> simp

@[simp] theorem State.acceptOrRefuse_frame (s : State) (checked : Except Status Command) :
    (s.acceptOrRefuse checked).tc = s.tc ∧ (s.acceptOrRefuse checked).shares = s.shares ∧
    (s.acceptOrRefuse checked).su = s.su ∧ (s.acceptOrRefuse checked).vl = s.vl ∧
    (s.acceptOrRefuse checked).eu = s.eu ∧ (s.acceptOrRefuse checked).mc.mode = s.mc.mode ∧
    (s.acceptOrRefuse checked).mc.poolCode = s.mc.poolCode ∧ (s.acceptOrRefuse checked).mc.inReset = s.mc.inReset ∧
    (s.acceptOrRefuse checked).mc.resetLow = s.mc.resetLow ∧
    (s.acceptOrRefuse checked).mc.timestamp = s.mc.timestamp ∧
    (s.acceptOrRefuse checked).mc.recovery = s.mc.recovery ∧
    (s.acceptOrRefuse checked).cp.receiver = s.cp.receiver ∧
    (s.acceptOrRefuse checked).cp.resetWait = s.cp.resetWait ∧ (s.acceptOrRefuse checked).portA = s.portA ∧
    (s.acceptOrRefuse checked).portB = s.portB ∧ (s.acceptOrRefuse checked).pending = s.pending := by
  and_intros <;> unfold State.acceptOrRefuse <;> (try dsimp only) <;> (repeat' split) <;> simp

@[simp] theorem State.acceptance_frame (s : State) (checked : Except Status Command) :
    (s.acceptance checked).tc = s.tc ∧ (s.acceptance checked).shares = s.shares ∧
    (s.acceptance checked).su = s.su ∧ (s.acceptance checked).vl = s.vl ∧ (s.acceptance checked).eu = s.eu ∧
    (s.acceptance checked).mc.mode = s.mc.mode ∧ (s.acceptance checked).mc.poolCode = s.mc.poolCode ∧
    (s.acceptance checked).mc.inReset = s.mc.inReset ∧ (s.acceptance checked).mc.resetLow = s.mc.resetLow ∧
    (s.acceptance checked).mc.timestamp = s.mc.timestamp ∧ (s.acceptance checked).mc.recovery = s.mc.recovery ∧
    (s.acceptance checked).cp.receiver = s.cp.receiver ∧ (s.acceptance checked).cp.resetWait = s.cp.resetWait ∧
    (s.acceptance checked).portA = s.portA ∧ (s.acceptance checked).portB = s.portB ∧
    (s.acceptance checked).pending = s.pending := by
  and_intros <;> unfold State.acceptance <;> (try dsimp only) <;> (repeat' split) <;> simp

@[simp] theorem State.undoAcceptance_frame (s : State) (c : Command) :
    (s.undoAcceptance c).tc = s.tc ∧ (s.undoAcceptance c).shares = s.shares ∧ (s.undoAcceptance c).te = s.te ∧
    (s.undoAcceptance c).su = s.su ∧ (s.undoAcceptance c).vl = s.vl ∧ (s.undoAcceptance c).eu = s.eu ∧
    (s.undoAcceptance c).mc.mode = s.mc.mode ∧ (s.undoAcceptance c).mc.poolCode = s.mc.poolCode ∧
    (s.undoAcceptance c).mc.inReset = s.mc.inReset ∧ (s.undoAcceptance c).mc.resetLow = s.mc.resetLow ∧
    (s.undoAcceptance c).mc.timestamp = s.mc.timestamp ∧ (s.undoAcceptance c).mc.recovery = s.mc.recovery ∧
    (s.undoAcceptance c).cp = s.cp ∧ (s.undoAcceptance c).portA = s.portA ∧ (s.undoAcceptance c).portB = s.portB ∧
    (s.undoAcceptance c).pending = s.pending := by
  and_intros <;> unfold State.undoAcceptance <;> (try dsimp only) <;> (repeat' split) <;> simp

@[simp] theorem State.cancelCommand_frame (s : State) (c : Cmd) :
    (s.cancelCommand c).su = s.su ∧ (s.cancelCommand c).vl = s.vl ∧ (s.cancelCommand c).eu = s.eu ∧
    (s.cancelCommand c).mc.mode = s.mc.mode ∧ (s.cancelCommand c).mc.poolCode = s.mc.poolCode ∧
    (s.cancelCommand c).mc.inReset = s.mc.inReset ∧ (s.cancelCommand c).mc.resetLow = s.mc.resetLow ∧
    (s.cancelCommand c).mc.timestamp = s.mc.timestamp ∧ (s.cancelCommand c).mc.recovery = s.mc.recovery ∧
    (s.cancelCommand c).cp.receiver = s.cp.receiver ∧ (s.cancelCommand c).cp.executing = s.cp.executing ∧
    (s.cancelCommand c).cp.inbound = s.cp.inbound ∧ (s.cancelCommand c).cp.resetWait = s.cp.resetWait ∧
    (s.cancelCommand c).portA = s.portA ∧ (s.cancelCommand c).portB = s.portB ∧
    (s.cancelCommand c).pending = s.pending := by
  and_intros <;> unfold State.cancelCommand <;> (try dsimp only) <;> (repeat' split) <;> simp

@[simp] theorem State.clearScore_frame (s : State) (d : DomainId) :
    (s.clearScore d).tc = s.tc ∧ (s.clearScore d).shares = s.shares ∧ (s.clearScore d).te = s.te ∧
    (s.clearScore d).su = s.su ∧ (s.clearScore d).vl = s.vl ∧ (s.clearScore d).eu = s.eu ∧
    (s.clearScore d).mc = s.mc ∧ (s.clearScore d).cp = s.cp ∧ (s.clearScore d).portA = s.portA ∧
    (s.clearScore d).portB = s.portB ∧ (s.clearScore d).pending = s.pending := by
  and_intros <;> unfold State.clearScore <;> (try dsimp only) <;> (repeat' split) <;> simp

@[simp] theorem State.beginQuery_frame (s : State) (q : Query) :
    (s.beginQuery q).dram.mem = s.dram.mem ∧ (s.beginQuery q).dram.badUnits = s.dram.badUnits ∧
    (s.beginQuery q).dram.damageCount = s.dram.damageCount ∧ (s.beginQuery q).domains = s.domains ∧
    (s.beginQuery q).shares = s.shares ∧ (s.beginQuery q).te = s.te ∧ (s.beginQuery q).su.write = s.su.write ∧
    (s.beginQuery q).vl = s.vl ∧ (s.beginQuery q).mc.poolCode = s.mc.poolCode ∧
    (s.beginQuery q).mc.inReset = s.mc.inReset ∧ (s.beginQuery q).mc.resetLow = s.mc.resetLow ∧
    (s.beginQuery q).mc.storeState = s.mc.storeState ∧ (s.beginQuery q).mc.timestamp = s.mc.timestamp ∧
    (s.beginQuery q).mc.recovery = s.mc.recovery ∧ (s.beginQuery q).cp.receiver = s.cp.receiver ∧
    (s.beginQuery q).cp.resetWait = s.cp.resetWait ∧ (s.beginQuery q).portA = s.portA ∧
    (s.beginQuery q).portB = s.portB ∧ (s.beginQuery q).pending = s.pending := by
  and_intros <;> unfold State.beginQuery <;> (try dsimp only) <;> (repeat' split) <;> simp

@[simp] theorem State.setEnables_frame (s : State) (mask : FlagSet) :
    (s.setEnables mask).dram = s.dram ∧ (s.setEnables mask).tc = s.tc ∧ (s.setEnables mask).domains = s.domains ∧
    (s.setEnables mask).shares = s.shares ∧ (s.setEnables mask).te = s.te ∧ (s.setEnables mask).su = s.su ∧
    (s.setEnables mask).vl = s.vl ∧ (s.setEnables mask).mc = s.mc ∧
    (s.setEnables mask).cp.receiver = s.cp.receiver ∧ (s.setEnables mask).cp.executing = s.cp.executing ∧
    (s.setEnables mask).cp.inbound = s.cp.inbound ∧ (s.setEnables mask).cp.resetWait = s.cp.resetWait ∧
    (s.setEnables mask).portA = s.portA ∧ (s.setEnables mask).portB = s.portB ∧
    (s.setEnables mask).pending = s.pending := by
  and_intros <;> unfold State.setEnables <;> (try dsimp only) <;> (repeat' split) <;> simp

@[simp] theorem State.setEnable_frame (s : State) (p : Port) (f : List Byte) :
    (s.setEnable p f).dram = s.dram ∧ (s.setEnable p f).tc = s.tc ∧ (s.setEnable p f).domains = s.domains ∧
    (s.setEnable p f).shares = s.shares ∧ (s.setEnable p f).su = s.su ∧ (s.setEnable p f).vl = s.vl ∧
    (s.setEnable p f).mc = s.mc ∧ (s.setEnable p f).cp.receiver = s.cp.receiver ∧
    (s.setEnable p f).cp.executing = s.cp.executing ∧ (s.setEnable p f).cp.inbound = s.cp.inbound ∧
    (s.setEnable p f).cp.resetWait = s.cp.resetWait ∧ (s.setEnable p f).pending = s.pending := by
  and_intros <;> unfold State.setEnable <;> (try dsimp only) <;> (repeat' split) <;> simp

@[simp] theorem State.setOnePort_frame (s : State) (f : List Byte) (p : Port) :
    (s.setOnePort f p).dram = s.dram ∧ (s.setOnePort f p).tc = s.tc ∧ (s.setOnePort f p).domains = s.domains ∧
    (s.setOnePort f p).shares = s.shares ∧ (s.setOnePort f p).su = s.su ∧ (s.setOnePort f p).vl = s.vl ∧
    (s.setOnePort f p).mc = s.mc ∧ (s.setOnePort f p).cp.receiver = s.cp.receiver ∧
    (s.setOnePort f p).cp.executing = s.cp.executing ∧ (s.setOnePort f p).cp.inbound = s.cp.inbound ∧
    (s.setOnePort f p).cp.resetWait = s.cp.resetWait ∧ (s.setOnePort f p).pending = s.pending := by
  and_intros <;> unfold State.setOnePort <;> (try dsimp only) <;> (repeat' split) <;> simp

@[simp] theorem State.wake_frame (s : State) :
    (s.wake).vl = s.vl ∧ (s.wake).mc.poolCode = s.mc.poolCode ∧ (s.wake).mc.inReset = s.mc.inReset ∧
    (s.wake).mc.resetLow = s.mc.resetLow ∧ (s.wake).mc.timestamp = s.mc.timestamp ∧
    (s.wake).cp.receiver = s.cp.receiver ∧ (s.wake).cp.executing = s.cp.executing ∧
    (s.wake).cp.inbound = s.cp.inbound ∧ (s.wake).cp.resetWait = s.cp.resetWait ∧ (s.wake).portA = s.portA ∧
    (s.wake).portB = s.portB ∧ (s.wake).pending = s.pending := by
  and_intros <;> unfold State.wake <;> (try dsimp only) <;> (repeat' split) <;> simp

@[simp] theorem State.move_frame (s : State) (m : Move) (target : Mode) :
    (s.move m target).vl = s.vl ∧ (s.move m target).mc.poolCode = s.mc.poolCode ∧
    (s.move m target).mc.inReset = s.mc.inReset ∧ (s.move m target).mc.resetLow = s.mc.resetLow ∧
    (s.move m target).mc.timestamp = s.mc.timestamp ∧ (s.move m target).cp.receiver = s.cp.receiver ∧
    (s.move m target).cp.executing = s.cp.executing ∧ (s.move m target).cp.inbound = s.cp.inbound ∧
    (s.move m target).cp.resetWait = s.cp.resetWait ∧ (s.move m target).portA = s.portA ∧
    (s.move m target).portB = s.portB ∧ (s.move m target).pending = s.pending := by
  and_intros <;> unfold State.move <;> (try dsimp only) <;> (repeat' split) <;> simp

@[simp] theorem State.setQuota0_frame (s : State) :
    (s.setQuota0).tc = s.tc ∧ (s.setQuota0).shares = s.shares ∧ (s.setQuota0).te = s.te ∧ (s.setQuota0).su = s.su ∧
    (s.setQuota0).vl = s.vl ∧ (s.setQuota0).eu = s.eu ∧ (s.setQuota0).mc = s.mc ∧ (s.setQuota0).cp = s.cp ∧
    (s.setQuota0).portA = s.portA ∧ (s.setQuota0).portB = s.portB ∧ (s.setQuota0).pending = s.pending := by
  and_intros <;> unfold State.setQuota0 <;> (try dsimp only) <;> (repeat' split) <;> simp

@[simp] theorem State.setPool_frame (s : State) (code : Option PoolCode) :
    (s.setPool code).tc = s.tc ∧ (s.setPool code).shares = s.shares ∧
    (s.setPool code).te = s.te ∧ (s.setPool code).su = s.su ∧ (s.setPool code).vl = s.vl ∧
    (s.setPool code).eu = s.eu ∧ (s.setPool code).mc.mode = s.mc.mode ∧
    (s.setPool code).mc.inReset = s.mc.inReset ∧ (s.setPool code).mc.resetLow = s.mc.resetLow ∧
    (s.setPool code).mc.storeState = s.mc.storeState ∧ (s.setPool code).mc.timestamp = s.mc.timestamp ∧
    (s.setPool code).mc.recovery = s.mc.recovery ∧ (s.setPool code).cp = s.cp ∧
    (s.setPool code).pending = s.pending := by
  and_intros <;> unfold State.setPool <;> (try dsimp only) <;> (repeat' split) <;> simp

@[simp] theorem State.settingsTaken_frame (s : State) (f : List Byte) :
    (s.settingsTaken f).dram = s.dram ∧ (s.settingsTaken f).tc = s.tc ∧ (s.settingsTaken f).domains = s.domains ∧
    (s.settingsTaken f).shares = s.shares ∧ (s.settingsTaken f).te = s.te ∧ (s.settingsTaken f).su = s.su ∧
    (s.settingsTaken f).vl = s.vl ∧ (s.settingsTaken f).eu = s.eu ∧
    (s.settingsTaken f).cp.receiver = s.cp.receiver ∧ (s.settingsTaken f).cp.resetWait = s.cp.resetWait ∧
    (s.settingsTaken f).portA = s.portA ∧ (s.settingsTaken f).portB = s.portB ∧
    (s.settingsTaken f).pending = s.pending := by
  and_intros <;> unfold State.settingsTaken <;> (try dsimp only) <;> (repeat' split) <;> simp

@[simp] theorem State.takeIn_frame (s : State) (p : Port) (t : ReqTag) (d : DomainId) (op : Opcode) (n : LineNo) (data : List Byte) :
    (s.takeIn p t d op n data).shares = s.shares ∧ (s.takeIn p t d op n data).su = s.su ∧
    (s.takeIn p t d op n data).mc = s.mc ∧ (s.takeIn p t d op n data).cp.receiver = s.cp.receiver ∧
    (s.takeIn p t d op n data).cp.executing = s.cp.executing ∧ (s.takeIn p t d op n data).cp.inbound = s.cp.inbound ∧
    (s.takeIn p t d op n data).cp.resetWait = s.cp.resetWait ∧ (s.takeIn p t d op n data).pending = s.pending := by
  and_intros <;> unfold State.takeIn <;> (try dsimp only) <;> (repeat' split) <;> simp

@[simp] theorem State.requestArrives_frame (s : State) (p : Port) (t : ReqTag) (d : DomainId) (op : Opcode) (n : LineNo) (data : List Byte) :
    (s.requestArrives p t d op n data).shares = s.shares ∧ (s.requestArrives p t d op n data).su = s.su ∧
    (s.requestArrives p t d op n data).mc = s.mc ∧ (s.requestArrives p t d op n data).cp.receiver = s.cp.receiver ∧
    (s.requestArrives p t d op n data).cp.executing = s.cp.executing ∧
    (s.requestArrives p t d op n data).cp.inbound = s.cp.inbound ∧
    (s.requestArrives p t d op n data).cp.resetWait = s.cp.resetWait ∧
    (s.requestArrives p t d op n data).pending = s.pending := by
  and_intros <;> unfold State.requestArrives <;> (try dsimp only) <;> (repeat' split) <;> simp

@[simp] theorem State.announce_frame (s : State) (p : Port) (tagLimit : Nat) (poison : Bool) :
    (s.announce p tagLimit poison).dram = s.dram ∧ (s.announce p tagLimit poison).tc = s.tc ∧
    (s.announce p tagLimit poison).domains = s.domains ∧ (s.announce p tagLimit poison).shares = s.shares ∧
    (s.announce p tagLimit poison).te = s.te ∧ (s.announce p tagLimit poison).su = s.su ∧
    (s.announce p tagLimit poison).vl = s.vl ∧ (s.announce p tagLimit poison).mc = s.mc ∧
    (s.announce p tagLimit poison).cp.receiver = s.cp.receiver ∧
    (s.announce p tagLimit poison).cp.executing = s.cp.executing ∧
    (s.announce p tagLimit poison).cp.inbound = s.cp.inbound ∧
    (s.announce p tagLimit poison).cp.resetWait = s.cp.resetWait ∧
    (s.announce p tagLimit poison).pending = s.pending := by
  and_intros <;> unfold State.announce <;> (try dsimp only) <;> (repeat' split) <;> simp

@[simp] theorem State.dataPoison_frame (s : State) (p : Port) (e : Entry) (o : MemOutcome) :
    (s.dataPoison p e o).dram = s.dram ∧ (s.dataPoison p e o).tc = s.tc ∧
    (s.dataPoison p e o).domains = s.domains ∧ (s.dataPoison p e o).shares = s.shares ∧
    (s.dataPoison p e o).te = s.te ∧ (s.dataPoison p e o).su = s.su ∧ (s.dataPoison p e o).mc = s.mc ∧
    (s.dataPoison p e o).cp.receiver = s.cp.receiver ∧ (s.dataPoison p e o).cp.executing = s.cp.executing ∧
    (s.dataPoison p e o).cp.inbound = s.cp.inbound ∧ (s.dataPoison p e o).cp.resetWait = s.cp.resetWait ∧
    (s.dataPoison p e o).portA = s.portA ∧ (s.dataPoison p e o).portB = s.portB ∧
    (s.dataPoison p e o).pending = s.pending := by
  and_intros <;> unfold State.dataPoison <;> (try dsimp only) <;> (repeat' split) <;> simp

@[simp] theorem State.operationDone_frame (s : State) (p : Port) (e : Entry) (o : MemOutcome) :
    (s.operationDone p e o).tc = s.tc ∧ (s.operationDone p e o).domains = s.domains ∧
    (s.operationDone p e o).shares = s.shares ∧ (s.operationDone p e o).su = s.su ∧
    (s.operationDone p e o).mc = s.mc ∧ (s.operationDone p e o).cp.receiver = s.cp.receiver ∧
    (s.operationDone p e o).cp.executing = s.cp.executing ∧ (s.operationDone p e o).cp.inbound = s.cp.inbound ∧
    (s.operationDone p e o).cp.resetWait = s.cp.resetWait ∧ (s.operationDone p e o).pending = s.pending := by
  and_intros <;> unfold State.operationDone <;> (try dsimp only) <;> (repeat' split) <;> simp

@[simp] theorem State.expireDrain_frame (s : State) (w : Work) (c : Command) :
    (s.expireDrain w c).tc = s.tc ∧ (s.expireDrain w c).su = s.su ∧ (s.expireDrain w c).vl = s.vl ∧
    (s.expireDrain w c).eu = s.eu ∧ (s.expireDrain w c).mc.mode = s.mc.mode ∧
    (s.expireDrain w c).mc.poolCode = s.mc.poolCode ∧ (s.expireDrain w c).mc.inReset = s.mc.inReset ∧
    (s.expireDrain w c).mc.resetLow = s.mc.resetLow ∧ (s.expireDrain w c).mc.timestamp = s.mc.timestamp ∧
    (s.expireDrain w c).mc.recovery = s.mc.recovery ∧ (s.expireDrain w c).cp.receiver = s.cp.receiver ∧
    (s.expireDrain w c).cp.executing = s.cp.executing ∧ (s.expireDrain w c).cp.inbound = s.cp.inbound ∧
    (s.expireDrain w c).cp.resetWait = s.cp.resetWait ∧ (s.expireDrain w c).portA = s.portA ∧
    (s.expireDrain w c).portB = s.portB ∧ (s.expireDrain w c).pending = s.pending := by
  and_intros <;> unfold State.expireDrain <;> (try dsimp only) <;> (repeat' split) <;> simp

end Sys2Proof.Machine
end

