-- ==== Sys2Proof/Laws/Table.lean ====
section
/-! SUPPORT. The laws of sparse tables: what a key reads as after an update, and that updates keep the canonical form. -/

namespace Sys2Proof.Machine

variable {α : Type}

theorem smapGet_insert_same (d : α) (k : Nat) (v : α) (m : SMap α) (h : ∀ p ∈ m, p.1 ≠ k) :
    smapGet d (smapInsert k v m) k = v := by
  induction m with
  | nil => simp [smapInsert, smapGet]
  | cons p t ih =>
    obtain ⟨a, b⟩ := p
    have ha : a ≠ k := h (a, b) (by simp)
    have ht : ∀ q ∈ t, q.1 ≠ k := fun q hq => h q (by simp [hq])
    by_cases hk : k < a <;> simp [smapInsert, hk, smapGet, ha, ih ht]

theorem smapGet_insert_ne (d : α) {k a : Nat} (v : α) (m : SMap α) (h : a ≠ k) :
    smapGet d (smapInsert k v m) a = smapGet d m a := by
  induction m with
  | nil => simp [smapInsert, smapGet, Ne.symm h]
  | cons p t ih =>
    obtain ⟨c, b⟩ := p
    by_cases hk : k < c <;> simp [smapInsert, hk, smapGet, ih, Ne.symm h]

theorem smapGet_filter_same (d : α) (k : Nat) (m : SMap α) : smapGet d (m.filter fun p => p.1 != k) k = d := by
  induction m with
  | nil => rfl
  | cons p t ih =>
    obtain ⟨c, b⟩ := p
    by_cases hc : c = k <;> simp [hc, smapGet, ih]

theorem smapGet_filter_ne (d : α) {k a : Nat} (m : SMap α) (h : a ≠ k) :
    smapGet d (m.filter fun p => p.1 != k) a = smapGet d m a := by
  induction m with
  | nil => rfl
  | cons p t ih =>
    obtain ⟨c, b⟩ := p
    by_cases hc : c = k
    · subst hc; simp [smapGet, ih, Ne.symm h]
    · simp [hc, smapGet, ih]

theorem filter_insert_same (k : Nat) (v : α) (m : SMap α) :
    (smapInsert k v m).filter (fun p => p.1 != k) = m.filter fun p => p.1 != k := by
  induction m with
  | nil => simp [smapInsert]
  | cons p t ih =>
    obtain ⟨c, b⟩ := p
    by_cases hc : k < c <;> simp [smapInsert, hc, List.filter_cons, ih]

variable [DecidableEq α]

/-- A key that has been set reads as the value it was given. -/
@[simp] theorem smapGet_set_same (d : α) (m : SMap α) (k : Nat) (v : α) : smapGet d (smapSet d m k v) k = v := by
  unfold smapSet
  by_cases h : v = d
  · simp [h, smapGet_filter_same]
  · simp only [h, if_false]
    exact smapGet_insert_same d k v _ (by simp)

/-- Every other key reads as before. -/
theorem smapGet_set_ne (d : α) (m : SMap α) {k a : Nat} (v : α) (h : a ≠ k) :
    smapGet d (smapSet d m k v) a = smapGet d m a := by
  unfold smapSet
  by_cases hv : v = d
  · simp [hv, smapGet_filter_ne d m h]
  · simp only [hv, if_false]
    rw [smapGet_insert_ne d v _ h, smapGet_filter_ne d m h]

theorem smapGet_set (d : α) (m : SMap α) (k : Nat) (v : α) (a : Nat) :
    smapGet d (smapSet d m k v) a = if a = k then v else smapGet d m a := by
  by_cases h : a = k
  · simp [h]
  · simp [h, smapGet_set_ne d m v h]

/-- A key set twice holds the second value. -/
@[simp] theorem smapSet_set_same (d : α) (m : SMap α) (k : Nat) (v w : α) :
    smapSet d (smapSet d m k v) k w = smapSet d m k w := by
  have h : (smapSet d m k v).filter (fun p => p.1 != k) = m.filter fun p => p.1 != k := by
    unfold smapSet
    by_cases hv : v = d <;> simp [hv, filter_insert_same, List.filter_filter]
  unfold smapSet at h ⊢
  simp only [h]

/-! ### The canonical form -/

theorem smapWfFrom_mono (d : α) {lo lo' : Nat} (m : SMap α) (h : lo' ≤ lo) (hm : smapWfFrom d lo m = true) :
    smapWfFrom d lo' m = true := by
  cases m with
  | nil => rfl
  | cons p t =>
    obtain ⟨c, b⟩ := p
    simp only [smapWfFrom, Bool.and_eq_true, decide_eq_true_eq] at hm ⊢
    exact ⟨⟨le_trans h hm.1.1, hm.1.2⟩, hm.2⟩

theorem smapWfFrom_filter (d : α) (k : Nat) : ∀ (lo : Nat) (m : SMap α), smapWfFrom d lo m = true →
    smapWfFrom d lo (m.filter fun p => p.1 != k) = true := by
  intro lo m
  induction m generalizing lo with
  | nil => simp [smapWfFrom]
  | cons p t ih =>
    obtain ⟨c, b⟩ := p
    intro h
    simp only [smapWfFrom, Bool.and_eq_true, decide_eq_true_eq] at h
    by_cases hc : c = k
    · simp only [List.filter_cons, hc, bne_self_eq_false, Bool.false_eq_true, if_false]
      exact smapWfFrom_mono d _ (by omega) (ih _ h.2)
    · simp only [List.filter_cons, bne_iff_ne, ne_eq, hc, not_false_eq_true, if_true, smapWfFrom, Bool.and_eq_true,
        decide_eq_true_eq]
      exact ⟨h.1, ih _ h.2⟩

theorem smapWfFrom_insert (d : α) (k : Nat) {v : α} (hv : v ≠ d) : ∀ (lo : Nat) (m : SMap α), lo ≤ k →
    (∀ p ∈ m, p.1 ≠ k) → smapWfFrom d lo m = true → smapWfFrom d lo (smapInsert k v m) = true := by
  intro lo m
  induction m generalizing lo with
  | nil => intro hk _ _; simp [smapInsert, smapWfFrom, hk, hv]
  | cons p t ih =>
    obtain ⟨c, b⟩ := p
    intro hk hne h
    have hck : c ≠ k := hne (c, b) (by simp)
    have ht : ∀ q ∈ t, q.1 ≠ k := fun q hq => hne q (by simp [hq])
    simp only [smapWfFrom, Bool.and_eq_true, decide_eq_true_eq] at h
    by_cases hc : k < c
    · simp only [smapInsert, hc, if_true, smapWfFrom, Bool.and_eq_true, decide_eq_true_eq]
      exact ⟨⟨hk, hv⟩, ⟨by omega, h.1.2⟩, h.2⟩
    · simp only [smapInsert, hc, if_false, smapWfFrom, Bool.and_eq_true, decide_eq_true_eq]
      exact ⟨h.1, ih _ (by omega) ht h.2⟩

/-- An update keeps the canonical form. -/
theorem smapWf_set (d : α) (m : SMap α) (k : Nat) (v : α) (h : smapWf d m = true) :
    smapWf d (smapSet d m k v) = true := by
  unfold smapSet smapWf at *
  by_cases hv : v = d
  · simpa [hv] using smapWfFrom_filter d k 0 m h
  · simp only [hv, if_false]
    exact smapWfFrom_insert d k hv 0 _ (Nat.zero_le _) (by simp) (smapWfFrom_filter d k 0 m h)

/-- A change of all keys below `n` changes each of them by its own old value, and no other. -/
theorem smapGet_updateBelow (d : α) (n : Nat) (f : Nat → α → α) (m : SMap α) (a : Nat) :
    smapGet d (smapUpdateBelow d n f m) a = if a < n then f a (smapGet d m a) else smapGet d m a := by
  unfold smapUpdateBelow
  induction n with
  | zero => simp
  | succ n ih =>
    rw [List.range_succ, List.foldl_append]
    simp only [List.foldl_cons, List.foldl_nil]
    rw [smapGet_set]
    by_cases h : a = n
    · subst h; simp [ih]
    · simp only [h, if_false, ih]
      by_cases h' : a < n
      · simp [h', Nat.lt_succ_of_lt h']
      · simp [h', show ¬ a < n + 1 by omega]

/-- Such a change keeps the canonical form. -/
theorem smapWf_updateBelow (d : α) (n : Nat) (f : Nat → α → α) (m : SMap α) (h : smapWf d m = true) :
    smapWf d (smapUpdateBelow d n f m) = true := by
  unfold smapUpdateBelow
  induction n with
  | zero => simpa using h
  | succ n ih =>
    rw [List.range_succ, List.foldl_append]
    exact smapWf_set d _ _ _ ih

end Sys2Proof.Machine
end

