-- ==== Sys2Proof/Laws/Memory.lean ====
section
/-! SUPPORT. The laws of DRAM: what a byte reads as after a write, and that every operation keeps the canonical form. -/

namespace Sys2Proof.Machine

/-- A byte after a string of bytes has been written: a byte of the string within it, the old byte outside. -/
theorem smapGet_writeCells (mem : List Host.Cell) (a : Nat) (bs : List Byte) (x : Nat) :
    smapGet unwritten (writeCells mem a bs) x =
      if a ≤ x ∧ x < a + bs.length then bs.getD (x - a) 0 else smapGet unwritten mem x := by
  induction bs generalizing mem a with
  | nil => simp [writeCells, show ¬ (a ≤ x ∧ x < a) by omega]
  | cons b bs ih =>
    rw [writeCells, ih, smapGet_set]
    by_cases h1 : x = a
    · subst h1; simp [show ¬ (x + 1 ≤ x) by omega]
    · by_cases h2 : a + 1 ≤ x ∧ x < a + 1 + bs.length
      · have h3 : a ≤ x ∧ x < a + (b :: bs).length := by simp; omega
        rw [if_pos h2, if_pos h3, show x - a = (x - (a + 1)) + 1 by omega]
        rfl
      · have h3 : ¬ (a ≤ x ∧ x < a + (b :: bs).length) := by simp; omega
        rw [if_neg h2, if_neg h3, if_neg h1]

/-- Writing bytes keeps the canonical form of DRAM's list. -/
theorem memoryWf_writeCells (mem : List Host.Cell) (a : Nat) (bs : List Byte) (h : memoryWf mem = true) :
    memoryWf (writeCells mem a bs) = true := by
  induction bs generalizing mem a with
  | nil => exact h
  | cons b bs ih => exact ih _ _ (smapWf_set unwritten mem a b h)

/-- A write that completes OK stores its bytes and changes no other. -/
theorem Dram.readByte_write (d : Dram) (a : Nat) (bs : List Byte) (x : Nat) :
    (d.write a bs).readByte x = if a ≤ x ∧ x < a + bs.length then bs.getD (x - a) 0 else d.readByte x :=
  smapGet_writeCells d.mem a bs x

/-- A write that completes UNCORRECTABLE changes no byte outside it. -/
theorem Dram.readByte_damage (d : Dram) (a n x : Nat) (h : ¬ (a ≤ x ∧ x < a + n)) :
    (d.damage a n).readByte x = d.readByte x := by
  simp [Dram.readByte, Dram.damage, smapGet_writeCells, h]

/-- The completion of a write changes no byte outside it. -/
theorem Dram.readByte_complete (d : Dram) (a : Nat) (bs : List Byte) (o : MemOutcome) (x : Nat)
    (h : ¬ (a ≤ x ∧ x < a + bs.length)) : (d.complete a bs o).readByte x = d.readByte x := by
  cases o with
  | ok => simp [Dram.complete, Dram.readByte_write, h]
  | uncorrectable => exact Dram.readByte_damage d a _ x h

theorem memoryWf_complete (d : Dram) (a : Nat) (bs : List Byte) (o : MemOutcome) (h : memoryWf d.mem = true) :
    memoryWf (d.complete a bs o).mem = true := by
  cases o <;> exact memoryWf_writeCells _ _ _ h

theorem memoryWf_decay (d : Dram) (a : Nat) (r : ReadOutcome) (h : memoryWf d.mem = true) :
    memoryWf (d.decay a r).mem = true := by
  cases r <;> first | exact h | exact memoryWf_writeCells _ _ _ h

theorem memoryWf_writeTags (d : Dram) (c : PoolCode) (w : TagWrite) (o : MemOutcome) (h : memoryWf d.mem = true) :
    memoryWf (d.writeTags c w o).mem = true :=
  memoryWf_complete d _ _ o h

/-- Giving MI a write of a persisted record changes no byte. -/
@[simp] theorem Dram.issue_mem (d : Dram) (a : Nat) (bs : List Byte) : (d.issue a bs).mem = d.mem := rfl

@[simp] theorem Dram.issue_badUnits (d : Dram) (a : Nat) (bs : List Byte) : (d.issue a bs).badUnits = d.badUnits := rfl

@[simp] theorem Dram.issue_readByte (d : Dram) (a : Nat) (bs : List Byte) (x : Nat) :
    (d.issue a bs).readByte x = d.readByte x := rfl

end Sys2Proof.Machine
end

