-- ==== Sys2Proof/Laws/Messages.lean ====
section
/-! SUPPORT. What the dispatcher and the answering of a frame do, said once for every message. -/

namespace Sys2Proof.Machine

open Sys2Proof.Safety

@[simp] theorem frame_of_begins {s : State} {f : List Byte} {rest : List (List Byte)} (h : Begins s f rest) :
    s.frame = f := by
  simp [State.frame, h.2.2.2.2]

theorem canDispatch_of_begins {s : State} {f : List Byte} {rest : List (List Byte)} (h : Begins s f rest) :
    s.canDispatch = true := by
  obtain ⟨h1, h2, h3, h4, h5⟩ := h
  simp [State.canDispatch, State.held, h1, h2, h3, h5, Config.replyCapacity, h4]

/-- A frame of the message's KIND and length is executed by the message's own rule. -/
theorem onMessage_of_begins {s : State} {f : List Byte} {rest : List (List Byte)} (h : Begins s f rest) {kind : Byte}
    (hk : kindOf f = kind) (hl : messageLength kind = some f.length) (act : List Byte → State) :
    s.onMessage kind act = .next (act f) := by
  simp [State.onMessage, canDispatch_of_begins h, frame_of_begins h, hk, hl]

/-- A frame of the message's KIND and of another length is answered BAD_LENGTH. -/
theorem onMessage_bad_length {s : State} {f : List Byte} {rest : List (List Byte)} (h : Begins s f rest) {kind : Byte}
    (hk : kindOf f = kind) (hl : messageLength kind ≠ some f.length) (act : List Byte → State) :
    s.onMessage kind act = .next (s.answer .badLength []) := by
  simp [State.onMessage, canDispatch_of_begins h, frame_of_begins h, hk, hl]

/-! ### The arbiter -/

/-- The arbiter changes the control port alone (R177). -/
theorem arbitrate_eq (s : State) : s.arbitrate = s.setCp (begins s.cp s.eu.flags) := by
  unfold State.arbitrate begins beginNotice
  rcases ht : s.cp.transmitter with _ | _ | _
  · rcases hr : s.cp.replies with _ | ⟨r, rs⟩
    · rcases hn : s.cp.notices with _ | ⟨⟨n, k⟩, qs⟩
      · simp
      · rcases n with _ | (_ | fl) | _ <;> simp [hr]
    · simp [hr]
  · simp
  · simp

/-- Placing a notice changes the control port alone (R178). -/
theorem placeNotice_eq (s : State) (n : Notice) : s.placeNotice n = s.setCp (noticed s.cp s.eu.flags n) := by
  simp [State.placeNotice, arbitrate_eq, noticed]

theorem placeReply_eq (s : State) (r : Reply) :
    s.placeReply r = s.setCp { s.cp with
      replies := s.cp.replies ++ [r]
      transmitter := if s.cp.transmitter = .free then .reply else s.cp.transmitter } := by
  simp only [State.placeReply, arbitrate_eq, begins, State.setCp_cp, State.setCp_eu, State.setCp_setCp]
  congr 1
  cases h : s.cp.transmitter <;> simp
  cases s.cp.replies <;> simp

/-! ### Answering -/

theorem replyKind_known {k : Byte} (h : (messageLength k).isSome = true) : replyKind k = k + 0x80 := by
  simp [replyKind, h]

/-- Answering the frame at the front of the inbound queue changes the control port alone (R174, R175). -/
theorem answer_eq (s : State) {f : List Byte} {rest : List (List Byte)} (hin : s.cp.inbound = f :: rest)
    (hk : (messageLength (kindOf f)).isSome = true) (st : Status) (results : List Byte) :
    s.answer st results = s.setCp (answeredCp s.cp f rest st results) := by
  have hf : s.frame = f := by simp [State.frame, hin]
  unfold State.answer
  rw [placeReply_eq, hf, replyKind_known hk]
  simp [answeredCp, hin, kindOf, seqOf, byteAt, List.head?_eq_getElem?]

theorem onlyChanges_setCp (s : State) (cp : ControlPort) : OnlyChanges [.cp] s (s.setCp cp) := by
  refine ⟨by simp, ?_⟩
  intro b hb
  cases b <;> simp_all [Block.same]

/-- A message whose rule only answers leaves everything but the control port as it was. -/
theorem answered_of_answer {s : State} {f : List Byte} {rest : List (List Byte)} (h : Begins s f rest)
    (hk : (messageLength (kindOf f)).isSome = true) (st : Status) (results : List Byte) :
    Answered s (s.answer st results) f rest st results := by
  rw [answer_eq s h.2.2.2.2 hk]
  exact ⟨onlyChanges_setCp s _, by simp⟩

/-- A message of a known KIND that executes `act` and refuses. -/
theorem refused_of_answer {s : State} {f : List Byte} {rest : List (List Byte)} (h : Begins s f rest)
    (hk : (messageLength (kindOf f)).isSome = true) (st : Status) : Refused s (s.answer st []) f rest st :=
  answered_of_answer h hk st []

end Sys2Proof.Machine
end

