-- ==== Sys2Proof/Laws/PerInstr.lean ====
section
/-! SUPPORT. Facts about each command as syntax, one lemma for each constructor. -/

namespace Sys2Proof.Laws.Operands

/-- What the well-formedness of a command asks of its operands, in words of lengths and ranges: 64 bytes for a line of
data, for a tag line, for a store header and for a line of persisted records, a scrub line below 64, and for a bad frame
that it is none of the valid ones. -/
def Fit : Instr → Prop
  | .requestWrite _ _ _ _ data => data.length = 64
  | .badLinkFrame _ bytes => peerFrameValid bytes = false
  | .fillComplete _ read => ∀ bytes, read = .decayed bytes → bytes.length = 64
  | .headerReadComplete read => ∀ bytes, read = .decayed bytes → bytes.length = 64
  | .domainRecordRead read => ∀ bytes, read = .decayed bytes → bytes.length = 64
  | .shareRecordRead read => ∀ bytes, read = .decayed bytes → bytes.length = 64
  | .scrubWriteComplete line _ => line < 64
  | _ => True

/-- A command is well formed exactly when its operands fit. -/
def Statement (i : Instr) : Prop := i.wellFormed = true ↔ Fit i

theorem fits_iff (n : Nat) (r : ReadOutcome) : r.fits n = true ↔ ∀ bytes, r = .decayed bytes → bytes.length = n := by
  cases r <;> simp [ReadOutcome.fits]

theorem controlFrame (bytes : List Byte) : Statement (Instr.controlFrame bytes) :=
  Iff.intro (fun _ => trivial) (fun _ => rfl)
theorem gapTimeout : Statement .gapTimeout := Iff.intro (fun _ => trivial) (fun _ => rfl)
theorem badKind : Statement .badKind := Iff.intro (fun _ => trivial) (fun _ => rfl)
theorem assign : Statement .assign := Iff.intro (fun _ => trivial) (fun _ => rfl)
theorem reclaim : Statement .reclaim := Iff.intro (fun _ => trivial) (fun _ => rfl)
theorem shareRange : Statement .shareRange := Iff.intro (fun _ => trivial) (fun _ => rfl)
theorem unshareRange : Statement .unshareRange := Iff.intro (fun _ => trivial) (fun _ => rfl)
theorem retire : Statement .retire := Iff.intro (fun _ => trivial) (fun _ => rfl)
theorem recount : Statement .recount := Iff.intro (fun _ => trivial) (fun _ => rfl)
theorem revive : Statement .revive := Iff.intro (fun _ => trivial) (fun _ => rfl)
theorem format : Statement .format := Iff.intro (fun _ => trivial) (fun _ => rfl)
theorem cancel : Statement .cancel := Iff.intro (fun _ => trivial) (fun _ => rfl)
theorem ticketStatus : Statement .ticketStatus := Iff.intro (fun _ => trivial) (fun _ => rfl)
theorem domainOpen : Statement .domainOpen := Iff.intro (fun _ => trivial) (fun _ => rfl)
theorem domainQuota : Statement .domainQuota := Iff.intro (fun _ => trivial) (fun _ => rfl)
theorem domainClose : Statement .domainClose := Iff.intro (fun _ => trivial) (fun _ => rfl)
theorem domainClearScore : Statement .domainClearScore := Iff.intro (fun _ => trivial) (fun _ => rfl)
theorem domainStatus : Statement .domainStatus := Iff.intro (fun _ => trivial) (fun _ => rfl)
theorem shareCreate : Statement .shareCreate := Iff.intro (fun _ => trivial) (fun _ => rfl)
theorem shareDelete : Statement .shareDelete := Iff.intro (fun _ => trivial) (fun _ => rfl)
theorem shareStatus : Statement .shareStatus := Iff.intro (fun _ => trivial) (fun _ => rfl)
theorem tagRead : Statement .tagRead := Iff.intro (fun _ => trivial) (fun _ => rfl)
theorem survey : Statement .survey := Iff.intro (fun _ => trivial) (fun _ => rfl)
theorem logRead : Statement .logRead := Iff.intro (fun _ => trivial) (fun _ => rfl)
theorem logControl : Statement .logControl := Iff.intro (fun _ => trivial) (fun _ => rfl)
theorem eventEnable : Statement .eventEnable := Iff.intro (fun _ => trivial) (fun _ => rfl)
theorem eventClear : Statement .eventClear := Iff.intro (fun _ => trivial) (fun _ => rfl)
theorem portSet : Statement .portSet := Iff.intro (fun _ => trivial) (fun _ => rfl)
theorem portStatus : Statement .portStatus := Iff.intro (fun _ => trivial) (fun _ => rfl)
theorem portClear : Statement .portClear := Iff.intro (fun _ => trivial) (fun _ => rfl)
theorem modeRequest : Statement .modeRequest := Iff.intro (fun _ => trivial) (fun _ => rfl)
theorem settings : Statement .settings := Iff.intro (fun _ => trivial) (fun _ => rfl)
theorem partStatus : Statement .partStatus := Iff.intro (fun _ => trivial) (fun _ => rfl)
theorem reset : Statement .reset := Iff.intro (fun _ => trivial) (fun _ => rfl)
theorem replySent : Statement .replySent := Iff.intro (fun _ => trivial) (fun _ => rfl)
theorem noticeSent : Statement .noticeSent := Iff.intro (fun _ => trivial) (fun _ => rfl)
theorem requestRead (port : Port) (tag : Byte) (domain : BitVec 16) (line : BitVec 40) : Statement (Instr.requestRead port tag domain line) :=
  Iff.intro (fun _ => trivial) (fun _ => rfl)
theorem requestWrite (port : Port) (tag : Byte) (domain : BitVec 16) (line : BitVec 40) (data : List Byte) : Statement (Instr.requestWrite port tag domain line data) :=
  by simp [Statement, Fit, Instr.wellFormed]
theorem announce (port : Port) (tagLimit : Byte) (poison : Byte) : Statement (Instr.announce port tagLimit poison) :=
  Iff.intro (fun _ => trivial) (fun _ => rfl)
theorem idle (port : Port) : Statement (Instr.idle port) := Iff.intro (fun _ => trivial) (fun _ => rfl)
theorem badLinkFrame (port : Port) (bytes : List Byte) : Statement (Instr.badLinkFrame port bytes) :=
  by simp [Statement, Fit, Instr.wellFormed]
theorem linkTimeout (port : Port) : Statement (Instr.linkTimeout port) := Iff.intro (fun _ => trivial) (fun _ => rfl)
theorem linkFrameSent (port : Port) : Statement (Instr.linkFrameSent port) :=
  Iff.intro (fun _ => trivial) (fun _ => rfl)
theorem memoryOpComplete (port : Port) (tag : ReqTag) (outcome : MemOutcome) : Statement (Instr.memoryOpComplete port tag outcome) :=
  Iff.intro (fun _ => trivial) (fun _ => rfl)
theorem fillComplete (line : Nat) (read : ReadOutcome) : Statement (Instr.fillComplete line read) := fits_iff 64 _
theorem writeThroughComplete (line : Nat) (outcome : MemOutcome) : Statement (Instr.writeThroughComplete line outcome) :=
  Iff.intro (fun _ => trivial) (fun _ => rfl)
theorem commandStart : Statement .commandStart := Iff.intro (fun _ => trivial) (fun _ => rfl)
theorem assignVerify : Statement .assignVerify := Iff.intro (fun _ => trivial) (fun _ => rfl)
theorem assignApply : Statement .assignApply := Iff.intro (fun _ => trivial) (fun _ => rfl)
theorem reclaimVerify : Statement .reclaimVerify := Iff.intro (fun _ => trivial) (fun _ => rfl)
theorem reclaimMark : Statement .reclaimMark := Iff.intro (fun _ => trivial) (fun _ => rfl)
theorem drainTimeout : Statement .drainTimeout := Iff.intro (fun _ => trivial) (fun _ => rfl)
theorem handoff : Statement .handoff := Iff.intro (fun _ => trivial) (fun _ => rfl)
theorem retireMark : Statement .retireMark := Iff.intro (fun _ => trivial) (fun _ => rfl)
theorem retireHandoff : Statement .retireHandoff := Iff.intro (fun _ => trivial) (fun _ => rfl)
theorem shareRangeVerify : Statement .shareRangeVerify := Iff.intro (fun _ => trivial) (fun _ => rfl)
theorem shareRangeApply : Statement .shareRangeApply := Iff.intro (fun _ => trivial) (fun _ => rfl)
theorem unshareRangeVerify : Statement .unshareRangeVerify := Iff.intro (fun _ => trivial) (fun _ => rfl)
theorem unshareRangeApply : Statement .unshareRangeApply := Iff.intro (fun _ => trivial) (fun _ => rfl)
theorem reviveVerify : Statement .reviveVerify := Iff.intro (fun _ => trivial) (fun _ => rfl)
theorem recountSweep : Statement .recountSweep := Iff.intro (fun _ => trivial) (fun _ => rfl)
theorem formatVerify : Statement .formatVerify := Iff.intro (fun _ => trivial) (fun _ => rfl)
theorem formatMark : Statement .formatMark := Iff.intro (fun _ => trivial) (fun _ => rfl)
theorem formatHandoff : Statement .formatHandoff := Iff.intro (fun _ => trivial) (fun _ => rfl)
theorem persistWriteComplete (address : Nat) (outcome : MemOutcome) : Statement (Instr.persistWriteComplete address outcome) :=
  Iff.intro (fun _ => trivial) (fun _ => rfl)
theorem pacingTimerExpiry : Statement .pacingTimerExpiry := Iff.intro (fun _ => trivial) (fun _ => rfl)
theorem scrubWriteComplete (line : Nat) (outcome : MemOutcome) : Statement (Instr.scrubWriteComplete line outcome) :=
  by simp [Statement, Fit, Instr.wellFormed]
theorem decayTick : Statement .decayTick := Iff.intro (fun _ => trivial) (fun _ => rfl)
theorem timestampTick : Statement .timestampTick := Iff.intro (fun _ => trivial) (fun _ => rfl)
theorem selfRefreshExit : Statement .selfRefreshExit := Iff.intro (fun _ => trivial) (fun _ => rfl)
theorem powerOn : Statement .powerOn := Iff.intro (fun _ => trivial) (fun _ => rfl)
theorem powerOnEnd : Statement .powerOnEnd := Iff.intro (fun _ => trivial) (fun _ => rfl)
theorem resetLine : Statement .resetLine := Iff.intro (fun _ => trivial) (fun _ => rfl)
theorem resetLineEnd : Statement .resetLineEnd := Iff.intro (fun _ => trivial) (fun _ => rfl)
theorem headerReadComplete (read : ReadOutcome) : Statement (Instr.headerReadComplete read) := fits_iff 64 _
theorem domainRecordRead (read : ReadOutcome) : Statement (Instr.domainRecordRead read) := fits_iff 64 _
theorem shareRecordRead (read : ReadOutcome) : Statement (Instr.shareRecordRead read) := fits_iff 64 _
theorem walkStep : Statement .walkStep := Iff.intro (fun _ => trivial) (fun _ => rfl)

end Sys2Proof.Laws.Operands
end

