-- ==== Sys2Proof/Laws/Scrub.lean ====
section
/-! SUPPORT. The scrubber's way to rest within a step: when there is no change to issue, and how many finished runs are
looked at. -/

namespace Sys2Proof.Machine

/-- A write granule whose writes are not all done, or behind a change that waits, stays the write granule. -/
theorem Scrubber.advance_of_not_whole (u : Scrubber)
    (h : ∀ x, u.write = some x → x.completed = 64 → u.waiting ≠ none) : u.advance = u := by
  unfold Scrubber.advance
  split
  · next h1 h2 =>
    split
    · next h3 => exact absurd h1 (h _ h2 h3)
    · rfl
  · rfl

/-- With no whole write granule to pass on and no change to issue the scrubber has nothing to issue. -/
theorem State.scrubPump_of_rest (s : State) (h : ∀ x, s.su.write = some x → x.completed = 64 → s.su.waiting ≠ none)
    (hw : ∀ x, s.su.waiting = some x → x.issued = true) : s.scrubPump = s := by
  have e : s.setSu s.su.advance = s := by rw [Scrubber.advance_of_not_whole _ h]; rfl
  unfold State.scrubPump
  rw [e]
  dsimp only
  split
  · next w hs => simp [hw w hs]
  · rfl

/-- Once a change has been taken or refused none waits. -/
@[simp] theorem State.changeDone_waiting (s : State) (g : Nat) (freed : Bool) :
    (s.changeDone g freed).su.waiting = none := by
  unfold State.changeDone State.reportGranule
  dsimp only
  split
  · simp
  · split <;> simp

/-- A change that is issued has been taken, or waits as issued. -/
theorem State.scrubIssue_waiting (s : State) (x : WaitingChange) :
    ∀ y, (s.scrubIssue x).su.waiting = some y → y.issued = true := by
  intro y
  unfold State.scrubIssue State.lookup
  split
  · unfold State.scrubAct State.change
    dsimp only
    split
    · split
      · split
        · simp
        · simp; rintro rfl; rfl
      · simp; rintro rfl; rfl
    · simp
  · simp; rintro rfl; rfl

/-- A list whose head is open or holds granules loses no run. -/
theorem State.removeRuns_of_head (n : Nat) (s : State)
    (h : ∀ r rest, s.su.runs = r :: rest → r.isOpen = true ∨ r.count ≠ 0) : State.removeRuns n s = s := by
  cases n with
  | zero => rfl
  | succ n =>
    unfold State.removeRuns
    split
    · rfl
    · next r rest e => rcases h r rest e with h | h <;> simp [h]

/-- The finished runs at the head of a scrub list. -/
def finishedRuns (l : List Run) : List Run := l.takeWhile fun r => !r.isOpen && r.count == 0

/-- An open run at the end adds none to the finished runs at the head. -/
theorem finishedRuns_append (l : List Run) (r : Run) (h : r.isOpen = true) :
    (finishedRuns (l ++ [r])).length = (finishedRuns l).length := by
  induction l with
  | nil => simp [finishedRuns, h]
  | cons a l ih =>
    simp only [finishedRuns, List.cons_append, List.takeWhile_cons] at ih ⊢
    split <;> simp [ih]

/-- The run that takes a freed place is open, so that it is no finished run. -/
theorem State.placeFreed_finishedRuns (s : State) :
    (finishedRuns s.placeFreed.su.runs).length = (finishedRuns s.su.runs).length := by
  unfold State.placeFreed
  split
  · split
    · simp [State.engineOpens, State.appendRun, State.updateCmd, State.updateWork, finishedRuns_append]
    · rfl
  · split
    · split
      · simp [State.appendRun, finishedRuns_append]
      · rfl
    · rfl

/-- A bound on the runs looked at does not matter where the finished runs at the head are no more. -/
theorem State.removeRuns_bound (n m : Nat) (s : State) (hn : (finishedRuns s.su.runs).length ≤ n)
    (hm : (finishedRuns s.su.runs).length ≤ m) : State.removeRuns n s = State.removeRuns m s := by
  have none_left (h0 : (finishedRuns s.su.runs).length ≤ 0) (k : Nat) : State.removeRuns k s = s := by
    refine State.removeRuns_of_head k s fun r rest e => ?_
    by_cases h1 : r.isOpen = true
    · exact .inl h1
    · exact .inr fun h2 => by simp [e, finishedRuns, h1, h2] at h0
  induction n generalizing s m with
  | zero => rw [none_left hn, none_left hn]
  | succ n ih =>
    cases m with
    | zero => rw [none_left hm, none_left hm]
    | succ m =>
      cases e : s.su.runs with
      | nil => unfold State.removeRuns; simp [e]
      | cons r rest =>
        rw [State.removeRuns, State.removeRuns]
        simp only [e]
        split
        · next hc =>
          have hs : (finishedRuns s.su.runs).length = (finishedRuns rest).length + 1 := by
            rw [e]; simp only [finishedRuns, List.takeWhile_cons, hc, if_true, List.length_cons]
          refine ih _ _ ?_ ?_ fun h0 k => State.removeRuns_of_head k _ fun r' rest' e' => ?_
          · rw [State.placeFreed_finishedRuns]; simp; omega
          · rw [State.placeFreed_finishedRuns]; simp; omega
          · by_cases h1 : r'.isOpen = true
            · exact .inl h1
            · exact .inr fun h2 => by simp [e', finishedRuns, h1, h2] at h0
        · rfl

/-! ## The pending target and the suspend origin -/

@[simp] theorem State.markFormatted_pendingTarget (s : State) :
    s.markFormatted.mc.pendingTarget = s.mc.pendingTarget ∧ s.markFormatted.mc.suspendOrigin = s.mc.suspendOrigin := by
  and_intros <;> unfold State.markFormatted <;> split <;> simp

@[simp] theorem State.finishKind_pendingTarget (s : State) (c : Command) (st : Completion) :
    (s.finishKind c st).mc.pendingTarget = s.mc.pendingTarget ∧ (s.finishKind c st).mc.suspendOrigin = s.mc.suspendOrigin := by
  and_intros <;> unfold State.finishKind <;> (repeat' split) <;> simp

@[simp] theorem State.notify_pendingTarget (s : State) (t : Ticket) (st : Completion) :
    (s.notify t st).mc.pendingTarget = s.mc.pendingTarget ∧ (s.notify t st).mc.suspendOrigin = s.mc.suspendOrigin := by
  and_intros <;> unfold State.notify <;> (try dsimp only) <;> (repeat' split) <;> simp

@[simp] theorem State.notifyDone_pendingTarget (s : State) (t : Ticket) :
    (s.notifyDone t).mc.pendingTarget = s.mc.pendingTarget ∧ (s.notifyDone t).mc.suspendOrigin = s.mc.suspendOrigin := by
  and_intros <;> unfold State.notifyDone <;> split <;> simp

@[simp] theorem State.placeFreed_pendingTarget (s : State) :
    (s.placeFreed).mc.pendingTarget = s.mc.pendingTarget ∧ (s.placeFreed).mc.suspendOrigin = s.mc.suspendOrigin := by
  and_intros <;> unfold State.placeFreed <;> (try dsimp only) <;> (repeat' split) <;> simp

@[simp] theorem State.reportRun_pendingTarget (s : State) (t : Option Ticket) :
    (s.reportRun t).mc.pendingTarget = s.mc.pendingTarget ∧ (s.reportRun t).mc.suspendOrigin = s.mc.suspendOrigin := by
  and_intros <;> unfold State.reportRun <;> (try dsimp only) <;> (repeat' split) <;> simp

/-- The scrubber changes neither as it removes runs. -/
@[simp] theorem State.removeRuns_pendingTarget (n : Nat) (s : State) :
    (State.removeRuns n s).mc.pendingTarget = s.mc.pendingTarget ∧
      (State.removeRuns n s).mc.suspendOrigin = s.mc.suspendOrigin := by
  induction n generalizing s with
  | zero => exact ⟨rfl, rfl⟩
  | succ n ih => and_intros <;> unfold State.removeRuns <;> (repeat' split) <;> simp [ih]

/-- Nor as it goes on as far as it can. -/
@[simp] theorem State.scrubSettle_pendingTarget (s : State) :
    s.scrubSettle.mc.pendingTarget = s.mc.pendingTarget ∧ s.scrubSettle.mc.suspendOrigin = s.mc.suspendOrigin := by
  and_intros <;> unfold State.scrubSettle <;> (try dsimp only) <;> (repeat' split) <;> simp

end Sys2Proof.Machine
end

