-- ==== Sys2Proof/Tests/Slice0.lean ====
section
/-! SUPPORT. Tests of single commands against the manual's worked examples and tables, a smoke test of each check of
well-formedness, and for each statement with hypotheses a state and operands that meet them, clause by clause. -/

namespace Sys2Proof.Tests

open Sys2Proof.Machine Sys2Proof.Safety

/-! ## States -/

/-- The state that a command answers. -/
def after (c : Instr) (s : State) : State :=
  match exec c s with
  | .next t => t
  | _ => s

/-- The tags of granules 400 to 403. -/
def tags : TagLine :=
  { r0 := { tag := .owned 7 .rw, generation := 3 }, r1 := { tag := .shared 7 .rw 6, generation := 3 }
    r2 := { tag := .draining 7 5, generation := 3 }, r3 := { tag := .free, generation := 255 } }

/-- The set that holds one line in way 2. -/
def oneLine (j : Nat) (l : TagLine) : CacheSet :=
  [(0, .empty), (1, .empty), (2, .valid j l), (3, .empty), (4, .empty), (5, .empty), (6, .empty), (7, .empty)]

/-- An OPEN domain that holds 5 granules of a quota of 100. -/
def open7 : DomainRec := { state := .opened, quota := 100, held := 5, score := 0, latch := false }

/-- The record of an UP port. -/
def up : PortRec := { resetPort with link := .up, linkTimer := some 2 }

/-- A formatted pool of code 0 (T = 16,711,680) in ENFORCE: domains 7, 10 and 1023 OPEN, 9 RETIRING, 12 QUARANTINED, the
entries 6 and 8 of domain 7 in use, granules 400 to 403 cached in line 100, both links UP. -/
def base : State := { State.reset with
  mc := { State.reset.mc with mode := .enforce, storeState := .formatted, poolCode := some 0 }
  domains := [(0, { open7 with quota := 16711680 }), (7, open7), (9, { open7 with state := .retiring, held := 0 }),
    (10, { open7 with score := 250, held := 0 }), (12, { open7 with score := 256, latch := true }), (1023, open7)]
  shares := [(6, { inUse := true, owner := 7, pattern := 0x140, mask := 0x00F, rights := .ro, refcount := 2 }),
    (8, { inUse := true, owner := 7, pattern := 0, mask := 0, rights := .rw, refcount := 0 })]
  tc := { resetCache with sets := [(100, oneLine 100 tags)] }
  cp := resetControl
  portA := up
  portB := up }

/-- A state with one message waiting in the inbound queue. -/
def asked (s : State) (f : List Byte) : State := s.setCp { s.cp with inbound := [f] }

/-- A state of another mode. -/
def inMode (m : Mode) (s : State) : State := s.setMc { s.mc with mode := m }

/-- A state with one live command. -/
def withCmd (c : Command) (p : Phase) (s : State) : State :=
  s.setTe { table := [{ ticket := 5, command := c, phase := p, doneCount := 0, poisonedCount := 0, runs := 0,
                        status := none }]
            current := none, counter := 6 }

/-- A state whose engine holds one command at a granule. -/
def engaged (c : Command) (p : Phase) (g : Nat) (f : Work → Work) : State :=
  let s := withCmd c p base
  s.setTe { s.te with current := some (f { newWork 5 g with begun := true, shareOwner := 7 }) }

/-- The frame of one message can be begun, whatever its body. -/
theorem begins_asked (f : List Byte) : Begins (asked base f) f [] := ⟨rfl, rfl, rfl, Nat.zero_lt_succ 7, rfl⟩

/-! ## Well-formedness: each check refuses an ill-formed command -/

theorem smoke_requestWrite : (Instr.requestWrite .a 1 7 0 [1, 2, 3]).wellFormed = false := by decide
theorem smoke_badLinkFrame : (Instr.badLinkFrame .a ([4] ++ crcBytes [4])).wellFormed = false := by decide
theorem smoke_fillComplete : (Instr.fillComplete 0 (.decayed [1])).wellFormed = false := by decide
theorem smoke_headerRead : (Instr.headerReadComplete (.decayed [1])).wellFormed = false := by decide
theorem smoke_domainRead : (Instr.domainRecordRead (.decayed (List.replicate 32 0))).wellFormed = false := by decide
theorem smoke_shareRead : (Instr.shareRecordRead (.decayed (List.replicate 16 0))).wellFormed = false := by decide
theorem smoke_scrubWrite : (Instr.scrubWriteComplete 64 .ok).wellFormed = false := by decide
theorem smoke_wellFormed : (Instr.requestWrite .b 63 1023 0 (List.replicate 64 0)).wellFormed = true := by decide

/-! ## The pool map and the records -/

/-- The CRC-16 of R9 has the published check value of its polynomial and initial value over the digits 1 to 9. -/
theorem test_crc : crc16 [0x31, 0x32, 0x33, 0x34, 0x35, 0x36, 0x37, 0x38, 0x39] = 0xAEE7#16 := by decide +kernel
/-- The worked pool map: code 2. -/
theorem test_pool : granules (some 2) = 67108864 ∧ tenantGranules (some 2) = 66846720 ∧
    privateBase 2 = 273804165120 ∧ headerAddress 2 = 274873712640 ∧ domainAddress 2 0 = 274873712704 ∧
    shareAddress 2 0 = 274873745472 := by decide
/-- The worked pool map: the request at 4,096,000,192. -/
theorem test_request_address : granuleOf 64000003#34 = 1000000 ∧ lineInGranule 64000003#34 = 3 ∧
    lineOf 1000000 = 250000 ∧ Machine.setOf 250000 = 16 := by decide
/-- The worked matches of share entries: 320 to 335, not 336. -/
theorem test_match : (base.share 6).covers 325 = true ∧ (base.share 6).covers 336 = false ∧
    ({ base.share 6 with pattern := 5, mask := 0x300 } : ShareEntry).covers 773 = true := by decide

/-! ## The control link -/

/-- A frame that arrives whole joins the inbound queue. -/
theorem test_controlFrame : (after (.controlFrame (controlFrame [0x4A, 9, 0])) base).cp.inbound = [[0x4A, 9, 0]] := by decide +kernel
/-- A LEN of 2 is discarded and counted. -/
theorem test_controlFrame_len : (after (.controlFrame [0xA5, 2]) base).cp.frameErrors = 1 := by decide
theorem test_gapTimeout :
    (after .gapTimeout (after (.controlFrame [0xA5, 3, 1]) base)).cp = { base.cp with frameErrors := 1 } := by decide
/-- The reply to an unknown KIND carries 0xFF, BAD_KIND and the SEQ. -/
theorem test_badKind : (after .badKind (asked base [0x90, 5, 0])).cp.replies =
    [{ kind := 0xFF, seq := 5, status := .badKind, results := [] }] := by decide
theorem test_reset : (after .reset (asked base [0x4B, 5, 0])).cp.resetWait = true := by decide
theorem test_replySent : (after .replySent (after .partStatus (asked base [0x4A, 9, 0]))).cp.replies = [] := by decide
theorem test_noticeSent : (after .noticeSent State.reset).cp.notices = [] := by decide

/-! ## Ticketed commands -/

/-- The first ticket after a reset is 1. -/
theorem test_assign : (after .assign (asked base
    ([0x10, 1] ++ beBytes 4 400 ++ beBytes 4 4 ++ beBytes 2 7 ++ [1, 0]))).cp.replies =
      [{ kind := 0x90, seq := 1, status := .accepted, results := [0, 1] }] := by decide
theorem test_reclaim : (after .reclaim (asked base
    ([0x11, 1] ++ beBytes 4 400 ++ beBytes 4 4 ++ beBytes 2 7 ++ [1]))).te.table.map Cmd.command =
      [.reclaim 400 4 7 true] := by decide
theorem test_shareRange : (after .shareRange (asked base
    ([0x12, 1] ++ beBytes 4 400 ++ beBytes 4 4 ++ beBytes 2 6))).te.table.map Cmd.command =
      [.shareRange 400 4 6] := by decide
theorem test_unshareRange : (after .unshareRange (asked base
    ([0x13, 1] ++ beBytes 4 400 ++ beBytes 4 4 ++ beBytes 2 7))).cp.replies.map Reply.status = [.badValue] := by decide
theorem test_retire : ((after .retire (asked base ([0x14, 1] ++ beBytes 2 7))).domain 7).state = .retiring := by decide
theorem test_recount : (after .recount (asked base [0x15, 1, 0])).te.counter = 2 := by decide
theorem test_revive : (after .revive (asked base
    ([0x16, 1] ++ beBytes 4 16711679 ++ beBytes 4 2))).cp.replies.map Reply.status = [.badRange] := by decide
theorem test_format : (after .format (asked (inMode .config base) [0x17, 1, 0])).mc.storeState = .formatting := by decide
/-- Step 4 of the worked RECLAIM timeline: a CANCEL in MARK is answered TOO_LATE. -/
theorem test_cancel : (after .cancel (asked (withCmd (.reclaim 400 4 7 true) .mark base)
    ([0x18, 1] ++ beBytes 2 5))).cp.replies.map Reply.status = [.tooLate] := by decide
theorem test_ticketStatus : (after .ticketStatus (asked (withCmd (.reclaim 400 4 7 true) .drain base)
    ([0x19, 1] ++ beBytes 2 5))).cp.replies.map Reply.results =
      [[0x11, 3, 0, 0, 0, 0, 0, 0, 0, 0, 0, 0xFF]] := by decide

/-! ## Domains and shares -/

theorem test_domainOpen : ((after .domainOpen (asked base
    ([0x20, 1] ++ beBytes 2 8 ++ beBytes 4 0))).domain 8).state = .opened := by decide
theorem test_domainQuota : (after .domainQuota (asked base
    ([0x21, 1] ++ beBytes 2 7 ++ beBytes 4 4))).cp.replies.map Reply.status = [.quotaBelowHeld] := by decide
theorem test_domainClose : (after .domainClose (asked base
    ([0x22, 1] ++ beBytes 2 7))).cp.replies.map Reply.status = [.holdsGranules] := by decide
theorem test_domainClearScore :
    ((after .domainClearScore (asked base ([0x23, 1] ++ beBytes 2 12))).domain 12) =
      { open7 with score := 0, latch := false } := by decide
theorem test_domainStatus : (after .domainStatus (asked base
    ([0x24, 1] ++ beBytes 2 10))).cp.replies.map Reply.results =
      [[0, 10, 1, 0, 0, 0, 100, 0, 0, 0, 0, 0, 250, 2, 0, 0]] := by decide
/-- The worked score sequence: 250 and a counted refusal give 256, the latch set. -/
theorem test_score : (base.domain 10).scoreUp = { base.domain 10 with score := 256, latch := true } := by decide
/-- The worked score sequence: 130 is RESTRICTED, 127 WARNED, 95 GOOD. -/
theorem test_standing : standingOf 130 = .restricted ∧ standingOf 127 = .warned ∧ standingOf 95 = .good ∧
    standingOf 96 = .warned ∧ standingOf 128 = .restricted ∧ standingOf 255 = .restricted ∧
    standingOf 256 = .quarantined := by decide
theorem test_decay : decayed 10 (base.domain 10) = { base.domain 10 with score := 249 } ∧
    decayed 12 (base.domain 12) = base.domain 12 := by decide
theorem test_decayTick : (after .decayTick (base.setMc { base.mc with decayTimer := none })).mc.decayTimer = none := by decide
theorem test_shareCreate : (after .shareCreate (asked base
    ([0x28, 1] ++ beBytes 2 7 ++ beBytes 2 0x140 ++ beBytes 2 0x00F ++ [0]))).cp.replies.map Reply.results =
      [[0]] := by decide
theorem test_shareDelete : (after .shareDelete (asked base
    ([0x29, 1] ++ beBytes 2 6))).cp.replies.map Reply.status = [.inUse] := by decide
theorem test_shareStatus : (after .shareStatus (asked base ([0x2A, 1] ++ beBytes 2 6))).cp.replies.map Reply.results =
    [[6, 1, 0, 7, 1, 0x40, 0, 0x0F, 0, 0, 0, 0, 2, 0]] := by decide
theorem test_tagRead : (after .tagRead (asked base ([0x30, 1] ++ beBytes 4 401))).cp.replies.map Reply.results =
    [[0, 0, 1, 0x91, 2, 7, 0, 7, 1, 6, 0, 0, 0, 3]] := by decide
theorem test_survey : (after .survey (asked base
    ([0x31, 1] ++ beBytes 4 8 ++ beBytes 2 0 ++ [0, 0]))).cp.replies.map Reply.status = [.badRange] := by decide

/-! ## The log, the event unit and the modes -/

/-- A log of 32 records numbered by their timestamps, in overflow. -/
def fullLog : Log := { resetLog with
  records := (List.range 32).map fun n => { event := .tagLost none n, timestamp := BitVec.ofNat 32 n, superseded := 0 }
  overflow := true }

theorem test_logRead : (after .logRead (asked (base.setVl fullLog) [0x38, 1, 4])).vl.records.length = 28 := by decide
/-- Steps 3 and 4 of the worked overflow sequence: the newest place counts what it has lost. -/
theorem test_logStore : ((((base.setVl fullLog).logRecord (.tagLost none 1)).logRecord (.tagLost none 2)).vl.records.getLast?).map
    LogRec.superseded = some 2 := by decide
theorem test_logControl : (after .logControl (asked (base.setVl fullLog) [0x39, 1, 1, 1, 0, 0])).cp.replies.map
    Reply.results = [[0, 0, 1, 0, 0, 32]] := by decide
theorem test_eventEnable : (after .eventEnable (asked base ([0x3C, 1] ++ beBytes 2 3 ++ beBytes 2 0))).eu.enabled = 3 := by
  decide
theorem test_eventClear : (after .eventClear (asked (base.setEu { flags := 3, enabled := 3 })
    ([0x3D, 1] ++ beBytes 2 1))).eu = { flags := 2, enabled := 3 } := by decide
theorem test_modeRequest : (after .modeRequest (asked base [0x48, 1, 3])).mc.mode = .monitor := by decide
theorem test_settings : (after .settings (asked base [0x49, 1, 0x07, 0, 0, 0, 0])).mc.drainTimeout = 1 := by decide
theorem test_partStatus : (after .partStatus (asked base [0x4A, 1, 0])).cp.replies.map Reply.results =
    [[0x44, 0x20, 1, 2, 0xFF, 0xFF, 2, 0, 0, 3, 24, 20, 0, 0, 0, 0, 0, 0, 0, 0]] := by decide
theorem test_timestampTick : (after .timestampTick (base.setMc { base.mc with timestamp := 0xFFFFFFFF })).mc.timestamp = 0 := by
  decide
theorem test_selfRefreshExit : (after .selfRefreshExit ((inMode .suspended base).setMc { base.mc with
    mode := .suspended, suspendOrigin := some .monitor, pendingTarget := some .monitor })).mc.mode = .monitor := by decide

/-! ## The ports -/

/-- A read by the owner of granule 400 is served. -/
theorem test_requestRead : (after (.requestRead .a 4 7 25600) base).portA.table.map Entry.stage = [.forwarded] := by decide
/-- A write by domain 325 to the granule shared read-only through entry 6 is refused WRITE_DENIED, with POISON only for
reads. -/
theorem test_requestWrite : (after (.requestWrite .b 4 325 25664 (List.replicate 64 1))
    (base.setDomain 325 open7)).portB.table.map Entry.response =
      [some { outcome := .abort, reason := .writeDenied, data := [] }] := by decide
/-- The worked link loss, step 3: an ANNOUNCE of limit 4 in DOWN. -/
theorem test_announce : (after (.announce .b 4 0) (base.setPortB resetPort)).portB.sendList = [.ack 4 false .announced] := by
  decide
theorem test_announce_clamp : (after (.announce .b 0 1) (base.setPortB resetPort)).portB.tagLimit = 1 := by decide
theorem test_idle : (after (.idle .a) (base.setPortA { up with timeoutCode := 0 })).portA.linkTimer = some 0 := by decide
theorem test_badLinkFrame : (after (.badLinkFrame .a [4, 0, 0]) base).portA.integrity = 1 := by decide
theorem test_linkTimeout : (after (.linkTimeout .a) base).portA.link = .down := by decide
theorem test_linkFrameSent : (after (.linkFrameSent .a) (base.setPortA { up with
    sendList := [.refusal 1 .abort .tagBusy] })).portA.lastReason = .tagBusy := by decide

/-- An entry of domain 7 for a line of granule 400. -/
def entry (t : ReqTag) (op : Opcode) (orphan : Bool) : Entry :=
  { tag := t, domain := 7, op := op, lineNo := 25600, data := if op = .read then [] else List.replicate 64 9
    outside := false, stage := .forwarded, orphan := orphan, response := none }

theorem test_memoryOpComplete : (after (.memoryOpComplete .a 4 .ok) (base.setPortA { up with
    table := [entry 4 .write false] })).dram.readByte 1638463 = 9 := by decide
theorem test_portSet : (after .portSet (asked base ([0x40, 1, 2, 6, 0x0C] ++ beBytes 4 8000 ++ beBytes 4 9000 ++
    beBytes 4 5 ++ [1, 0, 0]))).portB = { up with
      apertureOn := true, apertureFirst := 8000, apertureLast := 9000, timeoutCode := 1 } := by decide
theorem test_portStatus : (after .portStatus (asked base [0x41, 1, 2])).cp.replies.map Reply.status = [.badPort] := by decide
theorem test_portClear : (after .portClear (asked (base.setPortA { up with integrity := 7 }) [0x42, 1, 0, 1, 0])).portA.integrity =
    0 := by decide

/-! ## The cache, the engine and the scrubber -/

/-- A granule's tag is read from DRAM by a fill: a stored record that is sound is taken as read. -/
theorem test_fillComplete : (after (.fillComplete 101 .ok) (after (.requestRead .a 4 7 25856)
    (base.setDram (base.dram.write (tagLineAddress 0 101) ({ tag := .owned 7 .rw, generation := 1 } : TagRec).stored)))).portA.table.map
      Entry.stage = [.forwarded] := by decide +kernel
/-- The write of a line stores each of its records, at its place. -/
theorem test_writeThrough : (after (.writeThroughComplete 100 .ok) (base.setTc (base.tc.pushWrite 100 tags))).dram.read
    (tagLineAddress 0 100 + 48) 16 = tags.r3.stored := by decide +kernel
theorem test_persistWrite : (after (.persistWriteComplete 77 .ok) (base.setDram (base.dram.issue 77 [1, 2]))).dram.read 77 2 =
    [1, 2] := by decide
theorem test_commandStart : (after .commandStart (withCmd .recount .queued base)).te.table.map Cmd.phase = [.verify] := by decide
theorem test_assignVerify : (after .assignVerify (engaged (.assign 403 1 7 .rw false) .verify 403 id)).te.table.map Cmd.phase =
    [.mark] := by decide
/-- The worked tag history: an ASSIGN raises the generation by 1, modulo 256. -/
theorem test_assignApply : (after .assignApply (engaged (.assign 403 1 7 .rw false) .mark 403 id)).tc.validLine 100 =
    some { tags with r3 := { tag := .owned 7 .rw, generation := 0 } } := by decide
theorem test_reclaimVerify : (after .reclaimVerify (engaged (.reclaim 401 1 7 false) .verify 401 id)).te.table.map Cmd.status =
    [some .sharedInUse] := by decide
theorem test_reclaimMark : let t := after .reclaimMark (engaged (.reclaim 401 1 7 true) .mark 401 id)
    t.tc.validLine 100 = some { tags with r1 := { tag := .draining 7 5, generation := 3 } } ∧
      (t.share 6).refcount = 1 ∧ (t.domain 7).held = 4 := by decide
theorem test_drainTimeout : (after .drainTimeout (engaged (.revive 402 1) .drain 402 fun w =>
    { w with timer := some 20 })).te.table.map Cmd.status = [some .drainTimeout] := by decide
theorem test_handoff : (after .handoff (engaged (.reclaim 402 1 7 true) .handoff 402 id)).su.runs =
    [{ first := 402, count := 0, ticket := some 5, isOpen := true }] := by decide
theorem test_retireMark : (after .retireMark (engaged (.retire 7 true) .mark 400 id)).tc.validLine 100 =
    some { tags with r0 := { tag := .draining 7 5, generation := 3 } } := by decide
theorem test_retireHandoff : (after .retireHandoff (engaged (.retire 7 true) .handoff 402 fun w =>
    { w with runOpened := true })).su.runs.map Run.first = [402] := by decide
theorem test_shareRangeVerify : (after .shareRangeVerify (engaged (.shareRange 401 1 6) .verify 401 id)).te.table.map Cmd.status =
    [some .alreadyShared] := by decide
theorem test_shareRangeApply : ((after .shareRangeApply (engaged (.shareRange 400 1 6) .mark 400 id)).share 6).refcount = 3 := by
  decide
theorem test_unshareRangeVerify : (after .unshareRangeVerify
    (engaged (.unshareRange 401 1 8) .verify 401 id)).te.table.map Cmd.status = [some .wrongShare] := by decide
theorem test_unshareRangeApply : (after .unshareRangeApply (engaged (.unshareRange 401 1 6) .mark 401 id)).tc.validLine 100 =
    some { tags with r1 := { tag := .owned 7 .rw, generation := 3 } } := by decide
theorem test_reviveVerify : (after .reviveVerify (engaged (.revive 400 1) .verify 400 id)).te.table.map Cmd.status =
    [some .notPoisoned] := by decide
theorem test_recountSweep : (after .recountSweep (engaged .recount .verify 400 id)).te.table.map Cmd.doneCount = [1] := by decide
theorem test_formatVerify : (after .formatVerify (engaged (.format .formatted) .verify 0 id)).te.table.map Cmd.phase = [.mark] := by
  decide
theorem test_formatMark : (after .formatMark (engaged (.format .formatted) .verify 0 id)).te.table.map Cmd.phase = [.verify] := by
  decide
theorem test_formatHandoff : (after .formatHandoff (engaged (.format .formatted) .handoff 0 id)).su.runs =
    [{ first := 0, count := 0, ticket := some 5, isOpen := true }] := by decide

/-- A scrubber that has one closed run of one granule. -/
def scrubbing : State := base.setSu { resetScrubber with
  runs := [{ first := 402, count := 1, ticket := some 5, isOpen := false }], pacing := some 3 }

theorem test_pacing : ((after .pacingTimerExpiry scrubbing).su.write.map WriteGranule.inFlight) =
    some (List.range 16) := by decide
theorem test_scrubWrite : (after (.scrubWriteComplete 3 .ok) (after .pacingTimerExpiry scrubbing)).su.write.map
    WriteGranule.completed = some 1 := by decide

/-! ## Resets and recovery -/

theorem test_powerOn : (after .powerOn base).dram.mem = [] ∧ (after .powerOn base).mc.inReset = some .powerOn := by decide
theorem test_powerOnEnd : after .powerOnEnd (after .powerOn State.reset) = State.reset := by decide
theorem test_resetLine : (after .resetLine base).mc.mode = .recovering := by decide
theorem test_resetLineEnd : (after .resetLineEnd (after .resetLine base)).mc.recovery = some (.header 4) := by decide

/-- A part in recovery. -/
def recovering (r : Recovery) : State := (inMode .recovering base).setMc { base.mc with
  mode := .recovering, recovery := some r }

/-- The store header of code 3 is found, complete. -/
theorem test_headerRead : (after (.headerReadComplete .ok) ((recovering (.header 3)).setDram
    (base.dram.write (headerAddress 3) (storedHeader 3 true)))).mc.poolCode = some 3 := by decide +kernel
/-- Line 3 holds the records of domains 6 and 7. -/
theorem test_domainRead : ((after (.domainRecordRead .uncorrectable) (recovering (.domains 3))).domain 7).state = .retiring := by
  decide
/-- Line 1 holds the records of the entries 4 to 7. -/
theorem test_shareRead : (after (.shareRecordRead .uncorrectable) (recovering (.shares 1))).share 6 = freeEntry := by decide
/-- The walk counts the OWNED and the SHARED tag of a line for domain 7. -/
theorem test_walkStep : ((after .walkStep ((recovering (.walk { newWalk with cursor := 400 })).setTc { resetCache with
    sets := [(100, oneLine 100 { tags with r2 := tags.r3 })] })).walk.heldCounts) = [(7, 2)] := by decide

/-! ## Witnesses: a state and operands that meet the hypotheses of each statement, clause by clause -/

theorem witness_StepTakesFrontCommand :
    ({ base with pending := [.decayTick, .reset] } : State).pending = .decayTick :: [.reset] ∧ base.pending = [] :=
  ⟨rfl, rfl⟩

/-- A part whose RESET reply is being sent. -/
def resetReply : State := base.setCp { base.cp with
  transmitter := .reply, replies := [{ kind := 0xCB, seq := 1, status := .ok, results := [] }], resetWait := true }

theorem witness_ResetsBringResetValues :
    (base.mc.resetLow = false ∧ base.mc.inReset ≠ some .powerOn) ∧
    ((after .powerOn base).mc.resetLow = false ∧ (after .powerOn base).mc.inReset = some .powerOn) ∧
    (resetReply.mc.inReset = none ∧ resetReply.cp.transmitter = .reply ∧
      resetReply.cp.replies = { kind := 0xCB, seq := 1, status := .ok, results := [] } :: [] ∧
      resetReply.cp.resetWait = true) := by decide

theorem witness_PowerOnLeadsToReset : base.mc.resetLow = false := rfl

/-- A warm reset that has ended, with the last header to be read. -/
def lastHeader : State :=
  let s := after .resetLineEnd (after .resetLine base)
  s.setMc { s.mc with recovery := some (.header 0) }

theorem witness_RecoveryReadsHeaders :
    (lastHeader.mc.inReset = none ∧ lastHeader.mc.recovery = some (.header 0) ∧
      (∀ d : DomainId, lastHeader.domain d =
        { state := if d = 0 then .opened else .closed, quota := 0, held := 0, score := 0, latch := false }) ∧
      ∀ i : ShareIx, lastHeader.share i = freeEntry) ∧
    ((after .resetLine base).mc.resetLow = true ∧ (after .resetLine base).mc.inReset = some .resetLine) ∧
    (∀ c ∈ ([0, 3, 4] : List PoolCode), (recovering (.header c)).mc.inReset = none ∧
      (recovering (.header c)).mc.recovery = some (.header c)) ∧
    (ReadOutcome.decayed (List.replicate 64 0)).fits 64 = true ∧ ReadOutcome.ok.fits 64 = true := by
  refine ⟨⟨rfl, rfl, fun d => ?_, fun i => rfl⟩, by decide, by decide, by decide⟩
  by_cases h : d = 0
  · subst h; rfl
  · have h' : 0 ≠ d.toNat := fun e => h (BitVec.eq_of_toNat_eq e.symm)
    show smapGet closedDomain (initialDomains 0) d.toNat = _
    rw [if_neg h]
    simp [initialDomains, smapGet, h', closedDomain]

theorem witness_RecoveryLoadsTables :
    (∀ k ∈ [0, 1, 511], (recovering (.domains k)).mc.inReset = none ∧ (recovering (.domains k)).mc.poolCode = some 0 ∧
      k < 512 ∧ (recovering (.domains k)).mc.recovery = some (.domains k)) ∧
    (∀ k ∈ [0, 62, 63], (recovering (.shares k)).mc.inReset = none ∧ (recovering (.shares k)).mc.poolCode = some 0 ∧
      k < 64 ∧ (recovering (.shares k)).mc.recovery = some (.shares k)) ∧
    (ReadOutcome.decayed (List.replicate 64 0)).fits 64 = true ∧ ReadOutcome.uncorrectable.fits 64 = true := by decide

/-- A state that holds one line. -/
def caching (j : Nat) (l : TagLine) (s : State) : State :=
  s.setTc { resetCache with sets := [(Machine.setOf j, oneLine j l)] }

/-- A state whose write list is full. -/
def full (s : State) : State := s.setTc { s.tc with writes := List.replicate 32 { line := 100, recs := tags } }

/-- The line of the worked tag sets, with the DRAINING tag made FREE. -/
def keptTags : TagLine := { tags with r2 := tags.r3 }

/-- A line of DRAINING and SCRUBBING tags. -/
def drainingTags : TagLine :=
  let scrub : TagRec := { tag := .scrubbing none none, generation := 0 }
  { r0 := tags.r2, r1 := scrub, r2 := tags.r2, r3 := scrub }

theorem cached_oneLine (j : Nat) (l : TagLine) (s : State) (h : s.tc.set j = oneLine j l) : Cached s j l := by
  refine ⟨?_, 2, ?_⟩
  · rw [h]; exact ⟨by rfl, by show ([0, 1, 2, 3, 4, 5, 6, 7] : List Nat).Nodup; decide, by simp [oneLine]⟩
  · rw [h]; simp [oneLine]

theorem cached_caching (j : Nat) (l : TagLine) (s : State) : Cached (caching j l s) j l :=
  cached_oneLine j l _ (by simp [caching, TagCache.set, State.setTc, smapGet])

theorem cached_full {j : Nat} {l : TagLine} {s : State} (h : Cached s j l) : Cached (full s) j l := h

theorem witness_WalkTakesLine :
    (∀ k ∈ [0, 3], ∀ j ∈ [100, 4177919], ∀ counting ∈ [true, false],
      let w := { newWalk with cursor := 4 * j + k, counting := counting }
      let s := caching j tags (recovering (.walk w))
      s.mc.inReset = none ∧ s.mc.recovery = some (.walk w) ∧ w.busy = false ∧ w.placeWait = false ∧ k < 4 ∧
        w.cursor = 4 * j + k ∧ 4 * j + 4 ≤ s.tenants ∧ Cached s j tags ∧ w.counting = counting ∧
        s.su.runs.length + 2 ≤ 64 ∧ s.tc.writes.length + 4 ≤ 32) ∧
    let w := { newWalk with cursor := 4 * 100 + 2 }
    let s := (caching 100 tags (recovering (.walk w))).setSu { resetScrubber with
      runs := List.replicate 64 { first := 0, count := 1, ticket := none, isOpen := false } }
    s.mc.inReset = none ∧ s.mc.recovery = some (.walk w) ∧ w.counting = false ∧ w.runOpen = false ∧
      requeues (tags.get 2).tag = true ∧ 64 ≤ s.su.runs.length ∧ Cached s 100 tags := by
  refine ⟨fun k hk j hj b _ => ⟨rfl, rfl, rfl, rfl, ?_, rfl, ?_, cached_caching _ _ _, rfl,
    by show 0 + 2 ≤ 64; decide, by show 0 + 4 ≤ 32; decide⟩, rfl, rfl, rfl, rfl, rfl, by decide,
    cached_caching 100 tags (recovering (.walk { newWalk with cursor := 4 * 100 + 2 }))⟩
  · revert k; decide
  · show 4 * j + 4 ≤ tenantGranules (some 0)
    revert j; decide

/-- A walk at line 100, with the scrub list and the write list filled to given lengths. -/
def walking (line : TagLine) (runs writes : Nat) : State :=
  let s := caching 100 line (recovering (.walk { newWalk with cursor := 4 * 100 }))
  (s.setSu { resetScrubber with runs := List.replicate runs { first := 0, count := 1, ticket := none, isOpen := false } }).setTc
    { s.tc with writes := List.replicate writes { line := 7, recs := tags } }

/-- The scrub list as the walk has built it before a place of line 100. -/
def walkedRuns (line : TagLine) (runs n : Nat) : WalkRuns :=
  (List.range n).foldl (fun x i => x.take (400 + i) (line.get i).tag)
    (WalkRuns.mk (List.replicate runs { first := 0, count := 1, ticket := none, isOpen := false }) false 0)

/-- A line with two DRAINING tags apart. -/
def apartTags : TagLine := { tags with r0 := tags.r2, r1 := tags.r0 }

/-- A full list with no tag to requeue, one place for one run, room for the writes and no more: the line is taken. Two
runs for one place, and two writes for one room: the walk waits at the second. -/
theorem witness_WalkTakesLine_limits :
    (∀ p ∈ [(keptTags, 64, 32, 0), (tags, 63, 31, 1), (drainingTags, 63, 28, 4)],
      (walkedRuns p.1 p.2.1 4).runs.length ≤ 64 ∧
        ((List.range 4).filter fun i => walkWrites (walking p.1 p.2.1 p.2.2.1) (p.1.get i)).length = p.2.2.2 ∧
        p.2.2.1 + p.2.2.2 ≤ 32) ∧
    ((walkedRuns apartTags 63 2).runs.length = 64 ∧ (walkedRuns apartTags 63 2).isOpen = false ∧
      requeues (apartTags.get 2).tag = true) ∧
    ((walkedRuns drainingTags 0 1).isOpen = true ∧ walkWrites (walking drainingTags 0 31) (drainingTags.get 1) = true ∧
      ((List.range 1).filter fun i => walkWrites (walking drainingTags 0 31) (drainingTags.get i)).length = 1) ∧
    ∀ p ∈ [(keptTags, 64, 32), (apartTags, 63, 28), (drainingTags, 0, 31)], Cached (walking p.1 p.2.1 p.2.2) 100 p.1 :=
  ⟨by decide, by decide, by decide, fun _ _ => cached_oneLine 100 _ _
    (by simp [walking, caching, TagCache.set, State.setTc, State.setSu, smapGet])⟩

theorem witness_WalkEnds : ∀ b ∈ [true, false],
    (recovering (.walk { newWalk with recountMark := b })).mc.recovery = some (.walk { newWalk with recountMark := b }) ∧
      base.mc.poolCode = some 0 := fun _ _ => ⟨rfl, rfl⟩

theorem witness_FramesAreReceived :
    (base.mc.inReset = none ∧ base.cp.receiver = .hunt) ∧
    (∀ b ∈ ([] : List Byte), b ≠ 0xA5) ∧ (∀ b ∈ ([0xA4, 0xFF] : List Byte), b ≠ 0xA5) ∧
    (∀ n ∈ [3, 250], 3 ≤ (List.replicate n (0x4A : Byte)).length ∧ (List.replicate n (0x4A : Byte)).length ≤ 250) ∧
    [0, 0] ≠ crcBytes (BitVec.ofNat 8 3 :: [0x4A, 9, 0]) ∧
    ((2 : Byte).toNat < 3 ∨ 250 < (2 : Byte).toNat) ∧ ((251 : Byte).toNat < 3 ∨ 250 < (251 : Byte).toNat) ∧
    (after (.controlFrame [0xA5]) base).mc.inReset = none ∧ (after (.controlFrame [0xA5]) base).cp.receiver ≠ .hunt := by
  decide +kernel

theorem witness_DispatcherAnswers :
    (Begins (asked base [0x90, 5, 0]) [0x90, 5, 0] [] ∧ ∀ row ∈ messageRows, row.2.1 ≠ ([0x90, 5, 0] : List Byte).headD 0) ∧
    (Begins (asked base [0x4B, 5]) [0x4B, 5] [] ∧ (Instr.reset, (0x4B : Byte), 3) ∈ messageRows ∧
      ([0x4B, 5] : List Byte).headD 0 = 0x4B ∧ ([0x4B, 5] : List Byte).length ≠ 3) ∧
    Begins (asked base [0x4B, 5, 0]) [0x4B, 5, 0] [] :=
  ⟨⟨begins_asked _, by decide⟩, ⟨begins_asked _, by decide, rfl, by decide⟩, begins_asked _⟩

/-- A part that is sending one notice. -/
def sending (n : Notice) (pendingTarget : Option Mode) : State :=
  ((withCmd .recount .notify base).setCp { base.cp with
    transmitter := .notice, notices := [{ notice := n, number := some 0 }] }).setMc
    { base.mc with pendingTarget := pendingTarget }

theorem witness_SentFramesLeaveTheLink :
    (let s := base.setCp { base.cp with transmitter := .reply
                                        replies := [{ kind := 0xCA, seq := 1, status := .ok, results := [] }] }
     s.mc.inReset = none ∧ s.cp.transmitter = .reply ∧
       s.cp.replies = { kind := 0xCA, seq := 1, status := .ok, results := [] } :: [] ∧ s.cp.resetWait = false) ∧
    (let s := sending (.event none) none
     s.mc.inReset = none ∧ s.cp.transmitter = .notice ∧ s.cp.notices = { notice := .event none, number := some 0 } :: []) ∧
    (∀ p ∈ [none, some Mode.config], let s := sending (.completion 5 .recount .done 0 0) p
     s.mc.inReset = none ∧ s.cp.transmitter = .notice ∧ s.mc.pendingTarget = p ∧
       s.cp.notices = { notice := .completion 5 .recount .done 0 0, number := some 0 } :: [] ∧
       ∀ x ∈ s.te.table, x.ticket = 5) ∧
    (let s := sending (.completion 5 .recount .done 0 0) (some .config)
     let s := s.setTe { s.te with table := s.te.table ++ s.te.table.map fun c => { c with ticket := 6, phase := .queued } }
     s.mc.inReset = none ∧ s.cp.transmitter = .notice ∧ s.mc.pendingTarget = some .config ∧
       s.cp.notices = { notice := .completion 5 .recount .done 0 0, number := some 0 } :: [] ∧
       ∃ x ∈ s.te.table, x.ticket ≠ 5) := by decide

theorem witness_CommandsAccepted :
    ((0xFFFE#16 ≠ 0xFFFF#16) ∧
      let s := (withCmd .recount .scrub base).setTe { (withCmd .recount .scrub base).te with counter := 5 }
      s.te.table.length ≤ 16 ∧ s.te.counter ≠ 0) ∧
    Accepting base ∧ rangeOk base 0 1048576 ∧ rangeOk base 16711679 1 ∧
    ((base.domain 7).state = .opened ∧ (base.domain 9).state = .retiring ∧ (base.domain 7).state ≠ .closed ∧
      (base.share 6).inUse = true ∧ base.mc.poolCode = some 0 ∧ (7 : DomainId) ≠ 0 ∧
      ∀ x ∈ base.te.table, ∀ moved, x.command ≠ .retire 9 moved) ∧
    (let s := asked (inMode .config base) [0x17, 1, 0]
     s.mc.mode = .config ∧ s.mc.poolCode ≠ none ∧ s.te.table = [] ∧ s.mc.pendingTarget ≠ some .config ∧
       Begins s [0x17, 1, 0] []) ∧
    ∀ f, Begins (asked base f) f [] :=
  ⟨by decide, ⟨by decide, rfl, by decide, by decide⟩, by decide, by decide,
    ⟨rfl, rfl, by decide, rfl, rfl, by decide, fun x h => by simp [base, State.reset, resetEngine] at h⟩,
    ⟨rfl, by decide, rfl, by decide, rfl, rfl, rfl, Nat.zero_lt_succ 7, rfl⟩, begins_asked⟩

theorem witness_CommandsRefusedInOrder :
    refusalOf (inMode .recovering base) none = some .wrongMode ∧
    refusalOf base (some .badValue) = some .badValue ∧
    refusalOf (base.setMc { base.mc with storeState := .unformatted }) none = some .notFormatted ∧
    refusalOf (base.setMc { base.mc with pendingTarget := some .config }) none = some .wrongMode ∧
    refusalOf (base.setTe { base.te with table := (withCmd .recount .scrub base).te.table.flatMap (List.replicate 16) }) none =
      some .busy ∧
    ¬ rangeOk base 16711679 2 ∧ ¬ rangeOk base 0 1048577 ∧ ¬ rangeOk base 0 0 ∧
    ∀ f, Begins (asked base f) f [] :=
  ⟨by decide, by decide, by decide, by decide, by decide, by decide, by decide, by decide, begins_asked⟩

theorem witness_CancelEndsWaitingCommand :
    (∀ s ∈ [withCmd .recount .queued base, withCmd (.retire 9 true) .verify base, withCmd (.format .unformatted) .queued base,
        withCmd .recount .mark base],
      s.mc.mode ≠ .recovering ∧ (5 : Ticket) ≠ 0 ∧ (s.cmd 5).isSome = true ∧ s.cmd 6 = none) ∧
    (inMode .recovering base).mc.mode = .recovering ∧
    ∀ s : State, s.mc.inReset = none → s.cp = base.cp → ∀ f, Begins (asked s f) f [] := by
  refine ⟨by decide, rfl, fun s h e f => ⟨h, ?_, ?_, ?_, rfl⟩⟩ <;> simp [asked, State.setCp, e, base, resetControl]

theorem witness_DomainOpenQuotaClose :
    tableRefusal (inMode .suspended base) none = some .wrongMode ∧ tableRefusal base none = none ∧
    tableRefusal base (some .badValue) = some .badValue ∧ base.mc.poolCode = some 0 ∧
    (base.share 6).inUse = true ∧ base.ownsShare 7 = true ∧ base.ownsShare 10 = false ∧
    ((base.domain 12).latch = true ∧ (base.domain 10).latch = false ∧ (base.domain 8).state = .closed) ∧
    ∀ f, Begins (asked base f) f [] :=
  ⟨by decide, by decide, by decide, rfl, by decide, by decide +kernel, by decide +kernel, by decide, begins_asked⟩

theorem witness_StatusReplies : base.mc.inReset = none ∧ ∀ f, Begins (asked base f) f [] := ⟨rfl, begins_asked⟩

theorem witness_DecayTick :
    (base.mc.inReset = none ∧ base.mc.decayTimer ≠ none) ∧
    (∀ n ∈ [0, 1, 247, 248, 249, 250], (10 : Nat) ≠ 0 ∧ ({ open7 with score := n } : DomainRec).state ≠ .closed ∧
      ({ open7 with score := n } : DomainRec).latch = false) := by decide

theorem witness_ShareCreateAndDelete :
    (tableRefusal base none = none ∧ (base.share 8).inUse = true ∧ (base.share 8).refcount = 0 ∧
      (base.share 0).inUse = false) ∧
    ((base.share 6).covers 325 = true ∧ (base.share 6).covers 336 = false ∧ (325 : DomainId) ≠ 7) ∧
    ∀ f, Begins (asked base f) f [] :=
  ⟨by decide, by decide, begins_asked⟩

theorem witness_DecisionFollowsOrder : base.mc.mode = .enforce ∧ (inMode .monitor base).mc.mode = .monitor ∧
    (inMode .config base).mc.mode ≠ .enforce ∧ (inMode .config base).mc.mode ≠ .monitor := by decide

/-- A ruling that is counted and logged. -/
def counted : Ruling := { reason := .notOwner, scored := true, logged := true, served := false, seen := .state .owned }

theorem witness_DecisionEffects :
    (let e := { entry 4 .read false with domain := 10 }
     counts e counted = true ∧ base.mc.poolCode = some 0 ∧ watched (base.setPortA { up with
       watchOn := true, watchGranule := 400 }) .a e = true) ∧
    (let e := entry 4 .read false
     let r : Ruling := { counted with scored := false, logged := false }
     r.logged = false ∧ counts e r = false ∧ watched base .a e = false) := by decide

/-- The entry of a READ at its admission to port A of `base`. -/
def arriving (d : BitVec 16) (n : LineNo) : Entry := admitted up 4 (d.setWidth 10) .read n []

theorem witness_RequestsDecided :
    Admits base .a ((4 : Byte).setWidth 6) ∧ (List.replicate 64 (1 : Byte)).length = 64 ∧
    (∃ r, base.decideRequest (arriving 8 25600) none = .ruled r) ∧
    (base.decideRequest (arriving 7 25600) none = .needTag ∧ 64 * (25600 : LineNo).toNat / 4096 = 400 ∧
      Cached base (400 / 4) tags) ∧
    (base.decideRequest (arriving 7 25856) none = .needTag ∧ 64 * (25856 : LineNo).toNat / 4096 = 404 ∧
      ∀ x ∈ base.tc.set (404 / 4), x.2.isValid (404 / 4) = false) :=
  ⟨⟨rfl, rfl, by decide, by decide, .inl rfl, by decide⟩, by decide, ⟨_, rfl⟩,
    ⟨by decide, by decide, cached_oneLine 100 tags base rfl⟩, by decide, by decide, by decide⟩

theorem witness_OnlyTenantGranulesServed :
    let t := after (.requestRead .a 4 7 25600) base
    (∀ q, ((base.port q).table.map Entry.tag).Nodup) ∧ exec (.requestRead .a 4 7 25600) base = .next t ∧
      ∃ e ∈ (t.port .a).table, e.stage = .forwarded :=
  ⟨fun q => by cases q <;> decide, rfl, entry 4 .read false, by decide, rfl⟩

/-- A port that has as many entries as its limit. -/
def atLimit : PortRec := { up with tagLimit := 1, table := [entry 4 .read false] }

theorem witness_AdmissionRefusals :
    (base.mc.inReset = none ∧ resetPort.link ≠ .up ∧ up.link = .up ∧ (List.replicate 64 (1 : Byte)).length = 64) ∧
    atLimit.tagLimit ≤ atLimit.table.length ∧
    (let p := { atLimit with tagLimit := 2 }
     ¬ p.tagLimit ≤ p.table.length ∧ (p.table.any fun e => e.tag == 4) = true) ∧
    (inMode .config base).mc.mode = .config ∧ (inMode .suspended base).mc.mode = .suspended := by decide

theorem witness_OperationCompletes :
    ∀ op ∈ [Opcode.read, .write], ∀ orphan ∈ [true, false],
      let s := base.setPortA { up with table := [entry 4 op orphan] }
      s.mc.inReset = none ∧ (s.port .a).entry 4 = some (entry 4 op orphan) ∧ (entry 4 op orphan).stage = .forwarded ∧
        (entry 4 op orphan).response = none ∧ (entry 4 op orphan).orphan = orphan := by decide

theorem witness_AnnounceLoadsCapability : base.mc.inReset = none ∧ ({ resetPort with link := .disabled } : PortRec).link = .disabled ∧
    (resetPort.link = .down ∧ resetPort.sendList = []) ∧ up.link = .up := by decide

theorem witness_IdleAndBadFrames : (base.mc.inReset = none ∧ peerFrameValid [4, 0, 0] = false ∧ resetPort.link ≠ .up ∧
      up.link = .up) ∧
    (∀ kind ∈ ([(1, 11), (2, 75), (3, 5), (4, 3)] : List (Byte × Nat)),
      (List.replicate (kind.2 - 3) (0 : Byte)).length + 3 = kind.2) ∧
    peerFrameValid ([4] ++ crcBytes [4]) = true := by decide +kernel

/-- A port whose send list holds one frame. -/
def sendingOn (item : SendItem) : State := base.setPortA { up with
  sendList := [item]
  table := [{ entry 4 .read false with response := some { outcome := .data, reason := .none, data := [] } }] }

theorem witness_LinkTimeoutAndFrameSent :
    ((base.mc.inReset = none ∧ (base.port .a).link = .up ∧ (base.port .a).linkTimer ≠ none) ∧
      answeredIn (sendingOn (.response 4)) .a = [(.a, 4)]) ∧
    ∀ item ∈ [SendItem.response 4, .refusal 4 .abort .tagBusy, .ack 64 false .announced],
      let s := sendingOn item
      s.mc.inReset = none ∧ (s.port .a).link = .up ∧ (s.port .a).sendList = item :: [] ∧
        ((s.port .a).entry 4).isSome = true := by decide

/-- A PORT_SET of both ports with every flag set, its values at the ends of their ranges. -/
def portSetFrame (sel set watch limit : Nat) : List Byte :=
  [0x40, 1, BitVec.ofNat 8 sel, BitVec.ofNat 8 set, 0] ++ beBytes 4 16711679 ++ beBytes 4 16711679 ++ beBytes 4 watch ++
    [3, BitVec.ofNat 8 limit, 1]

theorem witness_PortSet : (∀ f, Begins (asked base f) f []) ∧
    (after .portSet (asked base (portSetFrame 2 15 268435455 64))).cp.replies.map Reply.status = [.ok] ∧
    (after .portSet (asked base (portSetFrame 3 15 268435455 64))).cp.replies.map Reply.status = [.badPort] ∧
    (after .portSet (asked base (portSetFrame 2 16 268435455 64))).cp.replies.map Reply.status = [.badValue] ∧
    (after .portSet (asked base (portSetFrame 2 15 268435456 64))).cp.replies.map Reply.status = [.badValue] ∧
    (after .portSet (asked base (portSetFrame 2 15 268435455 65))).cp.replies.map Reply.status = [.badValue] :=
  ⟨begins_asked, by decide, by decide, by decide, by decide, by decide⟩

theorem witness_PortStatusAndClear : ∀ f, Begins (asked base f) f [] := begins_asked

theorem witness_LogStoresRecord :
    ({ resetLog with frozen := true } : Log).frozen = true ∧
    (fullLog.frozen = false ∧ fullLog.overflow = true ∧
      fullLog.records = fullLog.records.take 31 ++ [{ event := .tagLost none 31, timestamp := 31, superseded := 0 }]) ∧
    (({ fullLog with overflow := false } : Log).overflow = false ∧ fullLog.records.length = 32) ∧
    (∀ n ∈ [0, 31], (fullLog.records.take n).length < 32) := by decide +kernel

theorem witness_LogMessages : ∀ f, Begins (asked base f) f [] := begins_asked

theorem witness_EventFlagsAndMessages :
    (hasFlag (base.setEu { flags := 1, enabled := 1 }).eu.flags .logNonempty = true) ∧
    (hasFlag base.eu.flags .logNonempty = false) ∧ ∀ f, Begins (asked base f) f [] :=
  ⟨by decide, by decide, begins_asked⟩

theorem witness_ModeRequest :
    (∀ m ∈ [Mode.recovering, .config, .enforce, .monitor, .suspended], ∀ f : List Byte, (asked (inMode m base) f).mc.mode = m ∧
      Begins (asked (inMode m base) f) f []) ∧
    ((4 : Byte) ≠ 0 ∧ (4 : Byte).toNat ≤ 4 ∧ 4 < (5 : Byte).toNat) ∧
    (base.mc.pendingTarget = none ∧ base.mc.storeState = .formatted ∧ base.te.table = [] ∧
      (withCmd .recount .queued base).te.table ≠ [] ∧ base.portA.table = [] ∧ base.portB.table = [] ∧
      base.te.current = none) ∧
    (let s := base.setMc { base.mc with mode := .suspended, suspendOrigin := some .enforce }
     s.mc.suspendOrigin = some .enforce ∧ s.dram.selfRefresh = [] ∧
       (s.setDram { s.dram with selfRefresh := [0] }).dram.selfRefresh ≠ []) :=
  ⟨fun _ _ _ => ⟨rfl, rfl, rfl, rfl, Nat.zero_lt_succ 7, rfl⟩, by decide, by decide, by decide⟩

theorem witness_SuspendAndReturn :
    Quiet base ∧ (base.mc.mode ≠ .suspended ∧ base.mc.pendingTarget ≠ some .suspended) ∧
    (let s := base.setMc { base.mc with pendingTarget := some .suspended }
     s.mc.mode = .enforce ∧ s.mc.pendingTarget = some .suspended ∧ s.portA.table = [] ∧ s.portB.table = [] ∧
       s.te.current = none ∧ s.cp.executing = none) ∧
    (let s := base.setMc { base.mc with mode := .suspended, suspendOrigin := some .monitor }
     s.mc.mode = .suspended ∧ s.mc.pendingTarget = none) ∧
    (let s := base.setMc { base.mc with
       mode := .suspended, suspendOrigin := some .monitor, pendingTarget := some .monitor }
     s.mc.pendingTarget ≠ none ∧ s.mc.pendingTarget ≠ some .suspended ∧ s.mc.inReset = none ∧ s.mc.mode = .suspended ∧ s.mc.pendingTarget = some .monitor ∧
       s.mc.suspendOrigin = some .monitor ∧ s.su.runs = [] ∧ s.su.write = none ∧ s.su.waiting = none ∧
       s.su.pacing = none) := by
  refine ⟨⟨rfl, rfl, rfl, ?_, by decide, by decide⟩, by decide, by decide, by decide, by decide⟩
  simp [base, State.reset, resetScrubber]

theorem witness_Settings : ∀ f, Begins (asked base f) f [] := begins_asked

/-- A state that holds four lines from granule 400 on. -/
def fourLines : State := base.setTc { resetCache with
  sets := [(100, oneLine 100 tags), (101, oneLine 101 keptTags), (102, oneLine 102 tags), (103, oneLine 103 drainingTags)] }

/-- The four lines. -/
def fourTags (j : Nat) : TagLine := if j = 1 then keptTags else if j = 3 then drainingTags else tags

theorem witness_TagQueries :
    (TablesOpen base ∧ tableRefusal base (if granules base.mc.poolCode ≤ 16777216 then some .badRange else none) = some .badRange ∧
      base.tenants ≤ 16711680 ∧ 16711680 < granules base.mc.poolCode ∧ 400 < base.tenants ∧ Cached base (400 / 4) tags) ∧
    (∀ i < 4, Cached fourLines (400 / 4 + i) (fourTags i)) ∧ 400 % 16 = 0 ∧ 400 + 16 ≤ base.tenants ∧
    (1008 : BitVec 16).toNat % 16 = 0 ∧ (1008 : BitVec 16).toNat ≤ 1008 ∧ ∀ f, Begins (asked base f) f [] := by
  refine ⟨⟨⟨by decide, by decide, rfl⟩, by decide, by decide, by decide, by decide, cached_oneLine 100 tags base rfl⟩, ?_,
    by decide, by decide, by decide, by decide, begins_asked⟩
  intro i hi
  have h : i = 0 ∨ i = 1 ∨ i = 2 ∨ i = 3 := by omega
  rcases h with rfl | rfl | rfl | rfl
  · exact cached_oneLine 100 tags _ rfl
  · exact cached_oneLine 101 keptTags _ rfl
  · exact cached_oneLine 102 tags _ rfl
  · exact cached_oneLine 103 drainingTags _ rfl

theorem setWf_emptySet : setWf emptySet := by unfold setWf; decide

theorem witness_LookupOutcomes :
    (setWf (base.tc.set 100) ∧ (2, WayState.valid 100 tags) ∈ base.tc.set 100) ∧
    (let tc := after (.requestRead .a 4 7 25856) base
     setWf (tc.tc.set 101) ∧ (0, WayState.pending 101) ∈ tc.tc.set 101) ∧
    (setWf (base.tc.set 102) ∧ base.tc.fills.length < 16 ∧
      base.tc.set 102 = [] ++ (0, .empty) :: emptySet.tail) ∧
    16 ≤ ({ resetCache with fills := List.replicate 16 { line := 0, way := 0, stage := .reading, parties := [], origin := none, install := none } } : TagCache).fills.length :=
  ⟨⟨by unfold setWf; decide, by decide⟩, ⟨by unfold setWf; decide, by decide⟩, ⟨by unfold setWf; decide, by decide, by decide⟩,
    by decide⟩

theorem engaged_engaged (c : Command) (p : Phase) (g : Nat) (f : Work → Work) (w : Work)
    (h : f { newWork 5 g with begun := true, shareOwner := 7 } = w) (ht : w.ticket = 5) (hb : w.busy = false) :
    Engaged (engaged c p g f) w
      { ticket := 5, command := c, phase := p, doneCount := 0, poisonedCount := 0, runs := 0, status := none } := by
  refine ⟨rfl, ?_, ?_, hb⟩
  · rw [← h]; rfl
  · rw [ht]; rfl

theorem cached_engaged (c : Command) (p : Phase) (g : Nat) (f : Work → Work) : Cached (engaged c p g f) 100 tags :=
  cached_oneLine 100 tags _ rfl

theorem engaged_caching {s : State} {w : Work} {c : Cmd} (j : Nat) (l : TagLine) (h : Engaged s w c) :
    Engaged (caching j l s) w c := h

theorem engaged_full {s : State} {w : Work} {c : Cmd} (h : Engaged s w c) : Engaged (full s) w c := h

/-- A cache with one fill, of line 101, to which no party is attached. -/
def filling : State := base.setTc { resetCache with
  sets := [(101, (0, .pending 101) :: emptySet.tail)]
  fills := [{ line := 101, way := 0, stage := .reading, parties := [], origin := some .a, install := none }] }

theorem cacheWf_filling : cacheWf filling.tc := by
  refine ⟨fun j => ?_, by decide, by decide⟩
  have h : filling.tc.set j = if 101 = Machine.setOf j then (0, .pending 101) :: emptySet.tail else emptySet := by
    simp [TagCache.set, filling, State.setTc, smapGet]
  rw [h]
  split <;> (unfold setWf; decide)

theorem witness_FillCompletes : cacheWf filling.tc ∧
    (∀ m ∈ [Mode.recovering, .enforce], ∀ install ∈ [none, some tags], ∀ f ∈ filling.tc.fills,
      let s := inMode m (filling.setTc { filling.tc with fills := [{ f with install := install }] })
      s.mc.inReset = none ∧ s.mc.mode = m ∧ s.mc.poolCode = some 0 ∧
        s.tc.fills.find? (fun x => x.line == 101) = some { f with install := install } ∧ f.stage = .reading ∧
        s.tc.held = [] ∧ s.tc.writes.length < 32 ∧ 32 ≤ (full s).tc.writes.length) ∧
    ((ReadOutcome.decayed (List.replicate 64 0)).fits 64 = true ∧ ReadOutcome.ok.fits 64 = true ∧
      ReadOutcome.uncorrectable.fits 64 = true) ∧
    let s := (engaged (.format .formatted) .handoff 404 fun w => { w with runOpen := true }).setSu
      { resetScrubber with runs := [{ first := 0, count := 404, ticket := some 5, isOpen := true }] }
    (∃ w, s.te.current = some w ∧ (s.cmd w.ticket).isSome = true ∧ w.runOpen = true) ∧
      s.su.runs = [] ++ [{ first := 0, count := 404, ticket := some 5, isOpen := true }] :=
  ⟨cacheWf_filling, by decide, by decide, ⟨_, rfl, rfl, rfl⟩, rfl⟩

/-- A state in which no line can be filled: the miss list is full. -/
def stuck (s : State) : State := s.setTc { s.tc with
  fills := List.replicate 16 { line := 0, way := 0, stage := .reading, parties := [], origin := none, install := none } }

/-- The line of the worked tag sets, with the tag of granule 402 SCRUBBING. -/
def scrubbingTags : TagLine := { tags with r2 := { tag := .scrubbing (some 7) (some 5), generation := 3 } }

/-- A scrubber whose change of granule 402 waits. -/
def changing (m : Mode) (l : TagLine) : State := caching 100 l (inMode m (base.setSu { resetScrubber with
  runs := [{ first := 402, count := 1, ticket := some 5, isOpen := false }]
  waiting := some { granule := 402, failed := true, issued := true } }))

/-- A SURVEY of granules 400 to 415 that has read `k` lines. -/
def surveying (k : Nat) (s : State) : State :=
  s.setCp { s.cp with
    inbound := [[0x31, 1]]
    executing := some (.survey (4 * 100) 0 .read false (List.replicate (4 * k) 0x80#16)) }

theorem witness_WaitingPartiesTaken :
    (∀ orphan ∈ [true, false],
      let e := { entry 4 .read orphan with stage := .checking }
      let s := base.setPortA { up with table := [e] }
      (s.port .a).entry 4 = some e ∧ 64 * e.lineNo.toNat / 4096 = 400 ∧
        s.decideRequest e (some tags.r0) =
          .ruled { reason := .none, scored := false, logged := false, served := true, seen := .state .owned } ∧
        (inMode .config s).decideRequest e (some tags.r0) = .notReady) ∧
    (let e := { entry 4 .read false with stage := .checking, lineNo := 25856 }
     ((base.setPortA { up with table := [e] }).port .a).entry 4 = some e ∧ 64 * e.lineNo.toNat / 4096 / 4 = 101 ∧
       ∀ x ∈ base.tc.set 101, x.2.isValid 101 = false) ∧
    (let s := (asked base ([0x30, 1] ++ beBytes 4 401)).setCp { (asked base ([0x30, 1] ++ beBytes 4 401)).cp with
       executing := some (.tagRead 401) }
     s.cp.executing = some (.tagRead (401#32).toNat) ∧ s.cp.inbound = ([0x30, 1] ++ beBytes 4 401) :: [] ∧
       ([0x30, 1] ++ beBytes 4 401 : List Byte).headD 0 = 0x30) ∧
    ((∀ k ∈ [0, 2, 3], ∀ s ∈ [fourLines, base], ∃ rows : List (BitVec 16), rows.length = 4 * k ∧ k < 4 ∧
        (surveying k s).cp.executing = some (.survey (4 * 100) 0 .read false rows) ∧
        (surveying k s).cp.inbound = [0x31, 1] :: [] ∧ ([0x31, 1] : List Byte).headD 0 = 0x31) ∧
      (∀ i, 2 ≤ i → i < 4 → Cached (surveying 2 fourLines) (100 + i) (fourTags i)) ∧
      Cached (surveying 0 base) (100 + 0) tags ∧
      (∀ x ∈ (surveying 0 base).tc.set (100 + 1), x.2.isValid (100 + 1) = false) ∧
      ∀ x ∈ (surveying 3 base).tc.set (100 + 3), x.2.isValid (100 + 3) = false) ∧
    (∃ w c i, Engaged (engaged (.reclaim 400 4 7 true) .mark 400 id) w c ∧ tagRow w c = some i) ∧
    ((recovering (.walk newWalk)).mc.inReset = none ∧ (recovering (.walk newWalk)).mc.recovery = some (.walk newWalk) ∧
      newWalk.placeWait = false) ∧
    (∀ m ∈ [Mode.suspended, .enforce], ∀ l ∈ [tags, scrubbingTags],
      (changing m l).su.waiting = some { granule := 402, failed := true, issued := true } ∧
      (changing m l).su.runs = { first := 402, count := 1, ticket := some 5, isOpen := false } :: [] ∧
      (changing m l).mc.mode = m ∧ (changing m l).tc.writes.length < 32) ∧
    ((∃ w c, Engaged (engaged (.reclaim 404 4 7 true) .mark 404 id) w c ∧ w.cursor = 404 ∧
        c.command.isFormat = false) ∧
      ((recovering (.walk { newWalk with cursor := 404 })).mc.recovery = some (.walk { newWalk with cursor := 404 })) ∧
      (base.setSu { resetScrubber with waiting := some { granule := 404, failed := true, issued := true } }).mc.mode ≠
        .suspended ∧
      (base.setCp { base.cp with executing := some (.tagRead 404) }).cp.executing = some (.tagRead 404) ∧
      (∀ x ∈ (engaged (.reclaim 404 4 7 true) .mark 404 id).tc.set (404 / 4), x.2.isValid (404 / 4) = false) ∧
      ∀ x ∈ (recovering (.walk { newWalk with cursor := 404 })).tc.set (404 / 4), x.2.isValid (404 / 4) = false) ∧
    let s := (stuck base).setTc { (stuck base).tc with stalled := [(.walk, 101), (.engine, 100), (.message, 102)] }
    s.tc.stalled = [(.walk, 101)] ++ (.engine, 100) :: [(.message, 102)] ∧ Stuck s.tc 101 ∧ ¬ Stuck s.tc 100 :=
  ⟨by decide, ⟨rfl, rfl, by decide⟩, by decide,
    ⟨fun k hk _ _ => ⟨_, List.length_replicate, by simp at hk; omega, rfl, rfl, rfl⟩, fun i h2 h4 => by
        obtain rfl | rfl : i = 2 ∨ i = 3 := by omega
        · exact cached_oneLine 102 tags _ rfl
        · exact cached_oneLine 103 drainingTags _ rfl,
      cached_oneLine 100 tags _ rfl, by decide, by decide⟩,
    ⟨_, _, _, engaged_engaged _ _ _ _ _ rfl rfl rfl, rfl⟩, by decide, by decide,
    ⟨⟨_, _, engaged_engaged _ _ _ _ _ rfl rfl rfl, rfl, rfl⟩, rfl, by decide, rfl, by decide, by decide⟩, by decide,
    by unfold Stuck; decide, by unfold Stuck; decide⟩

/-- A granule whose last write is in flight, of the only run of a command in SCRUB. -/
def lastWrite (count : Nat) (l : TagLine) : State :=
  let s := caching 100 l (withCmd (.reclaim 400 4 7 true) .scrub base)
  (s.setSu { resetScrubber with
    runs := [{ first := 402, count := count, ticket := some 5, isOpen := false }]
    write := some { granule := 402, bursts := 4, completed := 63, inFlight := [63], failed := false }
    pacing := some 3 }).setTe { s.te with table := s.te.table.map fun c => { c with runs := 1 } }

theorem witness_ChangesWaitForRoom :
    (let s := full (engaged (.reclaim 400 4 7 true) .mark 400 id)
     ∃ w c i, Engaged s w c ∧ tagRow w c = some i ∧ w.cursor = 400 ∧ Cached s 100 tags ∧ unitWrites w c tags.r0 ≠ none ∧
       32 ≤ s.tc.writes.length) ∧
    (let w := { newWalk with cursor := 4 * 100 + 2, runOpen := true }
     let s := full (caching 100 tags (recovering (.walk w)))
     s.mc.inReset = none ∧ s.mc.recovery = some (.walk w) ∧ w.counting = false ∧ walkWrites s (tags.get 2) = true ∧
       w.runOpen = requeues (tags.get 2).tag ∧ heldBy (tags.get 2).tag = none ∧ 32 ≤ s.tc.writes.length) ∧
    (let s := full (lastWrite 1 scrubbingTags)
     Cached s (402 / 4) scrubbingTags ∧ (scrubbingTags.get (402 % 4)).tag.kind = .scrubbing ∧ 32 ≤ s.tc.writes.length ∧
       s.su.write = some { granule := 402, bursts := 4, completed := 63, inFlight := [63], failed := false } ∧
       s.su.runs = { first := 402, count := 1, ticket := some 5, isOpen := false } :: []) ∧
    (∀ f ∈ filling.tc.fills, filling.tc.fills.find? (fun x => x.line == 101) = some f ∧ filling.tc.writes.length < 32) :=
  ⟨⟨_, _, _, engaged_full (engaged_engaged _ _ _ _ _ rfl rfl rfl), rfl, rfl, cached_engaged (.reclaim 400 4 7 true) .mark 400 id,
      by decide, by decide⟩, by decide, ⟨cached_caching 100 scrubbingTags base, rfl, by decide, rfl, rfl⟩, by decide⟩

theorem witness_WritesReachDram :
    (let s := base.setTc (base.tc.pushWrite 100 tags)
     s.mc.inReset = none ∧ s.mc.poolCode = some 0 ∧ s.tc.writes = [] ++ { line := 100, recs := tags } :: []) ∧
    (let s := base.setDram (base.dram.issue 77 [1, 2])
     s.dram.persist = [] ++ { address := 77, bytes := [1, 2], held := false } :: []) ∧
    (let s := base.setDram ({ base.dram with selfRefresh := [0, 1, 2, 3] }.issue 77 [1, 2])
     s.dram.persist = [] ++ { address := 77, bytes := [1, 2], held := true } :: []) := by decide

theorem witness_StoredRecordsReadBack : open7.quota < 2 ^ 32 ∧ (base.share 6).inUse = true ∧
    ∀ n ∈ [16, 32, 64], (List.replicate n (0 : Byte)).length = n ∧
      (List.replicate n (0 : Byte)).drop (n - 2) ≠ crcBytes ((List.replicate n (0 : Byte)).take (n - 2)) := by
  decide +kernel

theorem witness_CommandStartsAndChecks :
    (∀ s ∈ [withCmd .recount .queued base, inMode .suspended (withCmd .recount .queued base)],
      s.mc.inReset = none ∧ s.te.current = none ∧ ((s.te.table.find? (fun c => c.phase == .queued)).isSome = true) ∧
        (s.cmd 5).isSome = true) ∧
    (∀ c ∈ [Command.assign 403 1 7 .rw true, .shareRange 400 1 6, .unshareRange 401 1 6],
      ∃ w r, Engaged (engaged c .verify 403 fun w => { w with begun := false }) w r ∧ r.phase = .verify ∧ r.command = c ∧
        w.begun = false) ∧
    ∃ w r, Engaged (engaged (.assign 403 1 7 .rw true) .verify 403 fun w => { w with scrubWait := some 403 }) w r ∧
      r.phase = .verify ∧ w.begun = true ∧ w.scrubWait ≠ none :=
  ⟨by decide, fun _ _ => ⟨_, _, engaged_engaged _ _ _ _ _ rfl rfl rfl, rfl, rfl, rfl⟩,
    _, _, engaged_engaged _ _ _ _ _ rfl rfl rfl, rfl, rfl, by decide⟩

theorem witness_VerifyTakesTag :
    ∀ c ∈ [Command.assign 403 1 7 .rw true, .assign 402 2 7 .rw false, .reclaim 400 2 7 true, .shareRange 400 1 6,
        .unshareRange 401 1 6, .revive 400 1],
      ∃ w r i, Engaged (engaged c .verify 403 id) w r ∧ r.phase = .verify ∧ r.command = c ∧
        verifyRow r.command = some i ∧ w.begun = true ∧ w.scrubWait = none ∧
        Cached (engaged c .verify 403 id) (w.cursor / 4) tags := by
  intro c hc
  have h : ∃ i, verifyRow c = some i := by
    simp only [List.mem_cons, List.not_mem_nil, or_false] at hc
    rcases hc with rfl | rfl | rfl | rfl | rfl | rfl <;> exact ⟨_, rfl⟩
  obtain ⟨i, hi⟩ := h
  exact ⟨_, _, i, engaged_engaged _ _ _ _ _ rfl rfl rfl, rfl, rfl, hi, rfl, rfl, cached_engaged _ _ _ _⟩

theorem witness_RecountSweeps : ∀ j ∈ [100, 4177919],
    ∃ w r, Engaged (caching j tags (engaged .recount .verify (4 * j + 3) id)) w r ∧ r.phase = .verify ∧
      r.command = .recount ∧ w.cursor = 4 * j + 3 ∧ Cached (caching j tags (engaged .recount .verify (4 * j + 3) id)) j tags ∧
      (j = 100 → w.cursor + 1 < base.tenants) ∧ (j = 4177919 → base.tenants ≤ w.cursor + 1) :=
  fun j _ => ⟨_, _, engaged_caching j tags (engaged_engaged _ _ _ _ _ rfl rfl rfl), rfl, rfl, rfl, cached_caching _ _ _,
    by rintro rfl; decide, by rintro rfl; decide⟩

theorem witness_ApplyTakesTag :
    ∀ c ∈ [Command.assign 400 4 7 .rw true, .shareRange 400 1 6, .unshareRange 401 3 6], ∀ g ∈ [400, 401, 403],
      ∃ w r i, Engaged (engaged c .mark g id) w r ∧ r.phase = .mark ∧ applyRow r.command = some i ∧ w.cursor = g ∧
        Cached (engaged c .mark g id) 100 tags ∧ (engaged c .mark g id).tc.writes.length < 32 := by
  intro c hc g _
  have h : ∃ i, applyRow c = some i := by
    simp only [List.mem_cons, List.not_mem_nil, or_false] at hc
    rcases hc with rfl | rfl | rfl <;> exact ⟨_, rfl⟩
  obtain ⟨i, hi⟩ := h
  exact ⟨_, _, i, engaged_engaged _ _ _ _ _ rfl rfl rfl, rfl, hi, rfl, cached_engaged _ _ _ _, Nat.zero_lt_succ 31⟩

theorem witness_MarkTakesTag :
    (∀ g ∈ [400, 402, 403], ∃ w r, Engaged (engaged (.reclaim 400 4 7 true) .mark g id) w r ∧
      (r.command.isReclaim = true ∧ r.phase = .mark) ∧ draining? r.command = some 7 ∧ w.cursor = g ∧
      Cached (engaged (.reclaim 400 4 7 true) .mark g id) 100 tags) ∧
    (∃ w r, Engaged (engaged (.retire 7 true) .mark 401 id) w r ∧ r.command.isRetire = true ∧ r.phase = .mark) ∧
    ∃ w r, Engaged (engaged (.retire 7 true) .verify 0 id) w r ∧ r.command.isRetire = true ∧ r.phase = .verify ∧
      w.cursor = 0 :=
  ⟨fun _ _ => ⟨_, _, engaged_engaged _ _ _ _ _ rfl rfl rfl, ⟨rfl, rfl⟩, rfl, rfl, cached_engaged _ _ _ _⟩,
    ⟨_, _, engaged_engaged _ _ _ _ _ rfl rfl rfl, rfl, rfl⟩, ⟨_, _, engaged_engaged _ _ _ _ _ rfl rfl rfl, rfl, rfl, rfl⟩⟩

theorem witness_DrainTimesOut :
    (∀ c ∈ [Command.revive 400 4, .reclaim 400 4 7 true, .retire 7 true],
      ∃ w r, Engaged (engaged c .drain 400 fun w => { w with timer := some 20 }) w r ∧ r.phase = .drain ∧
        w.timedOut = false ∧ w.timer ≠ none) ∧
    ∀ j ∈ [100, 4177919], ∀ k ∈ [2, 3], ∀ c ∈ [Command.reclaim (4 * j) 4 7 true, .retire 7 true],
      let s := caching j tags (engaged c .drain (4 * j + k) fun w => { w with timedOut := true })
      ∃ w r, Engaged s w r ∧ r.phase = .drain ∧ w.timedOut = true ∧
        (r.command.isReclaim = true ∨ r.command.isRetire = true) ∧ w.cursor = 4 * j + k ∧ Cached s j tags ∧
        s.tc.writes.length < 32 ∧ (j = 4177919 → k = 3 → r.command.stop s.tenants ≤ w.cursor + 1) := by
  refine ⟨fun _ _ => ⟨_, _, engaged_engaged _ _ _ _ _ rfl rfl rfl, rfl, rfl, by decide⟩, fun j hj k hk c hc =>
    ⟨_, _, engaged_caching j tags (engaged_engaged _ _ _ _ _ rfl rfl rfl), rfl, rfl, ?_, rfl, cached_caching _ _ _,
      Nat.zero_lt_succ 31, ?_⟩⟩ <;>
    simp only [List.mem_cons, List.not_mem_nil, or_false] at hc
  · rcases hc with rfl | rfl
    · exact .inl rfl
    · exact .inr rfl
  · rintro rfl rfl
    rcases hc with rfl | rfl <;> decide

/-- A command in HANDOFF whose run is open at the tail of the scrub list. -/
def handing (g : Nat) : State :=
  (engaged (.reclaim 400 4 7 true) .handoff g fun w => { w with runOpened := true, runOpen := true }).setSu
    { resetScrubber with runs := [{ first := 400, count := 2, ticket := some 5, isOpen := true }] }

/-- A state whose scrub list is full. -/
def fullRuns (s : State) : State := s.setSu { resetScrubber with
  runs := List.replicate 64 { first := 0, count := 1, ticket := none, isOpen := false } }

theorem witness_HandoffTakesTag :
    (∃ w r i, Engaged (engaged (.reclaim 400 4 7 true) .handoff 400 id) w r ∧ r.phase = .handoff ∧
      handoffRow r.command = some i ∧ w.placeWait = false ∧ w.runOpened = false) ∧
    (64 ≤ (fullRuns base).su.runs.length ∧ base.su.runs.length < 64) ∧
    (∀ g ∈ [402, 403], ∃ w r, Engaged (handing g) w r ∧ r.phase = .handoff ∧ w.placeWait = false ∧ w.runOpened = true ∧
      w.runOpen = true ∧ w.cursor = g ∧ Cached (handing g) 100 tags ∧ (handing g).tc.writes.length < 32 ∧
      (handing g).su.runs = [] ++ [{ first := 400, count := 2, ticket := some 5, isOpen := true }]) ∧
    converted tags.r2.tag 5 (.reclaim 400 4 7 true) = some (.scrubbing (some 7) (some 5)) ∧
    converted tags.r3.tag 5 (.reclaim 400 4 7 true) = none ∧
    ∀ g ∈ [402, 403],
      ∃ w r, Engaged (engaged (.reclaim 400 4 7 true) .handoff g fun w => { w with runOpened := true }) w r ∧
        w.runOpened = true ∧ w.runOpen = false ∧ w.cursor = g :=
  ⟨⟨_, _, _, engaged_engaged _ _ _ _ _ rfl rfl rfl, rfl, rfl, rfl, rfl⟩, by decide,
    fun _ _ => ⟨_, _, ⟨rfl, rfl, rfl, rfl⟩, rfl, rfl, rfl, rfl, rfl, cached_oneLine 100 tags _ rfl, Nat.zero_lt_succ 31,
      rfl⟩, rfl, rfl,
    fun _ _ => ⟨_, _, engaged_engaged _ _ _ _ _ rfl rfl rfl, rfl, rfl, rfl⟩⟩

/-- A FORMAT in HANDOFF that has reached a line, its run open. -/
def installing (j : Nat) : State :=
  (engaged (.format .formatted) .handoff (4 * j) fun w => { w with runOpen := true }).setSu
    { resetScrubber with runs := [{ first := 0, count := 4 * j, ticket := some 5, isOpen := true }] }

/-- The fill of line 101 finds it UNCORRECTABLE, or FORMAT has installed it, and the install of line 101 has a way, all
with the write list full. -/
theorem witness_ChangesWaitForRoom_fill :
    (∀ f ∈ filling.tc.fills, Reading (full filling) f ∧ (full filling).mc.poolCode = some 0 ∧
      ReadOutcome.uncorrectable.fits 64 = true ∧ 32 ≤ (full filling).tc.writes.length ∧
      lostIn filling.dram 0 f.line .uncorrectable ≠ []) ∧
    (∃ w c, Engaged (full (installing 101)) w c ∧ c.command = .format .formatted ∧ c.phase = .handoff ∧
      w.placeWait = false ∧ w.runOpen = true ∧ w.cursor = 4 * 101) ∧
    setWf ((full (installing 101)).tc.set 101) ∧ (∀ way, (way, WayState.pending 101) ∉ (full (installing 101)).tc.set 101) ∧
    ¬ Stuck (full (installing 101)).tc 101 ∧ 32 ≤ (full (installing 101)).tc.writes.length := by
  refine ⟨fun f hf => ?_, ⟨_, _, ⟨rfl, rfl, rfl, rfl⟩, rfl, rfl, rfl, rfl, rfl⟩, setWf_emptySet, fun way h => ?_, ?_,
    Nat.le_refl 32⟩
  · simp only [filling, State.setTc, List.mem_cons, List.not_mem_nil, or_false] at hf
    subst hf
    exact ⟨⟨rfl, rfl, rfl, fun _ _ h => nomatch h⟩, rfl, rfl, Nat.le_refl 32, by decide⟩
  · have e : (full (installing 101)).tc.set 101 = emptySet := rfl
    rw [e] at h
    simp [emptySet] at h
  · unfold Stuck; decide

theorem witness_FormatPhases :
    (∀ p ∈ [Phase.verify, .mark, .handoff], ∃ w r, Engaged (engaged (.format .formatted) p 0 id) w r ∧
      r.command = .format .formatted ∧ r.phase = p ∧ w.placeWait = false ∧ w.runOpen = false) ∧
    (base.su.runs = [] ∧ base.mc.poolCode = some 0 ∧ (∀ e ∈ base.portA.table ++ base.portB.table, e.stage ≠ .forwarded) ∧
      base.su.runs.length < 64 ∧ 64 ≤ (fullRuns base).su.runs.length) ∧
    (∀ j ∈ [100, 101], (∃ w r, Engaged (installing j) w r ∧ r.phase = .handoff ∧ w.placeWait = false ∧ w.runOpen = true ∧
        w.cursor = 4 * j) ∧
      (installing j).su.runs = [] ++ [{ first := 0, count := 4 * j, ticket := some 5, isOpen := true }] ∧
      (installing j).tc.writes.length < 32 ∧ 32 ≤ (full (installing j)).tc.writes.length ∧
      setWf ((installing j).tc.set j)) ∧
    ((installing 100).tc.validLine 100).isSome = true ∧
    ((∀ way, (way, WayState.pending 101) ∉ (installing 101).tc.set 101) ∧ ¬ Stuck (installing 101).tc 101) ∧
    (setWf (((installing 101).setTc filling.tc).tc.set 101) ∧
      (0, WayState.pending 101) ∈ ((installing 101).setTc filling.tc).tc.set 101) ∧
    (setWf ((stuck (installing 101)).tc.set 101) ∧ Stuck (stuck (installing 101)).tc 101) := by
  refine ⟨fun _ _ => ⟨_, _, engaged_engaged _ _ _ _ _ rfl rfl rfl, rfl, rfl, rfl, rfl⟩, by decide, fun j hj =>
    ⟨⟨_, _, ⟨rfl, rfl, rfl, rfl⟩, rfl, rfl, rfl, rfl⟩, rfl, Nat.zero_lt_succ 31, Nat.le_refl 32, ?_⟩, by decide, ⟨fun way h => ?_, ?_⟩,
    ⟨by unfold setWf; decide, by decide⟩, setWf_emptySet, by unfold Stuck; decide⟩
  · simp only [List.mem_cons, List.not_mem_nil, or_false] at hj
    rcases hj with rfl | rfl
    · exact (cached_oneLine 100 tags _ rfl).1
    · exact setWf_emptySet
  · have e : (installing 101).tc.set 101 = emptySet := rfl
    rw [e] at h
    simp [emptySet] at h
  · unfold Stuck; decide

theorem witness_NotifyEndsRetireAndFormat :
    ∀ c ∈ [Command.retire 7 true, .format .formatted, .recount], ((withCmd c .scrub base).cmd 5).isSome = true ∧
      (withCmd c .scrub base).mc.poolCode = some 0 := by decide

/-- The same with writes of the head run's granule completed. -/
def scrubbingAt (bursts completed : Nat) : State := scrubbing.setSu { scrubbing.su with
  write := some { granule := 402, bursts := bursts, completed := completed, inFlight := [], failed := false } }

/-- In ENFORCE with nothing pending the mode is in order. -/
theorem modeWf_base : modeWf base := ⟨rfl, nofun⟩

theorem witness_ScrubberWrites :
    (scrubberWf scrubbing ∧ ∀ x ∈ [(1, 16), (3, 48), (4, 63)], scrubberWf (scrubbingAt x.1 x.2) ∧
      (scrubbingAt x.1 x.2).su.waiting = none ∧ (scrubbingAt x.1 x.2).su.runs = scrubbing.su.runs) ∧
    (let s := scrubbing
     s.mc.inReset = none ∧ s.mc.mode ≠ .suspended ∧ s.su.pacing ≠ none ∧ s.su.waiting = none ∧ s.su.write = none ∧
       s.su.runs = { first := 402, count := 1, ticket := some 5, isOpen := false } :: []) ∧
    (let x : WriteGranule := { granule := 402, bursts := 3, completed := 48, inFlight := [], failed := false }
     x.bursts < 4 ∧ x.completed = 16 * x.bursts) ∧
    (let x : WriteGranule := { granule := 402, bursts := 4, completed := 63, inFlight := [63], failed := false }
     x.completed < 16 * x.bursts ∧ 63 ∈ x.inFlight) :=
  ⟨⟨⟨⟨by decide, by decide⟩, modeWf_base, fun x h => nomatch h⟩, fun x hx => by
      simp only [List.mem_cons, List.not_mem_nil, or_false] at hx
      rcases hx with rfl | rfl | rfl <;>
        exact ⟨⟨⟨by decide, by decide⟩, modeWf_base, fun x h => by cases h; decide⟩, rfl, rfl⟩⟩,
    by decide, by decide, by decide⟩

/-- 63 closed runs that each hold a granule. -/
def otherRuns : List Run := List.replicate 63 { first := 1000, count := 1, ticket := none, isOpen := false }

/-- The last write of a granule whose run heads a full list. -/
def lastWriteFull (ticket : Option Ticket) : State :=
  let s := lastWrite 1 tags
  s.setSu { s.su with runs := { first := 402, count := 1, ticket := ticket, isOpen := false } :: otherRuns }

/-- The same, while the engine waits in HANDOFF for a place of the list, with the run's command or with another; the
run's command has one run or two. -/
def lastWriteWaited (own : Bool) (runs : Nat) : State :=
  let s := lastWriteFull (some 5)
  let c : Cmd := { ticket := 5, command := .reclaim 400 4 7 true, phase := if own then .handoff else .scrub
                   doneCount := 0, poisonedCount := 0, runs := runs, status := none }
  s.setTe { s.te with
    table := [c, { c with ticket := 6, phase := .handoff, runs := 0 }]
    current := some { newWork (if own then 5 else 6) 400 with placeWait := true } }

/-- The same, while the recovery walk waits for a place of the list. -/
def lastWriteWalked : State :=
  let w : Walk := { newWalk with cursor := 500, placeWait := true }
  let s := lastWriteFull none
  (s.setMc { s.mc with mode := .recovering, recovery := some (.walk w) }).setTe { s.te with table := [] }

/-- What the statement asks of a state of the last write, in a list whose other runs hold granules. -/
def LastWrite (s : State) (count : Nat) (ticket : Option Ticket) (rest : List Run) : Prop :=
  s.mc.inReset = none ∧ s.mc.mode ≠ .suspended ∧ s.mc.pendingTarget ≠ some .suspended ∧
    s.su.write = some { granule := 402, bursts := 4, completed := 63, inFlight := [63], failed := false } ∧
    s.su.waiting = none ∧
    s.su.runs = { first := 402, count := count, ticket := ticket, isOpen := false } :: rest ∧
    (∀ y ∈ rest, y.isOpen = true ∨ 0 < y.count) ∧
    ∀ w c, s.te.current = some w → s.cmd w.ticket = some c → c.phase ≠ .scrub

theorem otherRuns_hold : ∀ y ∈ otherRuns, y.isOpen = true ∨ 0 < y.count := by decide

theorem witness_ScrubbedGranuleLeaves :
    (∀ n ∈ [1, 2], ∀ l ∈ [tags, scrubbingTags], let s := lastWrite n l
      LastWrite s n (some 5) [] ∧ Cached s (402 / 4) l ∧ s.tc.writes.length < 32 ∧ s.su.pacing = some 3 ∧
        ∃ c, s.cmd 5 = some c ∧ c.phase = .scrub ∧ c.runs ≤ 1) ∧
    (∀ ticket ∈ [none, some 5], LastWrite (lastWriteFull ticket) 1 ticket otherRuns ∧
      Cached (lastWriteFull ticket) (402 / 4) tags) ∧
    (∀ own ∈ [true, false], ∀ runs ∈ [1, 2], let s := lastWriteWaited own runs
      LastWrite s 1 (some 5) otherRuns ∧ Cached s (402 / 4) tags ∧
        ∃ w c d, s.te.current = some w ∧ w.placeWait = true ∧ s.cmd w.ticket = some d ∧ s.cmd 5 = some c ∧ c.runs = runs ∧
          (own = true ↔ w.ticket = 5) ∧ (own = false ↔ c.phase = .scrub)) ∧
    (LastWrite lastWriteWalked 1 none otherRuns ∧ Cached lastWriteWalked (402 / 4) tags ∧
      lastWriteWalked.te.current = none ∧
      ∃ w, lastWriteWalked.mc.recovery = some (.walk w) ∧ w.placeWait = true) ∧
    ((tags.get (402 % 4)).tag.kind ≠ .scrubbing ∧ (scrubbingTags.get (402 % 4)).tag.kind = .scrubbing) ∧
    (let s := (lastWriteFull none).setTc resetCache
     LastWrite s 1 none otherRuns ∧ ∀ y ∈ s.tc.set (402 / 4), y.2.isValid (402 / 4) = false) := by
  have m : Mode.enforce ≠ .suspended ∧ Mode.recovering ≠ .suspended ∧ (none : Option Mode) ≠ some .suspended := by decide
  have idle {p : Work → Cmd → Prop} : ∀ w c, (none : Option Work) = some w → p w c := fun _ _ h => nomatch h
  refine ⟨fun _ _ l _ => ⟨⟨rfl, m.1, m.2.2, rfl, rfl, rfl, nofun, idle⟩, cached_caching 100 l base, Nat.zero_lt_succ 31,
      rfl, _, rfl, rfl, Nat.le_refl 1⟩,
    fun _ _ => ⟨⟨rfl, m.1, m.2.2, rfl, rfl, rfl, otherRuns_hold, idle⟩, cached_caching 100 tags base⟩,
    fun own _ runs _ => ⟨⟨rfl, m.1, m.2.2, rfl, rfl, rfl, otherRuns_hold, ?_⟩, cached_caching 100 tags base, ?_⟩,
    ⟨⟨rfl, m.2.1, m.2.2, rfl, rfl, rfl, otherRuns_hold, idle⟩, cached_caching 100 tags base, rfl, _, rfl, rfl⟩, by decide,
    ⟨rfl, m.1, m.2.2, rfl, rfl, rfl, otherRuns_hold, idle⟩, by decide⟩
  · cases own <;> (intro w c hw hc; cases hw; cases hc; decide +revert)
  · cases own <;> exact ⟨_, _, _, rfl, rfl, rfl, rfl, rfl, by decide, by simp⟩

/-- A scrubber whose change of granule 402 waits, not yet issued. -/
def unissued : State :=
  let s := changing .enforce scrubbingTags
  s.setSu { s.su with waiting := some { granule := 402, failed := true, issued := false } }

/-- A scrubber with its timer stopped, and what it writes. -/
def stopped (runs : List Run) (write : Option WriteGranule) : State :=
  base.setSu { resetScrubber with runs := runs, write := write }

/-- A run of granules from 402 on, and one whose granules have all left it. -/
def run (count : Nat) (isOpen : Bool) : Run := { first := 402, count := count, ticket := some 5, isOpen := isOpen }

/-- The engine waits for a place of a full list whose head is an empty closed run; the run's command has one run. -/
def emptyHead : State :=
  let s := lastWriteWaited false 1
  s.setSu { resetScrubber with runs := run 0 false :: otherRuns }

theorem witness_ScrubberWrites_settle :
    ((scrubbingAt 4 64).mc.mode ≠ .suspended ∧ (scrubbingAt 4 64).su.waiting = none ∧
      ∃ x, (scrubbingAt 4 64).su.write = some x ∧ x.completed = 64) ∧
    (∀ s ∈ [unissued, full unissued], s.mc.mode ≠ .suspended ∧ Cached s (402 / 4) scrubbingTags ∧
      (scrubbingTags.get (402 % 4)).tag.kind = .scrubbing ∧
      ∃ x, s.su.waiting = some x ∧ x.granule = 402 ∧ x.issued = false) ∧
    32 ≤ (full unissued).tc.writes.length ∧
    (let x (b n : Nat) : WriteGranule :=
       { granule := 402, bursts := b, completed := n, inFlight := [], failed := false }
     ∀ s ∈ [stopped [] none, stopped [run 3 true] none, stopped [run 1 false] none, stopped [run 1 false] (some (x 3 48)),
         stopped [run 1 false] (some (x 4 63)), changing .enforce tags, emptyHead],
       s.mc.mode ≠ .suspended ∧ s.su.pacing = none ∧ s.su.runs.length ≤ 64 ∧
         (∀ x, s.su.write = some x → x.completed = 64 → s.su.waiting ≠ none) ∧
         ∀ x, s.su.waiting = some x → x.issued = true) ∧
    (emptyHead.su.runs = run 0 false :: otherRuns ∧ emptyHead.su.runs.length = 64 ∧
      ∃ w c d, emptyHead.te.current = some w ∧ w.placeWait = true ∧ emptyHead.cmd w.ticket = some d ∧
        d.phase ≠ .scrub ∧ emptyHead.cmd 5 = some c ∧ c.phase = .scrub ∧ c.runs = 1) := by
  refine ⟨⟨by decide, rfl, _, rfl, rfl⟩, fun s hs => ?_, by decide, fun s hs => ?_, rfl, rfl, _, _, _, rfl, rfl, rfl,
    by decide, rfl, rfl, rfl⟩
  · simp only [List.mem_cons, List.not_mem_nil, or_false] at hs
    rcases hs with rfl | rfl <;>
      exact ⟨by decide, cached_caching 100 scrubbingTags base, by decide, _, rfl, rfl, rfl⟩
  · simp only [List.mem_cons, List.not_mem_nil, or_false] at hs
    rcases hs with rfl | rfl | rfl | rfl | rfl | rfl | rfl <;>
      refine ⟨by decide, by decide, by decide, fun x h => ?_, fun x h => ?_⟩ <;> cases h <;> decide

/-- R127: the first burst of a closed run comes at once where the timer is stopped; R126: an empty closed run is removed,
and its command, left with no run, enters NOTIFY. -/
theorem test_settleBegins :
    ((stopped [run 1 false] none).settle.su.write.map WriteGranule.granule) = some 402 ∧
      (stopped [run 1 false] none).settle.su.pacing = some base.mc.scrubInterval ∧
      emptyHead.settle.su.runs.length = 64 ∧ (emptyHead.settle.cmd 5).map Cmd.phase = some .notify := by decide

/-- The state of the witnesses with a command at the front of its queue. -/
def running : State := { base with pending := [.timestampTick] }

theorem witness_EveryStepKeepsMemoryCanonical :
    memoryWf running.dram.mem = true ∧ step running = .next (after .timestampTick base) := ⟨by decide, rfl⟩

theorem witness_EveryStepKeepsScoresInBounds :
    domainsWf running ∧ step running = .next (after .timestampTick base) := by
  refine ⟨⟨fun d => ?_, by decide, by decide, fun c h => by simp [running, base, State.reset, resetEngine] at h,
    fun n h => by simp [running, base, State.reset] at h⟩, rfl⟩
  simp only [State.domain, running, base, smapGet]
  repeat' split
  all_goals (unfold scoreWf; decide)

theorem witness_EveryStepKeepsCapacities :
    withinCapacity running ∧ step running = .next (after .timestampTick base) := by
  refine ⟨?_, rfl⟩
  unfold withinCapacity portWf
  exact ⟨by decide, by decide, by decide, by decide, by decide, by decide, by decide, by decide, by decide,
    fun w h => by simp [running, base, State.reset, resetEngine] at h⟩

theorem witness_EveryStepKeepsNoticesInOrder :
    noticesWf running ∧ step running = .next (after .timestampTick base) := by
  refine ⟨?_, rfl⟩
  unfold noticesWf recoveryWf
  simp [running, base, resetControl, State.reset, resetEngine]

theorem witness_EveryStepKeepsScrubberInOrder :
    scrubberWf { scrubbingAt 4 63 with pending := [.timestampTick] } ∧
      ∃ t, step { scrubbingAt 4 63 with pending := [.timestampTick] } = .next t :=
  ⟨⟨⟨by decide, by decide⟩, modeWf_base, fun x h => by cases h; decide⟩, _, rfl⟩

/-- The mode is in order in SUSPENDED with the return pending, and while CONFIG or SUSPENDED is pending; CONFIG pending in
SUSPENDED is not. -/
theorem test_modeWf :
    let at_ (m : Mode) (origin target : Option Mode) : State :=
      base.setMc { base.mc with mode := m, suspendOrigin := origin, pendingTarget := target }
    modeWf (at_ .suspended (some .monitor) (some .monitor)) ∧ modeWf (at_ .enforce none (some .config)) ∧
      modeWf (at_ .monitor none (some .suspended)) ∧ ¬ modeWf (at_ .suspended (some .enforce) (some .config)) := by
  refine ⟨⟨.inr rfl, fun t h => h⟩, ⟨rfl, fun t h => ?_⟩, ⟨rfl, fun t h => ?_⟩, fun h =>
    absurd (show some Mode.enforce = some Mode.config from h.2 .config rfl) (by decide)⟩
  · cases h; exact ⟨.inl rfl, .inl rfl⟩
  · cases h; exact ⟨.inr rfl, .inr rfl⟩

theorem witness_EveryStepKeepsCacheInOrder :
    cacheWf running.tc ∧ step running = .next (after .timestampTick base) := by
  refine ⟨⟨fun j => ?_, by decide, by decide⟩, rfl⟩
  have h : running.tc.set j = if 100 = Machine.setOf j then oneLine 100 tags else emptySet := by
    simp [TagCache.set, running, base, smapGet]
  rw [h]
  split
  · exact (cached_oneLine 100 tags base rfl).1
  · exact setWf_emptySet

end Sys2Proof.Tests
end

/-! # The domain messages, the status messages and the decay tick

The laws that the statements on domains rest on come first: what a change of one domain record leaves in each part of
the state, how the parameters of a frame read back, and how a message goes through its checks. -/

namespace Sys2Proof.Machine

open Sys2Proof.Safety

/-! ## Changes of blocks, one after the other -/

theorem block_same_trans {b : Block} {s t u : State} (h : b.same s t) (h' : b.same t u) : b.same s u := by
  cases b <;> exact Eq.trans h' h

theorem onlyChanges_trans {bs cs : List Block} {s t u : State} (h : OnlyChanges bs s t) (h' : OnlyChanges cs t u) :
    OnlyChanges (bs ++ cs) s u := by
  refine ⟨h'.1.trans h.1, fun b hb => ?_⟩
  rw [List.mem_append, not_or] at hb
  exact block_same_trans (h.2 b hb.1) (h'.2 b hb.2)

theorem onlyChanges_mono {bs cs : List Block} {s t : State} (h : OnlyChanges bs s t) (hsub : bs ⊆ cs) :
    OnlyChanges cs s t :=
  ⟨h.1, fun b hb => h.2 b fun hm => hb (hsub hm)⟩

theorem onlyChanges_setMc (s : State) (m : ModeController) : OnlyChanges [.mc] s (s.setMc m) :=
  ⟨by simp, fun b hb => by cases b <;> simp_all [Block.same]⟩

theorem onlyChanges_setDomains (s : State) (x : SMap DomainRec) : OnlyChanges [.domains] s (s.setDomains x) :=
  ⟨by simp, fun b hb => by cases b <;> simp_all [Block.same]⟩

/-! ## The domain table -/

theorem State.setDomain_domain (s : State) (d e : DomainId) (r : DomainRec) :
    (s.setDomain d r).domain e = if e = d then r else s.domain e := by
  simp [State.setDomain, State.domain, smapGet_set, BitVec.toNat_inj]

@[simp] theorem State.persistDomain_domain (s : State) (d e : DomainId) :
    (s.persistDomain d).domain e = s.domain e := by
  simp [State.domain]

theorem State.writeDomain_domain (s : State) (d e : DomainId) (r : DomainRec) :
    (s.writeDomain d r).domain e = if e = d then r else s.domain e := by
  simp [State.writeDomain, State.setDomain_domain]

theorem domainBecomes_setDomain (s : State) (d : DomainId) (r : DomainRec) : DomainBecomes s (s.setDomain d r) d r :=
  ⟨by simp [State.setDomain_domain], fun e he => by simp [State.setDomain_domain, he]⟩

theorem domainBecomes_writeDomain (s : State) (d : DomainId) (r : DomainRec) :
    DomainBecomes s (s.writeDomain d r) d r :=
  ⟨by simp [State.writeDomain_domain], fun e he => by simp [State.writeDomain_domain, he]⟩

theorem onlyChanges_setDomain (s : State) (d : DomainId) (r : DomainRec) :
    OnlyChanges [.domains] s (s.setDomain d r) :=
  onlyChanges_setDomains s _

theorem onlyChanges_persistDomain (s : State) (d : DomainId) : OnlyChanges [.dram] s (s.persistDomain d) :=
  ⟨by simp, fun b hb => by cases b <;> simp_all [Block.same]⟩

theorem onlyChanges_writeDomain (s : State) (d : DomainId) (r : DomainRec) :
    OnlyChanges [.domains, .dram] s (s.writeDomain d r) :=
  onlyChanges_trans (onlyChanges_setDomain s d r) (onlyChanges_persistDomain _ d)

/-- The persisted line goes to MI as the records stand after the change (R4, R22). -/
theorem State.writeDomain_dram (s : State) (d : DomainId) (r : DomainRec) {c : PoolCode} (hc : s.mc.poolCode = some c) :
    (s.writeDomain d r).dram =
      s.dram.issue (domainWrite (s.writeDomain d r) c d).1 (domainWrite (s.writeDomain d r) c d).2 := by
  simp [State.writeDomain, State.persistDomain, State.persistDomainLine, hc, domainWrite, domainLineOf,
    State.domainLine, domainLineAddress]

theorem State.writeDomain_dram_noPool (s : State) (d : DomainId) (r : DomainRec) (hc : s.mc.poolCode = none) :
    (s.writeDomain d r).dram = s.dram := by
  simp [State.writeDomain, State.persistDomain, State.persistDomainLine, hc]

theorem sameBytes_writeDomain (s : State) (d : DomainId) (r : DomainRec) : SameBytes s (s.writeDomain d r) := by
  intro a
  rcases hc : s.mc.poolCode with _ | c
  · rw [State.writeDomain_dram_noPool s d r hc]
  · rw [State.writeDomain_dram s d r hc, Dram.issue_readByte]

/-- A write given to MI is held as `heldAt` says (R185). -/
theorem Dram.issue_persist (s : State) (a : Nat) (bs : List Byte) :
    (s.dram.issue a bs).persist = s.dram.persist ++ [{ address := a, bytes := bs, held := heldAt s a }] := by
  by_cases h : s.dram.selfRefresh.length = 4 <;> simp [Dram.issue, heldAt, h]

theorem issues_writeDomain (s : State) (d : DomainId) (r : DomainRec) {c : PoolCode} (hc : s.mc.poolCode = some c) :
    Issues s (s.writeDomain d r) [domainWrite (s.writeDomain d r) c d] := by
  have hd := State.writeDomain_dram s d r hc
  refine ⟨sameBytes_writeDomain s d r, ?_, ?_, ?_, ?_⟩
  · rw [hd]; rfl
  · rw [hd]; rfl
  · rw [hd]; rfl
  · rw [hd, Dram.issue_persist]; rfl

/-! ## Clearing, counting and decay of a score -/

theorem State.clearScore_latched {s : State} {d : DomainId} (h : (s.domain d).latch = true) :
    s.clearScore d = s.writeDomain d { s.domain d with score := 0, latch := false } := by
  simp [State.clearScore, h]

theorem State.clearScore_unlatched {s : State} {d : DomainId} (h : (s.domain d).latch = false) :
    s.clearScore d = s.setDomain d { s.domain d with score := 0, latch := false } := by
  simp [State.clearScore, h]

theorem domainBecomes_clearScore (s : State) (d : DomainId) :
    DomainBecomes s (s.clearScore d) d { s.domain d with score := 0, latch := false } := by
  cases h : (s.domain d).latch with
  | true => rw [State.clearScore_latched h]; exact domainBecomes_writeDomain s d _
  | false => rw [State.clearScore_unlatched h]; exact domainBecomes_setDomain s d _

theorem onlyChanges_clearScore (s : State) (d : DomainId) : OnlyChanges [.domains, .dram] s (s.clearScore d) := by
  cases h : (s.domain d).latch with
  | true => rw [State.clearScore_latched h]; exact onlyChanges_writeDomain s d _
  | false => rw [State.clearScore_unlatched h]; exact onlyChanges_mono (onlyChanges_setDomain s d _) (by simp)

theorem State.clearScore_dram_unlatched {s : State} {d : DomainId} (h : (s.domain d).latch = false) :
    (s.clearScore d).dram = s.dram := by
  simp [State.clearScore_unlatched h]

theorem sameBytes_clearScore (s : State) (d : DomainId) : SameBytes s (s.clearScore d) := by
  cases h : (s.domain d).latch with
  | true => rw [State.clearScore_latched h]; exact sameBytes_writeDomain s d _
  | false => intro a; rw [State.clearScore_dram_unlatched h]

@[simp] theorem State.clearScore_domain (s : State) (d : DomainId) :
    (s.clearScore d).domain d = { s.domain d with score := 0, latch := false } :=
  (domainBecomes_clearScore s d).1

@[simp] theorem State.countRefusal_domain (s : State) (d : DomainId) :
    (s.countRefusal d).domain d = (s.domain d).scoreUp := by
  by_cases h : (s.domain d).scoreUp.latch = (s.domain d).latch <;>
    simp [State.countRefusal, h, State.setDomain_domain, State.writeDomain_domain]

/-- A decay tick changes each record by its own old value (R36). -/
theorem State.decayTicked_domain (s : State) (d : DomainId) :
    (s.setDomains (smapUpdateBelow closedDomain 1024 decayed s.domains)).domain d = decayed d.toNat (s.domain d) := by
  simp [State.domain, smapGet_updateBelow, d.isLt]

theorem decayed_of_decays {d : Nat} {r : DomainRec} (hd : d ≠ 0) (hs : r.state ≠ .closed) (hl : r.latch = false) :
    decayed d r = { r with score := r.score - 1 } := by
  simp [decayed, hd, hs, hl]

theorem decayed_latched {d : Nat} {r : DomainRec} (hl : r.latch = true) : decayed d r = r := by
  simp [decayed, hl]

theorem decayed_score_le (d : Nat) (r : DomainRec) : (decayed d r).score ≤ r.score := by
  unfold decayed
  split
  · exact Nat.sub_le _ _
  · exact le_refl _

theorem scoreUp_below {r : DomainRec} (h : r.score < 248) : r.scoreUp = { r with score := r.score + 8 } := by
  simp [DomainRec.scoreUp, Config.scoreStep, Config.scoreMax]
  omega

theorem scoreUp_reaches {r : DomainRec} (h : 248 ≤ r.score) : r.scoreUp = { r with score := 256, latch := true } := by
  simp [DomainRec.scoreUp, Config.scoreStep, Config.scoreMax]
  omega

/-! ## The parameters of a frame -/

theorem param16_eq {f pre post : List Byte} {i : Nat} (x : BitVec 16) (hf : f = pre ++ (beBytes 2 x.toNat ++ post))
    (hi : 2 + i = pre.length) : param16 f i = x.toNat :=
  (field_at pre post hf hi).trans (Nat.mod_eq_of_lt x.isLt)

theorem param32_eq {f pre post : List Byte} {i : Nat} (x : BitVec 32) (hf : f = pre ++ (beBytes 4 x.toNat ++ post))
    (hi : 2 + i = pre.length) : param32 f i = x.toNat :=
  (field_at pre post hf hi).trans (Nat.mod_eq_of_lt x.isLt)

/-- The parameter of a message whose body has four bytes. -/
theorem param16_of_four (kind seq : Byte) (x : BitVec 16) : param16 ([kind, seq] ++ beBytes 2 x.toNat) 0 = x.toNat :=
  param16_eq (pre := [kind, seq]) (post := []) x rfl rfl

/-- A domain field above 1,023 names no domain (R23). -/
theorem domainParam_toNat (x : BitVec 16) :
    domainParam x.toNat = if 1023 < x.toNat then none else some (x.setWidth 10) := by
  by_cases h : 1023 < x.toNat
  · rw [if_pos h, domainParam, Config.domainCount, if_neg (by omega)]
  · rw [if_neg h, domainParam, Config.domainCount, if_pos (by omega), BitVec.ofNat_toNat]

/-- A share index field above 255 names no entry (R47). -/
theorem shareParam_toNat (x : BitVec 16) :
    shareParam x.toNat = if 255 < x.toNat then none else some (x.setWidth 8) := by
  by_cases h : 255 < x.toNat
  · rw [if_pos h, shareParam, Config.shareCount, if_neg (by omega)]
  · rw [if_neg h, shareParam, Config.shareCount, if_pos (by omega), BitVec.ofNat_toNat]

/-! ## The checks of a message, and its answer -/

/-- The message is refused with the status of its checks, or leaves the state it leaves when it is taken. -/
def State.refuseOr (s : State) (o : Option Status) (taken : State) : State :=
  match o with
  | some st => s.answer st []
  | none => taken

@[simp] theorem State.refuseOr_some (s : State) (st : Status) (u : State) : s.refuseOr (some st) u = s.answer st [] :=
  rfl

@[simp] theorem State.refuseOr_none (s u : State) : s.refuseOr none u = u := rfl

@[simp] theorem State.refuseOr_ite (s : State) (p : Prop) [Decidable p] (o o' : Option Status) (u : State) :
    s.refuseOr (if p then o else o') u = if p then s.refuseOr o u else s.refuseOr o' u := by
  split <;> rfl

/-- The checks common to the messages that change the tables come before a message's own (R23, R45). -/
theorem State.refuseOr_tableRefusal (s : State) (own : Option Status) (u : State) :
    s.refuseOr (tableRefusal s own) u = s.refuseOr s.tableCheck (s.refuseOr own u) := by
  simp [tableRefusal, State.tableCheck]

/-- A domain message is refused by the common checks, for its domain field, or by its own checks. -/
theorem State.onDomain_eq {s : State} {f : List Byte} {x : BitVec 16} (hx : param16 f 0 = x.toNat)
    {act : DomainId → State} {own : Option Status} {u : State} (hbig : 1023 < x.toNat → own = some .badValue)
    (hact : ¬ 1023 < x.toNat → act (x.setWidth 10) = s.refuseOr own u) :
    s.onDomain f act = s.refuseOr (tableRefusal s own) u := by
  rw [State.refuseOr_tableRefusal, State.onDomain, hx, domainParam_toNat]
  cases s.tableCheck with
  | some st => rfl
  | none =>
    by_cases h : 1023 < x.toNat
    · simp [h, hbig h]
    · simp [h, hact h]

theorem refused_of_refuseOr {s u : State} {f : List Byte} {rest : List (List Byte)} (h : Begins s f rest)
    (hk : (messageLength (kindOf f)).isSome = true) {o : Option Status} {st : Status} (ho : o = some st) :
    Refused s (s.refuseOr o u) f rest st := by
  rw [ho]
  exact refused_of_answer h hk st

@[simp] theorem State.answer_domain (s : State) (st : Status) (results : List Byte) (d : DomainId) :
    (s.answer st results).domain d = s.domain d := by
  simp [State.domain]

theorem answer_cp_of_begins {s u : State} {f : List Byte} {rest : List (List Byte)} (h : Begins s f rest)
    (hk : (messageLength (kindOf f)).isSome = true) (hu : u.cp = s.cp) (st : Status) (results : List Byte) :
    (u.answer st results).cp = answeredCp s.cp f rest st results := by
  obtain ⟨-, -, -, -, hin⟩ := h
  rw [answer_eq u (hu ▸ hin) hk, State.setCp_cp, hu]

/-- A changed state that is answered differs by what has changed and by the control port. -/
theorem onlyChanges_answer {s u : State} {bs : List Block} (hc : OnlyChanges bs s u) (st : Status)
    (results : List Byte) : OnlyChanges (bs ++ [.cp]) s (u.answer st results) :=
  onlyChanges_trans hc ⟨by simp, fun b hb => by cases b <;> simp_all [Block.same]⟩

theorem domainBecomes_answer {s u : State} {d : DomainId} {r : DomainRec} (h : DomainBecomes s u d r) (st : Status)
    (results : List Byte) : DomainBecomes s (u.answer st results) d r := by
  simpa [DomainBecomes] using h

theorem sameBytes_answer {s u : State} (h : SameBytes s u) (st : Status) (results : List Byte) :
    SameBytes s (u.answer st results) := by
  simpa [SameBytes] using h

theorem issues_answer {s u : State} {c : PoolCode} {d : DomainId} (h : Issues s u [domainWrite u c d]) (st : Status)
    (results : List Byte) : Issues s (u.answer st results) [domainWrite (u.answer st results) c d] := by
  simpa [Issues, SameBytes, domainWrite, domainLineOf] using h

/-- A message that changes one domain record writes its persisted record and is answered OK (R22). -/
theorem taken_writeDomain {s : State} {f : List Byte} {rest : List (List Byte)} (h : Begins s f rest)
    (hk : (messageLength (kindOf f)).isSome = true) (d : DomainId) (r : DomainRec) :
    let t := (s.writeDomain d r).answer .ok []
    OnlyChanges [.domains, .dram, .cp] s t ∧ t.cp = answeredCp s.cp f rest .ok [] ∧ DomainBecomes s t d r ∧
      SameBytes s t ∧ ∀ c, s.mc.poolCode = some c → Issues s t [domainWrite t c d] :=
  ⟨onlyChanges_answer (onlyChanges_writeDomain s d r) .ok [], answer_cp_of_begins h hk (by simp) .ok [],
    domainBecomes_answer (domainBecomes_writeDomain s d r) .ok [],
    sameBytes_answer (sameBytes_writeDomain s d r) .ok [],
    fun _ hc => issues_answer (issues_writeDomain s d r hc) .ok []⟩

/-- A cleared score: the record is GOOD, and its persisted record is written if the latch was set (R27). -/
theorem taken_clearScore {s : State} {f : List Byte} {rest : List (List Byte)} (h : Begins s f rest)
    (hk : (messageLength (kindOf f)).isSome = true) (d : DomainId) :
    let t := (s.clearScore d).answer .ok []
    let r := { s.domain d with score := 0, latch := false }
    OnlyChanges [.domains, .dram, .cp] s t ∧ t.cp = answeredCp s.cp f rest .ok [] ∧ DomainBecomes s t d r ∧
      r.standing = .good ∧ SameBytes s t ∧ ((s.domain d).latch = false → t.dram = s.dram) ∧
      ∀ c, (s.domain d).latch = true → s.mc.poolCode = some c → Issues s t [domainWrite t c d] := by
  have hc := onlyChanges_clearScore s d
  refine ⟨onlyChanges_answer hc .ok [], answer_cp_of_begins h hk (hc.2 .cp (by simp)) .ok [],
    domainBecomes_answer (domainBecomes_clearScore s d) .ok [], rfl,
    sameBytes_answer (sameBytes_clearScore s d) .ok [], fun hl => ?_, fun c hl hp => ?_⟩
  · simp [State.clearScore_dram_unlatched hl]
  · rw [State.clearScore_latched hl]
    exact issues_answer (issues_writeDomain s d _ hp) .ok []

/-! ## The checks of the single domain messages -/

/-- The ASSIGN commands are those of KIND 0x10, whose domain is the one they name (R25, R96). -/
theorem State.assigning_eq (s : State) (d : DomainId) :
    s.assigning d = s.te.table.any fun c => (c.phase == .verify || c.phase == .mark) && c.command.code == 0x10 &&
      c.command.domain? == some d := by
  unfold State.assigning
  congr 1
  funext c
  cases c.command <;> simp [Command.code, Command.domain?]

/-- The search over the 256 indices misses no entry (R26). -/
theorem State.ownsShare_iff (s : State) (d : DomainId) :
    s.ownsShare d = true ↔ ∃ i : ShareIx, (s.share i).inUse = true ∧ (s.share i).owner = d := by
  simp only [State.ownsShare, List.any_eq_true, List.mem_range, Bool.and_eq_true, beq_iff_eq]
  constructor
  · rintro ⟨n, -, h⟩
    exact ⟨_, h⟩
  · rintro ⟨i, h⟩
    exact ⟨i.toNat, i.isLt, by simpa using h⟩

/-- DOMAIN_OPEN: the checks in their order, then the record becomes that of an OPEN domain (R24). -/
theorem domainOpen_checked {s : State} {seq : Byte} {x : BitVec 16} {quota : BitVec 32} {rest : List (List Byte)}
    (h : Begins s (0x20 :: ([seq] ++ beBytes 2 x.toNat ++ beBytes 4 quota.toNat)) rest) :
    execDomainOpen s = .next (s.refuseOr (tableRefusal s
      (if 1023 < x.toNat ∨ x.setWidth 10 = (0 : DomainId) ∨ s.tenants < quota.toNat then some .badValue
        else if (s.domain (x.setWidth 10)).state ≠ .closed then some .domainExists else none))
      ((s.writeDomain (x.setWidth 10) (openedDomain quota.toNat)).answer .ok [])) := by
  refine (onMessage_of_begins (kind := 0x20) h rfl rfl _).trans (congrArg _ ?_)
  refine State.onDomain_eq (param16_eq (pre := [0x20, seq]) x rfl rfl) (fun hx => by simp [hx]) fun hx => ?_
  rw [param32_eq (pre := [0x20, seq] ++ beBytes 2 x.toNat) (post := []) quota (by simp) rfl]
  simp [hx, ite_or]

/-- DOMAIN_QUOTA: the checks in their order, then the quota alone changes (R25). -/
theorem domainQuota_checked {s : State} {seq : Byte} {x : BitVec 16} {quota : BitVec 32} {rest : List (List Byte)}
    (h : Begins s (0x21 :: ([seq] ++ beBytes 2 x.toNat ++ beBytes 4 quota.toNat)) rest) :
    execDomainQuota s = .next (s.refuseOr (tableRefusal s
      (if 1023 < x.toNat ∨ x.setWidth 10 = (0 : DomainId) then some .badValue
        else if (s.domain (x.setWidth 10)).state = .closed then some .unknownDomain
        else if s.tenants < quota.toNat then some .badValue
        else if (s.te.table.any fun c => (c.phase == .verify || c.phase == .mark) && c.command.code == 0x10 &&
          c.command.domain? == some (x.setWidth 10)) = true then some .busy
        else if quota.toNat < (s.domain (x.setWidth 10)).held then some .quotaBelowHeld else none))
      ((s.writeDomain (x.setWidth 10) { s.domain (x.setWidth 10) with quota := quota.toNat }).answer .ok [])) := by
  refine (onMessage_of_begins (kind := 0x21) h rfl rfl _).trans (congrArg _ ?_)
  refine State.onDomain_eq (param16_eq (pre := [0x21, seq]) x rfl rfl) (fun hx => by simp [hx]) fun hx => ?_
  rw [param32_eq (pre := [0x21, seq] ++ beBytes 2 x.toNat) (post := []) quota (by simp) rfl, ← State.assigning_eq]
  simp [hx]

/-- DOMAIN_CLOSE: the checks in their order, then the record becomes that of a CLOSED domain (R26). -/
theorem domainClose_checked {s : State} {seq : Byte} {x : BitVec 16} {rest : List (List Byte)}
    (h : Begins s ([0x22, seq] ++ beBytes 2 x.toNat) rest) :
    execDomainClose s = .next (s.refuseOr (tableRefusal s
      (if 1023 < x.toNat ∨ x.setWidth 10 = (0 : DomainId) then some .badValue
        else if (s.domain (x.setWidth 10)).state = .closed then some .unknownDomain
        else if (s.te.table.any fun c => c.command.domain? == some (x.setWidth 10)) = true then some .busy
        else if 0 < (s.domain (x.setWidth 10)).held then some .holdsGranules
        else if s.ownsShare (x.setWidth 10) then some .inUse else none))
      ((s.writeDomain (x.setWidth 10) closedDomain).answer .ok [])) := by
  refine (onMessage_of_begins (kind := 0x22) h rfl rfl _).trans (congrArg _ ?_)
  refine State.onDomain_eq (param16_of_four _ seq x) (fun hx => by simp [hx]) fun hx => ?_
  simp [hx, State.domainNamed]

/-- DOMAIN_CLEAR_SCORE: the checks in their order, then domain 0 stays and any other score is cleared (R20, R27). -/
theorem domainClearScore_checked {s : State} {seq : Byte} {x : BitVec 16} {rest : List (List Byte)}
    (h : Begins s ([0x23, seq] ++ beBytes 2 x.toNat) rest) :
    execDomainClearScore s = .next (s.refuseOr (tableRefusal s
      (if 1023 < x.toNat then some .badValue
        else if (s.domain (x.setWidth 10)).state = .closed then some .unknownDomain else none))
      (if x.setWidth 10 = (0 : DomainId) then s.answer .ok [] else (s.clearScore (x.setWidth 10)).answer .ok [])) := by
  refine (onMessage_of_begins (kind := 0x23) h rfl rfl _).trans (congrArg _ ?_)
  refine State.onDomain_eq (param16_of_four _ seq x) (fun hx => by simp [hx]) fun hx => ?_
  simp [hx]

/-- R27: a score cleared before or after a counted refusal, and before or after a decay tick. -/
theorem clearScore_with_refusal_and_tick (s : State) (d : DomainId) :
    let ticked (s : State) : State := s.setDomains (smapUpdateBelow closedDomain 1024 decayed s.domains)
    (((s.clearScore d).countRefusal d).domain d).score = 8 ∧
      (((s.clearScore d).countRefusal d).domain d).standing = .good ∧
      (((s.countRefusal d).clearScore d).domain d).score = 0 ∧ ((ticked (s.clearScore d)).domain d).score = 0 ∧
      (((ticked s).clearScore d).domain d).score = 0 ∧ (s.clearScore d).vl = s.vl ∧ (s.clearScore d).eu = s.eu := by
  have hc := onlyChanges_clearScore s d
  have hup : ((s.clearScore d).countRefusal d).domain d = { s.domain d with score := 8, latch := false } := by
    rw [State.countRefusal_domain, State.clearScore_domain, scoreUp_below (by simp)]
  refine ⟨by rw [hup], by rw [hup]; rfl, by simp, ?_, by simp, hc.2 .vl (by simp), hc.2 .eu (by simp)⟩
  rw [State.decayTicked_domain, State.clearScore_domain]
  exact Nat.le_zero.1 (decayed_score_le _ _)

/-- Settles O15: each message goes through its checks to a refusal or to the one change of the domain's record. -/
theorem domainOpenQuotaClose : Obligations.DomainOpenQuotaClose := by
  unfold Obligations.DomainOpenQuotaClose
  refine ⟨fun s seq x quota rest => ⟨fun h => ?_, fun h => ?_⟩, fun s seq x rest h => ⟨?_, ?_⟩,
    fun s seq x rest h => ?_, clearScore_with_refusal_and_tick⟩
  · refine ⟨_, domainOpen_checked h, ?_⟩
    split
    · next st ho => exact refused_of_refuseOr h rfl ho
    · next ho => rw [ho]; exact taken_writeDomain h rfl _ _
  · refine ⟨_, domainQuota_checked h, ?_⟩
    split
    · next st ho => exact refused_of_refuseOr h rfl ho
    · next ho => rw [ho]; exact taken_writeDomain h rfl _ _
  · exact (State.ownsShare_iff s _).symm
  · refine ⟨_, domainClose_checked h, ?_⟩
    split
    · next st ho => exact refused_of_refuseOr h rfl ho
    · next ho => rw [ho]; exact taken_writeDomain h rfl _ _
  · refine ⟨_, domainClearScore_checked h, ?_⟩
    split
    · next st ho => exact refused_of_refuseOr h rfl ho
    · next ho =>
      rw [ho, State.refuseOr_none]
      split_ifs with hd
      · exact answered_of_answer h rfl .ok []
      · exact taken_clearScore h rfl _

/-! ## The status messages -/

/-- R28: the record reported of a CLOSED domain is that of a CLOSED record. -/
theorem execDomainStatus_answers {s : State} {seq : Byte} {x : BitVec 16} {rest : List (List Byte)}
    (h : Begins s ([0x24, seq] ++ beBytes 2 x.toNat) rest) :
    execDomainStatus s = .next (if s.mc.mode = .recovering then s.answer .wrongMode []
      else if 1023 < x.toNat then s.answer .badValue []
      else s.answer .ok (domainBytes (x.setWidth 10) (s.domain (x.setWidth 10)).reported s.mc.countsStale)) := by
  refine (onMessage_of_begins (kind := 0x24) h rfl rfl _).trans (congrArg _ ?_)
  rw [param16_of_four, domainParam_toNat]
  by_cases hx : 1023 < x.toNat <;> simp [hx]

/-- R48: the reply carries the entry as it stands, a FREE one with zeros in the absent fields. -/
theorem execShareStatus_answers {s : State} {seq : Byte} {x : BitVec 16} {rest : List (List Byte)}
    (h : Begins s ([0x2A, seq] ++ beBytes 2 x.toNat) rest) :
    execShareStatus s = .next (if s.mc.mode = .recovering then s.answer .wrongMode []
      else if 255 < x.toNat then s.answer .badValue []
      else s.answer .ok (shareBytes (x.setWidth 8) (s.share (x.setWidth 8)) s.mc.countsStale)) := by
  refine (onMessage_of_begins (kind := 0x2A) h rfl rfl _).trans (congrArg _ ?_)
  rw [param16_of_four, shareParam_toNat]
  by_cases hx : 255 < x.toNat <;> simp [hx]

/-- R120: a ticket that no live command holds is refused. -/
theorem execTicketStatus_answers {s : State} {seq : Byte} {k : Ticket} {rest : List (List Byte)}
    (h : Begins s ([0x19, seq] ++ beBytes 2 k.toNat) rest) :
    execTicketStatus s = .next (if s.mc.mode = .recovering then s.answer .wrongMode []
      else (s.cmd k).elim (s.answer .noTicket []) fun c => s.answer .ok c.statusBytes) := by
  refine (onMessage_of_begins (kind := 0x19) h rfl rfl _).trans (congrArg _ ?_)
  rw [param16_of_four, BitVec.ofNat_toNat, BitVec.setWidth_eq]
  cases s.cmd k <;> rfl

theorem execPartStatus_answers {s : State} {seq pad : Byte} {rest : List (List Byte)}
    (h : Begins s [0x4A, seq, pad] rest) : execPartStatus s = .next (s.answer .ok s.partBytes) :=
  onMessage_of_begins (kind := 0x4A) h rfl rfl _

/-- A timer's event outside a reset. -/
theorem onEvent_of_no_reset {s : State} (h : s.mc.inReset = none) (act : State → State) :
    s.onEvent act = .next (act s) := by
  simp [State.onEvent, State.held, h]

theorem execTimestampTick_eq {s : State} (h : s.mc.inReset = none) :
    execTimestampTick s = .next (s.setMc { s.mc with timestamp := s.mc.timestamp + 1 }) :=
  onEvent_of_no_reset h _

/-- The 32-bit timestamp returns to 0 after 4,294,967,295 (R168). -/
theorem timestamp_toNat_succ (t : BitVec 32) :
    (t + 1).toNat = if t.toNat = 4294967295 then 0 else t.toNat + 1 := by
  have := t.isLt
  rw [BitVec.toNat_add]
  split <;> simp <;> omega

/-- The domain number of a reply is the one the message named. -/
theorem toNat_setWidth_of_not_lt {x : BitVec 16} (h : ¬ 1023 < x.toNat) : (x.setWidth 10).toNat = x.toNat := by
  rw [BitVec.toNat_setWidth, Nat.mod_eq_of_lt (by omega)]

/-- Settles O16: each message is refused, or answered with the bytes of what it asks for. -/
theorem statusReplies : Obligations.StatusReplies := by
  unfold Obligations.StatusReplies
  refine ⟨fun s seq x rest h => ⟨_, execDomainStatus_answers h, ?_⟩,
    fun s seq k rest h => ⟨_, execTicketStatus_answers h, ?_⟩,
    fun s seq x rest h => ⟨_, execShareStatus_answers h, ?_⟩,
    fun s seq pad rest h => ⟨_, execPartStatus_answers h, ?_⟩,
    fun s h => ⟨_, execTimestampTick_eq h, onlyChanges_setMc s _, by simp, by simpa using timestamp_toNat_succ _⟩⟩
  · split_ifs with hm hx hc
    · exact refused_of_answer h rfl .wrongMode
    · exact refused_of_answer h rfl .badValue
    · rw [domainBytes, toNat_setWidth_of_not_lt hx, DomainRec.reported, if_pos hc]
      exact answered_of_answer h rfl .ok _
    · rw [domainBytes, toNat_setWidth_of_not_lt hx, DomainRec.reported, if_neg hc]
      exact answered_of_answer h rfl .ok _
  · split_ifs with hm
    · exact refused_of_answer h rfl .wrongMode
    · split
      · next hk =>
        rw [show s.cmd k = none from hk]
        exact refused_of_answer h rfl .noTicket
      · next c hk =>
        rw [show s.cmd k = some c from hk]
        obtain ⟨ticket, command, phase, doneCount, poisonedCount, runs, _ | st⟩ := c
        · exact answered_of_answer h rfl .ok _
        · exact answered_of_answer h rfl .ok _
  · split_ifs with hm hx
    · exact refused_of_answer h rfl .wrongMode
    · exact refused_of_answer h rfl .badValue
    · exact answered_of_answer h rfl .ok _
  · exact answered_of_answer h rfl .ok _

/-! ## The decay tick -/

theorem execDecayTick_eq {s : State} (h : s.mc.inReset = none) (ht : s.mc.decayTimer ≠ none) :
    execDecayTick s = .next ((s.setDomains (smapUpdateBelow closedDomain 1024 decayed s.domains)).setMc
      { s.mc with decayTimer := some s.mc.decayCode }) := by
  rw [execDecayTick, onEvent_of_no_reset h, if_pos (Option.isSome_iff_ne_none.2 ht), Config.domainCount]

/-- R36: among the domains that a tick applies to, one with score 0 keeps it. -/
theorem decayed_eq (d : DomainId) (r : DomainRec) :
    decayed d.toNat r =
      if d ≠ 0 ∧ (r.state = .opened ∨ r.state = .retiring) ∧ 0 < r.score ∧ r.latch = false then
        { r with score := r.score - 1 }
      else r := by
  have hd : d.toNat ≠ 0 ↔ d ≠ 0 := by simp [BitVec.toNat_eq]
  have hs : r.state ≠ .closed ↔ r.state = .opened ∨ r.state = .retiring := by cases r.state <;> simp
  by_cases h0 : r.score = 0
  · have hr : r.score - 1 = r.score := by omega
    simp [decayed, hr, show ¬ 0 < r.score by omega]
  · exact if_congr (by rw [hd, hs]; simp [Nat.pos_of_ne_zero h0]) rfl rfl

/-- Settles O17: the tick changes each record as `decayed` does, and the outcomes with a counted refusal follow from the
score on either side of 248. -/
theorem decayTick : Obligations.DecayTick := by
  unfold Obligations.DecayTick
  refine ⟨fun s h ht => ⟨_, execDecayTick_eq h ht, ?_, by simp, fun d => ?_⟩, fun d r hd hs hl => ?_⟩
  · exact onlyChanges_trans (onlyChanges_setDomains s _) (onlyChanges_setMc _ _)
  · rw [State.setMc_domain, State.decayTicked_domain, decayed_eq]
  · have htick : decayed d r = { r with score := r.score - 1 } := decayed_of_decays hd hs hl
    have hbelow (h : r.score < 248) : decayed d r.scoreUp = { r with score := r.score + 7 } := by
      rw [scoreUp_below h]
      exact decayed_of_decays (r := { r with score := r.score + 8 }) hd hs hl
    have hreach (h : 248 ≤ r.score) : decayed d r.scoreUp = { r with score := 256, latch := true } := by
      rw [scoreUp_reaches h, decayed_latched rfl]
    dsimp only
    refine ⟨fun h1 h2 => ?_, fun h => ?_, fun h => ?_, fun h => ?_⟩
    · have hup : (decayed d r).scoreUp = { r with score := r.score + 7 } := by
        rw [htick, scoreUp_below (by dsimp; omega)]
        congr 1
        dsimp
        omega
      exact ⟨hup, (hbelow (by omega)).trans hup.symm⟩
    · rw [hbelow (by omega), htick, scoreUp_below (by dsimp; omega)]
      simp [h]
    · rw [hreach (by omega), htick, scoreUp_below (by dsimp; omega)]
      simp [h, DomainRec.standing, standingOf]
    · rw [hreach (by omega), htick, scoreUp_reaches (by dsimp; omega)]
      exact ⟨rfl, rfl⟩

end Sys2Proof.Machine

/-! # The share messages and the matching of share entries

As with the domain messages: what a change of one share entry leaves in each part of the state and in what MI is given,
the search for the lowest FREE entry, and then each message through its checks. -/

namespace Sys2Proof.Machine

open Sys2Proof.Safety

/-! ## The share table -/

theorem State.setShare_share (s : State) (i k : ShareIx) (e : ShareEntry) :
    (s.setShare i e).share k = if k = i then e else s.share k := by
  simp [State.setShare, State.share, smapGet_set, BitVec.toNat_inj]

@[simp] theorem State.persistShare_share (s : State) (i k : ShareIx) : (s.persistShare i).share k = s.share k := by
  simp [State.share]

theorem State.writeShare_share (s : State) (i k : ShareIx) (e : ShareEntry) :
    (s.writeShare i e).share k = if k = i then e else s.share k := by
  simp [State.writeShare, State.setShare_share]

theorem shareBecomes_writeShare (s : State) (i : ShareIx) (e : ShareEntry) : ShareBecomes s (s.writeShare i e) i e :=
  ⟨by simp [State.writeShare_share], fun k hk => by simp [State.writeShare_share, hk]⟩

theorem onlyChanges_setShare (s : State) (i : ShareIx) (e : ShareEntry) : OnlyChanges [.shares] s (s.setShare i e) :=
  ⟨by simp, fun b hb => by cases b <;> simp_all [Block.same]⟩

theorem onlyChanges_persistShare (s : State) (i : ShareIx) : OnlyChanges [.dram] s (s.persistShare i) :=
  ⟨by simp, fun b hb => by cases b <;> simp_all [Block.same]⟩

theorem onlyChanges_writeShare (s : State) (i : ShareIx) (e : ShareEntry) :
    OnlyChanges [.shares, .dram] s (s.writeShare i e) :=
  onlyChanges_trans (onlyChanges_setShare s i e) (onlyChanges_persistShare _ i)

/-- The persisted line goes to MI as the entries stand after the change (R4, R44). -/
theorem State.writeShare_dram (s : State) (i : ShareIx) (e : ShareEntry) {c : PoolCode} (hc : s.mc.poolCode = some c) :
    (s.writeShare i e).dram =
      s.dram.issue (shareWrite (s.writeShare i e) c i).1 (shareWrite (s.writeShare i e) c i).2 := by
  simp [State.writeShare, State.persistShare, State.persistShareLine, hc, shareWrite, shareLineOf, State.shareLine,
    shareLineAddress]

theorem State.writeShare_dram_noPool (s : State) (i : ShareIx) (e : ShareEntry) (hc : s.mc.poolCode = none) :
    (s.writeShare i e).dram = s.dram := by
  simp [State.writeShare, State.persistShare, State.persistShareLine, hc]

theorem sameBytes_writeShare (s : State) (i : ShareIx) (e : ShareEntry) : SameBytes s (s.writeShare i e) := by
  intro a
  rcases hc : s.mc.poolCode with _ | c
  · rw [State.writeShare_dram_noPool s i e hc]
  · rw [State.writeShare_dram s i e hc, Dram.issue_readByte]

/-- One write given to MI, and nothing else of DRAM changed (R185). -/
theorem issues_of_dram_issue {s t : State} {w : Nat × List Byte} (h : t.dram = s.dram.issue w.1 w.2) :
    Issues s t [w] :=
  ⟨fun a => by rw [h, Dram.issue_readByte], by rw [h]; rfl, by rw [h]; rfl, by rw [h]; rfl,
    by rw [h, Dram.issue_persist]; rfl⟩

@[simp] theorem State.answer_share (s : State) (st : Status) (results : List Byte) (i : ShareIx) :
    (s.answer st results).share i = s.share i := by
  simp [State.share]

@[simp] theorem shareWrite_answer (s : State) (st : Status) (results : List Byte) (c : PoolCode) (i : ShareIx) :
    shareWrite (s.answer st results) c i = shareWrite s c i := by
  simp [shareWrite, shareLineOf]

/-- A message that changes one share entry writes its persisted record and is answered OK (R44). -/
theorem taken_writeShare {s : State} {f : List Byte} {rest : List (List Byte)} (h : Begins s f rest)
    (hk : (messageLength (kindOf f)).isSome = true) (i : ShareIx) (e : ShareEntry) (results : List Byte) :
    let t := (s.writeShare i e).answer .ok results
    OnlyChanges [.shares, .dram, .cp] s t ∧ t.cp = answeredCp s.cp f rest .ok results ∧ ShareBecomes s t i e ∧
      SameBytes s t ∧ ∀ c, s.mc.poolCode = some c → Issues s t [shareWrite t c i] := by
  refine ⟨onlyChanges_answer (onlyChanges_writeShare s i e) .ok results,
    answer_cp_of_begins h hk (by simp) .ok results, ?_,
    sameBytes_answer (sameBytes_writeShare s i e) .ok results, fun c hc => ?_⟩
  · simpa [ShareBecomes] using shareBecomes_writeShare s i e
  · rw [shareWrite_answer]
    have hd : ((s.writeShare i e).answer .ok results).dram = (s.writeShare i e).dram := by simp
    exact issues_of_dram_issue (hd.trans (State.writeShare_dram s i e hc))

/-! ## The lowest FREE entry -/

theorem State.lowestFreeShare_eq_none_iff (s : State) :
    s.lowestFreeShare = none ↔ ∀ i : ShareIx, (s.share i).inUse = true := by
  simp only [State.lowestFreeShare, Option.map_eq_none_iff, List.find?_range_eq_none, Bool.not_not]
  exact ⟨fun h i => by simpa using h i.toNat i.isLt, fun h n _ => h _⟩

/-- The entry found is FREE, and every entry before it is IN_USE (R46). -/
theorem State.lowestFreeShare_spec {s : State} {i : ShareIx} (h : s.lowestFreeShare = some i) :
    (s.share i).inUse = false ∧ ∀ k < i, (s.share k).inUse = true := by
  simp only [State.lowestFreeShare, Option.map_eq_some_iff, List.find?_range_eq_some, Bool.not_not] at h
  obtain ⟨n, ⟨hfree, hn, hbefore⟩, rfl⟩ := h
  refine ⟨by simpa using hfree, fun k hk => ?_⟩
  have hkn : k.toNat < n := lt_of_lt_of_le (BitVec.lt_def.1 hk) (by simpa using Nat.mod_le n _)
  simpa using hbefore k.toNat hkn

/-! ## SHARE_CREATE and SHARE_DELETE -/

/-- A rights byte above 1 names no rights (R46). -/
theorem rightsOf_eq (b : Byte) :
    rightsOf b = if 1 < b.toNat then none else some (if b = 0 then .ro else .rw) := by
  unfold rightsOf
  split
  · next h => simp [show b = 0 from BitVec.eq_of_toNat_eq h]
  · next h => simp [show b = 1 from BitVec.eq_of_toNat_eq h]
  · next h0 h1 =>
    have hbig : 1 < b.toNat := by
      have hn0 : b.toNat ≠ 0 := h0
      have hn1 : b.toNat ≠ 1 := h1
      omega
    rw [if_pos hbig]

/-- The entry that the fields of SHARE_CREATE give, unless one of them is out of its range (R46). -/
theorem createdEntry_eq {f : List Byte} {seq : Byte} {o p m : BitVec 16} {rights : Byte}
    (hf : f = [0x28, seq] ++ beBytes 2 o.toNat ++ beBytes 2 p.toNat ++ beBytes 2 m.toNat ++ [rights]) :
    createdEntry f =
      if 1023 < o.toNat ∨ 1023 < p.toNat ∨ 1023 < m.toNat ∨ 1 < rights.toNat then none
      else some { inUse := true, owner := o.setWidth 10, pattern := p.setWidth 10, mask := m.setWidth 10,
                  rights := if rights = 0 then .ro else .rw, refcount := 0 } := by
  have hr : param8 f 6 = rights := by rw [hf]; rfl
  rw [createdEntry, param16_eq (pre := [0x28, seq]) o hf rfl,
    param16_eq (pre := [0x28, seq] ++ beBytes 2 o.toNat) p hf rfl,
    param16_eq (pre := [0x28, seq] ++ beBytes 2 o.toNat ++ beBytes 2 p.toNat) m hf rfl, hr, domainParam_toNat,
    domainParam_toNat, domainParam_toNat, rightsOf_eq]
  by_cases ho : 1023 < o.toNat
  · simp [ho]
  by_cases hp : 1023 < p.toNat
  · simp [hp]
  by_cases hm : 1023 < m.toNat
  · simp [hm]
  by_cases hr : 1 < rights.toNat
  · simp [hr]
  · simp [ho, hp, hm, hr]

/-- SHARE_CREATE: the checks in their order, then the lowest FREE entry is taken if there is one (R46). -/
theorem shareCreate_checked {s : State} {seq : Byte} {o p m : BitVec 16} {rights : Byte} {rest : List (List Byte)}
    (h : Begins s ([0x28, seq] ++ beBytes 2 o.toNat ++ beBytes 2 p.toNat ++ beBytes 2 m.toNat ++ [rights]) rest) :
    execShareCreate s = .next (s.refuseOr (tableRefusal s
      (if 1023 < o.toNat ∨ 1023 < p.toNat ∨ 1023 < m.toNat ∨ 1 < rights.toNat then some .badValue
        else if (s.domain (o.setWidth 10)).state ≠ .opened then some .unknownDomain else none))
      (s.lowestFreeShare.elim (s.answer .tableFull []) fun i => (s.writeShare i
        { inUse := true, owner := o.setWidth 10, pattern := p.setWidth 10, mask := m.setWidth 10,
          rights := if rights = 0 then .ro else .rw, refcount := 0 }).answer .ok [i])) := by
  refine (onMessage_of_begins (kind := 0x28) h rfl rfl _).trans (congrArg _ ?_)
  rw [State.refuseOr_tableRefusal, createdEntry_eq rfl]
  cases s.tableCheck with
  | some st => rfl
  | none =>
    by_cases hbad : 1023 < o.toNat ∨ 1023 < p.toNat ∨ 1023 < m.toNat ∨ 1 < rights.toNat
    · simp only [if_pos hbad, State.refuseOr_none, State.refuseOr_some]
    · simp only [if_neg hbad, State.refuseOr_none, State.refuseOr_some, State.refuseOr_ite]
      cases s.lowestFreeShare <;> rfl

/-- SHARE_DELETE: the checks in their order, then the entry becomes FREE (R47). -/
theorem shareDelete_checked {s : State} {seq : Byte} {x : BitVec 16} {rest : List (List Byte)}
    (h : Begins s ([0x29, seq] ++ beBytes 2 x.toNat) rest) :
    execShareDelete s = .next (s.refuseOr (tableRefusal s
      (if 255 < x.toNat ∨ (s.share (x.setWidth 8)).inUse = false then some .badValue
        else if (s.te.table.any fun c => c.command.share? == some (x.setWidth 8)) = true then some .busy
        else if 0 < (s.share (x.setWidth 8)).refcount then some .inUse else none))
      ((s.writeShare (x.setWidth 8) freeEntry).answer .ok [])) := by
  refine (onMessage_of_begins (kind := 0x29) h rfl rfl _).trans (congrArg _ ?_)
  rw [State.refuseOr_tableRefusal, param16_of_four, shareParam_toNat]
  cases s.tableCheck with
  | some st => rfl
  | none =>
    by_cases hx : 255 < x.toNat
    · simp [hx]
    · simp [hx, State.shareNamed]

/-! ## Matching and rights -/

/-- A domain matches where it has the pattern's digit at every place that the mask leaves to it (R40). -/
theorem ShareEntry.covers_iff (e : ShareEntry) (x : DomainId) :
    e.covers x = true ↔ ∀ n < 10, e.mask.getLsbD n = false → x.getLsbD n = e.pattern.getLsbD n := by
  have hdigit (n : Nat) (hn : n < 10) : ((x ^^^ e.pattern) &&& ~~~e.mask).getLsbD n = (0#10).getLsbD n ↔
      (e.mask.getLsbD n = false → x.getLsbD n = e.pattern.getLsbD n) := by
    rw [BitVec.getLsbD_and, BitVec.getLsbD_xor, BitVec.getLsbD_not, BitVec.getLsbD_zero]
    cases e.mask.getLsbD n <;> simp [hn]
  rw [ShareEntry.covers, beq_iff_eq]
  exact ⟨fun h n hn => (hdigit n hn).1 (congrArg (BitVec.getLsbD · n) h),
    fun h => BitVec.eq_of_getLsbD_eq fun n hn => (hdigit n hn).2 (h n hn)⟩

/-- The owner has the rights of the tag alone, a matching domain those of the entry, and any other none (R41). -/
theorem applicableRights_shared (s : State) (x o : DomainId) (r : Rights) (i : ShareIx) :
    (x = o → s.applicableRights x (.shared o r i) = some r) ∧
      (x ≠ o → (s.share i).covers x = true → s.applicableRights x (.shared o r i) = some (s.share i).rights) ∧
      (x ≠ o → (s.share i).covers x = false → s.applicableRights x (.shared o r i) = none) :=
  ⟨fun h => if_pos h, fun h hc => (if_neg h).trans (if_pos hc),
    fun h hc => (if_neg h).trans (if_neg (by simp [hc]))⟩

/-- Settles O18: each message goes through its checks to a refusal or to the one change of the share table, and the
matching is the comparison of unmasked digits. -/
theorem shareCreateAndDelete : Obligations.ShareCreateAndDelete := by
  unfold Obligations.ShareCreateAndDelete
  refine ⟨fun s seq o p m rights rest h => ⟨_, shareCreate_checked h, ?_⟩,
    fun s seq x rest h => ⟨_, shareDelete_checked h, ?_⟩, ShareEntry.covers_iff, fun _ _ _ _ => rfl,
    applicableRights_shared⟩
  · split
    · next st ho => exact refused_of_refuseOr h rfl ho
    · next ho =>
      rw [ho, State.refuseOr_none]
      cases hi : s.lowestFreeShare with
      | none =>
        rw [if_pos ((State.lowestFreeShare_eq_none_iff s).1 hi)]
        exact refused_of_answer h rfl .tableFull
      | some i =>
        obtain ⟨hfree, hbefore⟩ := State.lowestFreeShare_spec hi
        rw [if_neg fun hall => by simp [hall i] at hfree]
        exact ⟨i, hfree, hbefore, taken_writeShare h rfl i _ [i]⟩
  · split
    · next st ho => exact refused_of_refuseOr h rfl ho
    · next ho => rw [ho]; exact taken_writeShare h rfl _ _ []

end Sys2Proof.Machine

/-! # Looking a line up in the tag cache

Each search of a set is tied to the ways it holds: a line stands in one way of a set in order, so what the search finds
first is the only way it could find. Each outcome of a lookup then follows from what the search decides. -/

namespace Sys2Proof.Machine

open Sys2Proof.Safety

/-! ## The ways of a set -/

/-- The line that a way holds, VALID or PENDING (R77). -/
def WayState.line : WayState → Option Nat
  | .empty => none
  | .valid j _ => some j
  | .pending j => some j

theorem setWf_iff (ws : CacheSet) :
    setWf ws ↔ ws.length = 8 ∧ (ws.map Prod.fst).Nodup ∧ (ws.filterMap fun w => w.2.line).Nodup := by
  have hline : (fun w : Nat × WayState => w.2.line) = fun w => match w.2 with
      | .empty => none
      | .valid j _ => some j
      | .pending j => some j := by
    funext ⟨_, st⟩
    cases st <;> rfl
  rw [hline]
  rfl

/-- No line stands in two ways of a set in order (R78). -/
theorem way_unique_of_setWf {ws : CacheSet} (h : setWf ws) {w w' : Nat × WayState} {j : Nat} (hw : w ∈ ws)
    (hw' : w' ∈ ws) (hl : w.2.line = some j) (hl' : w'.2.line = some j) : w = w' := by
  obtain ⟨-, -, hlines⟩ := (setWf_iff ws).1 h
  by_contra hne
  have hapart := List.pairwise_filterMap.1 hlines
  exact @List.Pairwise.forall _ _ _ ⟨fun _ _ hr b hb c hc => (hr c hc b hb).symm⟩ hapart _ hw _ hw' hne j hl j hl' rfl

theorem WayState.isValid_iff {j : Nat} {st : WayState} : st.isValid j = true ↔ ∃ recs, st = .valid j recs := by
  cases st <;> simp [WayState.isValid]

theorem WayState.isPendingFor_iff {j : Nat} {st : WayState} : st.isPendingFor j = true ↔ st = .pending j := by
  cases st <;> simp [WayState.isPendingFor]

/-- The victim is the first way that is not PENDING (R79). -/
theorem CacheSet.victim_append {older newer : CacheSet} {way : Nat} {st : WayState}
    (hold : ∀ w ∈ older, w.2.isPending = true) (hst : st.isPending = false) :
    CacheSet.victim (older ++ (way, st) :: newer) = some way := by
  have hnone : older.find? (fun w => !w.2.isPending) = none := List.find?_eq_none.2 fun w hw => by simp [hold w hw]
  simp [CacheSet.victim, List.find?_append, hnone, hst]

theorem CacheSet.victim_eq_none {ws : CacheSet} (h : ∀ w ∈ ws, w.2.isPending = true) : CacheSet.victim ws = none := by
  simpa [CacheSet.victim] using h

theorem CacheSet.putInPlace_of_not_mem {ws : CacheSet} {way : Nat} {st : WayState} (h : way ∉ ws.map Prod.fst) :
    CacheSet.putInPlace ws way st = ws := by
  have hkeep : ∀ w ∈ ws, (if w.1 = way then (way, st) else w) = w := fun w hw =>
    if_neg fun heq : w.1 = way => h (heq ▸ List.mem_map_of_mem hw)
  exact (List.map_congr_left hkeep).trans (List.map_id' ws)

/-- Where no other way has its number, a way changes in its place and the others stay (R77). -/
theorem CacheSet.putInPlace_append {older newer : CacheSet} {way : Nat} {st st' : WayState}
    (hn : ((older ++ (way, st) :: newer).map Prod.fst).Nodup) :
    CacheSet.putInPlace (older ++ (way, st) :: newer) way st' = older ++ (way, st') :: newer := by
  simp only [List.map_append, List.map_cons, List.nodup_middle, List.nodup_cons, List.mem_append, not_or] at hn
  obtain ⟨⟨hold, hnew⟩, -⟩ := hn
  calc CacheSet.putInPlace (older ++ (way, st) :: newer) way st'
      = CacheSet.putInPlace older way st' ++ (way, st') :: CacheSet.putInPlace newer way st' := by
        simp [CacheSet.putInPlace]
    _ = older ++ (way, st') :: newer := by
        rw [CacheSet.putInPlace_of_not_mem hold, CacheSet.putInPlace_of_not_mem hnew]

@[simp] theorem TagCache.set_putSet (tc : TagCache) (j : Nat) (ws : CacheSet) : (tc.putSet j ws).set j = ws := by
  simp [TagCache.set, TagCache.putSet]

/-! ## What the search of a set finds -/

section
variable {tc : TagCache} {j way : Nat} {line : TagLine}

theorem TagCache.validWay_eq_some (hwf : setWf (tc.set j)) (h : (way, WayState.valid j line) ∈ tc.set j) :
    tc.validWay j = some way := by
  cases hf : (tc.set j).find? fun w => w.2.isValid j with
  | none => exact absurd (WayState.isValid_iff.2 ⟨line, rfl⟩) (List.find?_eq_none.1 hf _ h)
  | some w =>
    obtain ⟨recs, hv⟩ := WayState.isValid_iff.1 (List.find?_some (p := fun w : Nat × WayState => w.2.isValid j) hf)
    have hw := way_unique_of_setWf hwf (List.mem_of_find?_eq_some hf) h (by rw [hv]; rfl) rfl
    rw [TagCache.validWay, hf, hw]
    rfl

theorem TagCache.mem_set_of_validLine (h : tc.validLine j = some line) :
    ∃ way, (way, WayState.valid j line) ∈ tc.set j := by
  obtain ⟨⟨n, st⟩, hw, hl⟩ := List.exists_of_findSome?_eq_some h
  cases st with
  | empty => cases hl
  | pending k => cases hl
  | valid k recs =>
    obtain ⟨rfl, rfl⟩ : k = j ∧ recs = line := by simpa using hl
    exact ⟨n, hw⟩

theorem TagCache.validLine_eq_some (hwf : setWf (tc.set j)) (h : (way, WayState.valid j line) ∈ tc.set j) :
    tc.validLine j = some line := by
  cases hf : tc.validLine j with
  | none =>
    rw [TagCache.validLine, List.findSome?_eq_none_iff] at hf
    simpa using hf _ h
  | some l =>
    obtain ⟨n, hw⟩ := TagCache.mem_set_of_validLine hf
    cases way_unique_of_setWf hwf hw h rfl rfl
    rfl

theorem TagCache.validWay_eq_none (h : ∀ way line, (way, WayState.valid j line) ∉ tc.set j) : tc.validWay j = none := by
  rw [TagCache.validWay, Option.map_eq_none_iff, List.find?_eq_none]
  intro ⟨n, st⟩ hw hv
  obtain ⟨recs, rfl⟩ := WayState.isValid_iff.1 hv
  exact h n recs hw

theorem TagCache.isPending_iff : tc.isPending j = true ↔ ∃ way, (way, WayState.pending j) ∈ tc.set j := by
  simp [TagCache.isPending, WayState.isPendingFor_iff]

/-- What the search decides where no way holds the line VALID (R79). -/
theorem TagCache.find_of_not_valid (h : ∀ way line, (way, WayState.valid j line) ∉ tc.set j) :
    tc.find j = if tc.isPending j then .pending
      else if tc.fills.length < 16 then ((CacheSet.victim (tc.set j)).elim .stall .room)
      else .stall := by
  rw [TagCache.find, TagCache.validWay_eq_none h]
  cases CacheSet.victim (tc.set j) <;> rfl

end

/-! ## The outcomes -/

section
variable {tc : TagCache} {j way : Nat} (party : Party)

theorem TagCache.lookup_of_hit {line : TagLine} (hwf : setWf (tc.set j))
    (h : (way, WayState.valid j line) ∈ tc.set j) : tc.lookup party j = (tc.putValid way j line, some line) := by
  simp [TagCache.lookup, TagCache.find, TagCache.validWay_eq_some hwf h, TagCache.validLine_eq_some hwf h]

theorem TagCache.lookup_of_pending (h : ∀ way line, (way, WayState.valid j line) ∉ tc.set j)
    (hp : ∃ way, (way, WayState.pending j) ∈ tc.set j) : tc.lookup party j = (tc.attach party j, none) := by
  simp [TagCache.lookup, TagCache.find_of_not_valid h, TagCache.isPending_iff.2 hp]

theorem TagCache.lookup_of_room (h : ∀ way line, (way, WayState.valid j line) ∉ tc.set j)
    (hp : ∀ way, (way, WayState.pending j) ∉ tc.set j) (hf : tc.fills.length < 16)
    (hv : CacheSet.victim (tc.set j) = some way) : tc.lookup party j = (tc.allocate party j way, none) := by
  simp [TagCache.lookup, TagCache.find_of_not_valid h, mt TagCache.isPending_iff.1 (not_exists.2 hp), hf, hv]

theorem TagCache.lookup_of_no_room (h : ∀ way line, (way, WayState.valid j line) ∉ tc.set j)
    (hp : ∀ way, (way, WayState.pending j) ∉ tc.set j)
    (hf : 16 ≤ tc.fills.length ∨ CacheSet.victim (tc.set j) = none) :
    tc.lookup party j = ({ tc with stalled := tc.stalled ++ [(party, j)] }, none) := by
  have hfind : tc.find j = .stall := by
    rw [TagCache.find_of_not_valid h, if_neg (mt TagCache.isPending_iff.1 (not_exists.2 hp))]
    rcases hf with hfull | hnone
    · rw [if_neg (Nat.not_lt.2 hfull)]
    · rw [hnone, Option.elim_none, ite_self]
  rw [TagCache.lookup, hfind]

/-- A party whose line is not VALID is given no records: it waits, attached, with a fill of its own or stalled. -/
theorem TagCache.lookup_snd_eq_none (h : ∀ way line, (way, WayState.valid j line) ∉ tc.set j) :
    (tc.lookup party j).2 = none := by
  by_cases hp : ∃ way, (way, WayState.pending j) ∈ tc.set j
  · rw [TagCache.lookup_of_pending party h hp]
  have hp := not_exists.1 hp
  by_cases hf : 16 ≤ tc.fills.length
  · rw [TagCache.lookup_of_no_room party h hp (.inl hf)]
  cases hv : CacheSet.victim (tc.set j) with
  | none => rw [TagCache.lookup_of_no_room party h hp (.inr hv)]
  | some way => rw [TagCache.lookup_of_room party h hp (Nat.not_le.1 hf) hv]

/-- A fill allocated in a way changes that way alone, in its place of the recency order (R77, R79). -/
theorem TagCache.allocate_set {older newer : CacheSet} {st : WayState} (hwf : setWf (tc.set j))
    (hs : tc.set j = older ++ (way, st) :: newer) :
    (tc.allocate party j way).set j = older ++ (way, .pending j) :: newer := by
  obtain ⟨-, hnumbers, -⟩ := hwf
  rw [hs] at hnumbers
  calc (tc.allocate party j way).set j
      = (tc.putSet j (CacheSet.putInPlace (tc.set j) way (.pending j))).set j := rfl
    _ = CacheSet.putInPlace (tc.set j) way (.pending j) := TagCache.set_putSet ..
    _ = older ++ (way, .pending j) :: newer := by rw [hs, CacheSet.putInPlace_append hnumbers]

end

/-- Settles O37: the outcome is read off the ways of the set, in the order VALID, PENDING, room for a fill, neither. -/
theorem lookupOutcomes : Obligations.LookupOutcomes := by
  unfold Obligations.LookupOutcomes
  refine fun tc party j hwf => ⟨fun way line hhit => ?_, fun hmiss => ⟨tc.lookup_snd_eq_none party hmiss, ?_, ?_⟩⟩
  · rw [TagCache.lookup_of_hit party hwf hhit]
    exact ⟨rfl, rfl, rfl, TagCache.set_putSet ..⟩
  · intro hp
    rw [TagCache.lookup_of_pending party hmiss hp]
    rfl
  · refine fun hp => ⟨fun older way st newer hfills hs hold hst => ?_, fun hno => ?_⟩
    · have hv : CacheSet.victim (tc.set j) = some way := by rw [hs, CacheSet.victim_append hold hst]
      rw [TagCache.lookup_of_room party hmiss hp hfills hv]
      exact ⟨TagCache.allocate_set party hwf hs, rfl, rfl⟩
    · rw [TagCache.lookup_of_no_room party hmiss hp (hno.imp_right CacheSet.victim_eq_none)]

end Sys2Proof.Machine

/-! # Bad and silent links, PORT_STATUS and PORT_CLEAR

The laws come first: what setting an event flag and changing one port leave, then which frames of a request link are
valid, then the two port messages. -/

namespace Sys2Proof.Machine

open Sys2Proof.Safety

/-! ## Setting an event flag -/

theorem EventFlag.position_lt (f : EventFlag) : f.position < 12 := by
  cases f <;> decide

/-- The flag at each position of the flag word. -/
def flagsByPosition : List EventFlag :=
  [.logNonempty, .logOverflow, .domainWarned, .domainRestricted, .domainQuarantined, .portALink, .portBLink,
    .portIntegrity, .tagLost, .modeChanged, .watchHit, .dataPoison]

theorem flagsByPosition_position (f : EventFlag) : flagsByPosition[f.position]? = some f := by
  cases f <;> rfl

theorem EventFlag.position_inj {f g : EventFlag} : f.position = g.position ↔ f = g := by
  refine ⟨fun h => ?_, congrArg _⟩
  have hget := flagsByPosition_position f
  rw [h, flagsByPosition_position g] at hget
  exact (Option.some.inj hget).symm

theorem EventFlag.bit_eq_twoPow (f : EventFlag) : f.bit = BitVec.twoPow 12 f.position := rfl

/-- A flag is in a flag set when the bit of its position is. -/
theorem hasFlag_eq_getLsbD (fs : FlagSet) (f : EventFlag) : hasFlag fs f = fs.getLsbD f.position := by
  rw [hasFlag, EventFlag.bit_eq_twoPow, BitVec.and_twoPow]
  have hlt : 2 ^ f.position < 4096 := Nat.pow_lt_pow_right one_lt_two f.position_lt
  cases fs.getLsbD f.position with
  | true => simp [BitVec.toNat_eq, Nat.mod_eq_of_lt hlt]
  | false => simp

/-- A flag joined to a flag set is in it, and every other flag is as it was. -/
theorem hasFlag_or_bit (fs : FlagSet) (f g : EventFlag) :
    hasFlag (fs ||| f.bit) g = (hasFlag fs g || decide (g = f)) := by
  have hbit : (BitVec.twoPow 12 f.position).getLsbD g.position = decide (g = f) := by
    simp [BitVec.getLsbD_twoPow, EventFlag.position_inj, f.position_lt, eq_comm]
  rw [hasFlag_eq_getLsbD, hasFlag_eq_getLsbD, EventFlag.bit_eq_twoPow, BitVec.getLsbD_or, hbit]

/-- Setting a flag sets it in EU, or finds it set there (R163). -/
theorem flagsSet_setFlag (s : State) (f : EventFlag) : FlagsSet s (s.setFlag f) [f] := by
  unfold State.setFlag
  split_ifs with hset hnotice
  · refine ⟨rfl, fun g => ?_⟩
    by_cases hg : g = f <;> simp [hg, hset]
  · exact ⟨by simp, fun g => by simp [hasFlag_or_bit]⟩
  · exact ⟨by simp, fun g => by simp [hasFlag_or_bit]⟩

theorem flagsSet_of_eu_eq {s t u : State} {fs : List EventFlag} (hu : u.eu = s.eu) (h : FlagsSet u t fs) :
    FlagsSet s t fs := by
  rwa [FlagsSet, hu] at h

theorem onlyChanges_setFlag (s : State) (f : EventFlag) : OnlyChanges [.eu, .cp] s (s.setFlag f) :=
  ⟨by simp, fun b hb => by cases b <;> simp_all [Block.same]⟩

@[simp] theorem State.setFlag_port (s : State) (f : EventFlag) (p : Port) : (s.setFlag f).port p = s.port p := by
  cases p <;> simp

/-! ## Changing one port -/

theorem onlyChanges_updatePort (s : State) (p : Port) (f : PortRec → PortRec) :
    OnlyChanges [portBlock p] s (s.updatePort p f) := by
  refine ⟨by simp, fun b hb => ?_⟩
  rw [List.mem_singleton] at hb
  cases b with
  | portA => exact s.updatePort_port_ne (q := .a) (fun hp => hb (congrArg portBlock hp)) f
  | portB => exact s.updatePort_port_ne (q := .b) (fun hp => hb (congrArg portBlock hp)) f
  | _ => simp [Block.same]

@[simp] theorem State.answer_port (s : State) (st : Status) (results : List Byte) (p : Port) :
    (s.answer st results).port p = s.port p := by
  cases p <;> simp

/-- A message that changes one port record and is answered OK. -/
theorem taken_updatePort {s : State} {f : List Byte} {rest : List (List Byte)} (h : Begins s f rest)
    (hk : (messageLength (kindOf f)).isSome = true) (p : Port) (g : PortRec → PortRec) :
    let t := (s.updatePort p g).answer .ok []
    OnlyChanges [portBlock p, .cp] s t ∧ t.cp = answeredCp s.cp f rest .ok [] ∧ t.port p = g (s.port p) :=
  ⟨onlyChanges_answer (onlyChanges_updatePort s p g) .ok [], answer_cp_of_begins h hk (by simp) .ok [], by simp⟩

/-- Counting against a link adds 1 to its integrity count, which stays at 255 (R144). -/
@[simp] theorem State.countIntegrity_port (s : State) (p : Port) :
    (s.countIntegrity p).port p = { s.port p with integrity := min ((s.port p).integrity + 1) 255 } := by
  simp [State.countIntegrity, satInc, Config.maxIntegrity]

theorem onlyChanges_countIntegrity (s : State) (p : Port) :
    OnlyChanges [portBlock p, .eu, .cp] s (s.countIntegrity p) :=
  onlyChanges_trans (onlyChanges_updatePort s p _) (onlyChanges_setFlag _ _)

theorem flagsSet_countIntegrity (s : State) (p : Port) : FlagsSet s (s.countIntegrity p) [.portIntegrity] :=
  flagsSet_of_eu_eq (State.updatePort_eu ..) (flagsSet_setFlag _ _)

/-! ## The frames of a request link -/

theorem execIdle_up {s : State} {p : Port} (h : s.mc.inReset = none) (hup : (s.port p).link = .up) :
    exec (.idle p) s = .next (s.updatePort p PortRec.restartTimer) := by
  rw [exec, execIdle, onEvent_of_no_reset h, if_pos hup]

theorem execIdle_not_up {s : State} {p : Port} (h : s.mc.inReset = none) (hup : (s.port p).link ≠ .up) :
    exec (.idle p) s = .next s := by
  rw [exec, execIdle, onEvent_of_no_reset h, if_neg hup]

theorem execBadLinkFrame_up {s : State} {p : Port} {bytes : List Byte} (h : s.mc.inReset = none)
    (hbad : peerFrameValid bytes = false) (hup : (s.port p).link = .up) :
    exec (.badLinkFrame p bytes) s = .next (s.countIntegrity p) := by
  rw [exec, execBadLinkFrame, onEvent_of_no_reset h, if_pos ⟨hup, hbad⟩]

theorem execBadLinkFrame_not_up {s : State} {p : Port} {bytes : List Byte} (h : s.mc.inReset = none)
    (hup : (s.port p).link ≠ .up) : exec (.badLinkFrame p bytes) s = .next s := by
  rw [exec, execBadLinkFrame, onEvent_of_no_reset h, if_neg fun hc => hup hc.1]

/-- The kinds of frame that a peer sends, with their lengths (Request-link frames). -/
def peerKinds : List (Byte × Nat) := [(1, 11), (2, 75), (3, 5), (4, 3)]

theorem peerFrameLength_eq_some_iff {kind : Byte} {n : Nat} :
    peerFrameLength kind = some n ↔ (kind, n) ∈ peerKinds := by
  unfold peerFrameLength
  split <;> simp_all [peerKinds, BitVec.toNat_eq] <;> omega

theorem peerFrameValid_cons_iff {kind : Byte} {tail : List Byte} :
    peerFrameValid (kind :: tail) = true ↔ (kind, (kind :: tail).length) ∈ peerKinds ∧
      (kind :: tail).drop ((kind :: tail).length - 2) = crcBytes ((kind :: tail).take ((kind :: tail).length - 2)) := by
  rw [peerFrameValid, Bool.and_eq_true, decide_eq_true_iff, beq_iff_eq, peerFrameLength_eq_some_iff]

/-- Two bytes close a frame of a known kind and of its length when they are the check of the bytes before them. -/
theorem peerFrameValid_closed_iff {kind : Byte} {body : List Byte} (hk : (kind, body.length + 3) ∈ peerKinds)
    (high low : Byte) :
    peerFrameValid (kind :: body ++ [high, low]) = true ↔ crcBytes (kind :: body) = [high, low] := by
  have hlen : (kind :: (body ++ [high, low])).length = body.length + 3 := by simp
  have hat : body.length + 3 - 2 = (kind :: body).length := by simp
  rw [List.cons_append, peerFrameValid_cons_iff, hlen, hat, ← List.cons_append, List.drop_left, List.take_left]
  exact ⟨fun h => h.2.symm, fun h => ⟨hk, h.symm⟩⟩

theorem mem_peerKinds_of_valid {bytes : List Byte} (h : peerFrameValid bytes = true) :
    (bytes.headD 0, bytes.length) ∈ peerKinds := by
  cases bytes with
  | nil => exact absurd h Bool.false_ne_true
  | cons kind tail => exact (peerFrameValid_cons_iff.1 h).1

/-- Settles O26: IDLE and a bad frame by the state of the link, and the validity of a frame by its kind, its length and
its check. -/
theorem idleAndBadFrames : Obligations.IdleAndBadFrames := by
  unfold Obligations.IdleAndBadFrames
  refine ⟨fun s p bytes hr hbad => ⟨fun hdown => ?_, fun hup => ⟨?_, ?_⟩⟩, ?_,
    fun _ => mem_peerKinds_of_valid⟩
  · exact ⟨execIdle_not_up hr hdown, execBadLinkFrame_not_up hr hdown⟩
  · exact ⟨_, execIdle_up hr hup, onlyChanges_updatePort s p _, State.updatePort_port ..⟩
  · exact ⟨_, execBadLinkFrame_up hr hbad hup, onlyChanges_countIntegrity s p, State.countIntegrity_port s p,
      flagsSet_countIntegrity s p⟩
  · rintro ⟨kind, n⟩ hk body rfl
    exact peerFrameValid_closed_iff hk

/-! ## PORT_STATUS and PORT_CLEAR -/

/-- A selector other than 0 and 1 names no port (R155, R156). -/
theorem portOf_eq (b : Byte) :
    portOf b = if b ≠ 0 ∧ b ≠ 1 then none else some (if b = 0 then Port.a else Port.b) := by
  unfold portOf
  split <;> simp_all [BitVec.toNat_eq]

/-- A byte above 1 is neither yes nor no (the code tables). -/
theorem yesNoOf_eq (b : Byte) : yesNoOf b = if 1 < b.toNat then none else some (decide (b = 1)) := by
  unfold yesNoOf
  split <;> simp_all [BitVec.toNat_eq]
  omega

theorem execPortStatus_answers {s : State} {seq sel : Byte} {rest : List (List Byte)}
    (h : Begins s [0x41, seq, sel] rest) :
    execPortStatus s = .next (if s.mc.mode = .recovering then s.answer .wrongMode []
      else if sel ≠ 0 ∧ sel ≠ 1 then s.answer .badPort []
      else s.answer .ok (if sel = 0 then s.portA else s.portB).statusBytes) := by
  refine (onMessage_of_begins (kind := 0x41) h rfl rfl _).trans (congrArg _ ?_)
  rw [show param8 [0x41, seq, sel] 0 = sel from rfl, portOf_eq]
  by_cases hsel : sel ≠ 0 ∧ sel ≠ 1
  · rw [if_pos hsel, if_pos hsel]
  · rw [if_neg hsel, if_neg hsel, ← State.port_a, ← State.port_b, ← apply_ite s.port]

/-- PORT_CLEAR: the checks in their order, then the record of the named port alone changes (R156). -/
theorem execPortClear_answers {s : State} {seq sel integrity reason : Byte} {rest : List (List Byte)}
    (h : Begins s [0x42, seq, sel, integrity, reason] rest) :
    execPortClear s = .next (if s.mc.mode = .recovering then s.answer .wrongMode []
      else if sel ≠ 0 ∧ sel ≠ 1 then s.answer .badPort []
      else if 1 < integrity.toNat ∨ 1 < reason.toNat then s.answer .badValue []
      else (s.updatePort (if sel = 0 then .a else .b) fun r =>
        r.clear (decide (integrity = 1)) (decide (reason = 1))).answer .ok []) := by
  refine (onMessage_of_begins (kind := 0x42) h rfl rfl _).trans (congrArg _ ?_)
  rw [show param8 [0x42, seq, sel, integrity, reason] 0 = sel from rfl,
    show param8 [0x42, seq, sel, integrity, reason] 1 = integrity from rfl,
    show param8 [0x42, seq, sel, integrity, reason] 2 = reason from rfl, portOf_eq, yesNoOf_eq, yesNoOf_eq]
  by_cases hsel : sel ≠ 0 ∧ sel ≠ 1
  · rw [if_pos hsel, if_pos hsel]
  · rw [if_neg hsel, if_neg hsel]
    by_cases hi : 1 < integrity.toNat <;> by_cases hr : 1 < reason.toNat <;> simp [hi, hr]

/-- R155: the last three bytes of a status are numbers of entries: all, the orphans, and the FORWARDED ones. -/
theorem PortRec.statusBytes_eq (r : PortRec) :
    r.statusBytes = [boolByte r.enabled, r.link.code, BitVec.ofNat 8 r.tagLimit, boolByte r.poison, r.origin.code,
      boolByte r.apertureOn] ++ beBytes 4 r.apertureFirst ++ beBytes 4 r.apertureLast ++ [boolByte r.watchOn] ++
      beBytes 4 r.watchGranule ++ [BitVec.ofNat 8 r.timeoutCode, BitVec.ofNat 8 r.integrity, r.lastReason.code,
        BitVec.ofNat 8 r.table.length, BitVec.ofNat 8 (r.table.countP fun e => e.orphan),
        BitVec.ofNat 8 (r.table.countP fun e => decide (e.stage = .forwarded))] := by
  rw [List.countP_eq_length_filter, List.countP_eq_length_filter]
  rfl

theorem PortRec.clear_decide (r : PortRec) (integrity reason : Byte) :
    r.clear (decide (integrity = 1)) (decide (reason = 1)) = { r with
      integrity := if integrity = 1 then 0 else r.integrity
      lastReason := if reason = 1 then .none else r.lastReason } := by
  simp only [PortRec.clear, decide_eq_true_eq]

/-- R156: an integrity count that rises before a PORT_CLEAR or after it, with the flag that neither clears. -/
theorem clear_with_countIntegrity (s : State) (p : Port) (reason : Bool) :
    let cleared (s : State) : State := s.updatePort p fun r => r.clear true reason
    ((cleared s).countIntegrity p).port p = { (cleared s).port p with integrity := 1 } ∧
      ((cleared (s.countIntegrity p)).port p).integrity = 0 ∧
      hasFlag (cleared (s.countIntegrity p)).eu.flags .portIntegrity = true := by
  obtain ⟨-, hflags⟩ := flagsSet_countIntegrity s p
  exact ⟨by simp [PortRec.clear], by simp [PortRec.clear], by simp [hflags]⟩

/-- Settles O29: each message goes through its checks to a refusal or to its reply, and a clear leaves the count where
the order of the clear and the rise says. -/
theorem portStatusAndClear : Obligations.PortStatusAndClear := by
  unfold Obligations.PortStatusAndClear
  refine ⟨fun s seq sel rest h => ⟨_, execPortStatus_answers h, ?_⟩,
    fun s seq sel integrity reason rest h => ⟨_, execPortClear_answers h, ?_⟩, clear_with_countIntegrity⟩
  · rw [← PortRec.statusBytes_eq]
    generalize (if sel = 0 then s.portA else s.portB) = r
    split_ifs with hm hsel
    · exact refused_of_answer h rfl .wrongMode
    · exact refused_of_answer h rfl .badPort
    · exact answered_of_answer h rfl .ok _
  · rw [← PortRec.clear_decide]
    generalize (if sel = 0 then Port.a else Port.b) = p
    split_ifs with hm hsel hbad
    · exact refused_of_answer h rfl .wrongMode
    · exact refused_of_answer h rfl .badPort
    · exact refused_of_answer h rfl .badValue
    · exact taken_updatePort h rfl p _

end Sys2Proof.Machine

/-! # LOG_READ, LOG_CONTROL and the bytes of a log record

The laws come first: what replacing the log leaves, then what each message answers, then the carried bytes. -/

namespace Sys2Proof.Machine

open Sys2Proof.Safety

/-! ## The messages of the log -/

theorem onlyChanges_setVl (s : State) (l : Log) : OnlyChanges [.vl] s (s.setVl l) :=
  ⟨by simp, fun b hb => by cases b <;> simp_all [Block.same]⟩

/-- A message that replaces the log and is answered OK: no flag is among what changes. -/
theorem taken_setVl {s : State} {f : List Byte} {rest : List (List Byte)} (h : Begins s f rest)
    (hk : (messageLength (kindOf f)).isSome = true) (l : Log) (results : List Byte) :
    let t := (s.setVl l).answer .ok results
    OnlyChanges [.vl, .cp] s t ∧ t.vl = l ∧ t.cp = answeredCp s.cp f rest .ok results :=
  ⟨onlyChanges_answer (onlyChanges_setVl s l) .ok results, by simp, answer_cp_of_begins h hk (by simp) .ok results⟩

/-- The results of a LOG_READ reply that takes the oldest `n` records: their number, the records, the number left, the
latches and the missed count (R161). -/
def Log.readBytes (l : Log) (n : Nat) : List Byte :=
  let out := l.records.take n
  let left := l.records.drop n
  [BitVec.ofNat 8 out.length] ++ out.flatMap LogRec.carried ++
    [BitVec.ofNat 8 left.length, boolByte l.overflow, boolByte l.frozen] ++ beBytes 2 l.missed

/-- LOG_READ: the checks in their order, then the oldest records leave the log (R161). -/
theorem execLogRead_answers {s : State} {seq n : Byte} {rest : List (List Byte)} (h : Begins s [0x38, seq, n] rest) :
    execLogRead s = .next (if s.mc.mode = .recovering then s.answer .wrongMode []
      else if n = 0 ∨ 4 < n.toNat then s.answer .badValue []
      else (s.setVl { s.vl with records := s.vl.records.drop n.toNat }).answer .ok (s.vl.readBytes n.toNat)) := by
  have hn : n.toNat < 1 ↔ n = 0 := by simp [BitVec.toNat_eq]
  refine (onMessage_of_begins (kind := 0x38) h rfl rfl _).trans (congrArg _ ?_)
  rw [show param8 [0x38, seq, n] 0 = n from rfl]
  simp [hn, Log.readBytes, Log.tailBytes]

/-- A byte above 2 is no setting of the hold, and 0 keeps the setting (R162). -/
theorem holdOf_eq (b : Byte) :
    holdOf b = if 2 < b.toNat then none else some (if b = 0 then none else some (decide (b = 1))) := by
  unfold holdOf
  split <;> simp_all [BitVec.toNat_eq]
  omega

/-- The log after a LOG_CONTROL of the four bytes (R162). -/
def Log.controlled (l : Log) (overflow hold unfreeze missed : Byte) : Log :=
  { l with overflow := l.overflow && decide (overflow = 0)
           hold := if hold = 0 then l.hold else decide (hold = 1)
           frozen := l.frozen && decide (unfreeze = 0)
           missed := if missed = 1 then 0 else l.missed }

theorem decide_eq_zero_of_yesNo {b : Byte} (hb : ¬ 1 < b.toNat) : decide (b = 0) = !decide (b = 1) := by
  have h : b = 0 ↔ ¬ b = 1 := by simp [BitVec.toNat_eq]; omega
  rw [decide_eq_decide.2 h, decide_not]

theorem Log.control_eq_controlled (l : Log) {overflow unfreeze : Byte} (hold missed : Byte)
    (ho : ¬ 1 < overflow.toNat) (hu : ¬ 1 < unfreeze.toNat) :
    l.control (decide (overflow = 1)) (if hold = 0 then none else some (decide (hold = 1))) (decide (unfreeze = 1))
      (decide (missed = 1)) = l.controlled overflow hold unfreeze missed := by
  simp only [Log.control, Log.controlled, decide_eq_zero_of_yesNo ho, decide_eq_zero_of_yesNo hu, decide_eq_true_eq,
    apply_ite (fun o : Option Bool => o.getD l.hold), Option.getD_none, Option.getD_some]

/-- LOG_CONTROL: the checks in their order, then the log is set and reported as it then stands (R162). -/
theorem execLogControl_answers {s : State} {seq overflow hold unfreeze missed : Byte} {rest : List (List Byte)}
    (h : Begins s [0x39, seq, overflow, hold, unfreeze, missed] rest) :
    execLogControl s = .next (if s.mc.mode = .recovering then s.answer .wrongMode []
      else if 1 < overflow.toNat ∨ 2 < hold.toNat ∨ 1 < unfreeze.toNat ∨ 1 < missed.toNat then s.answer .badValue []
      else (s.setVl (s.vl.controlled overflow hold unfreeze missed)).answer .ok
        (s.vl.controlled overflow hold unfreeze missed).controlBytes) := by
  refine (onMessage_of_begins (kind := 0x39) h rfl rfl _).trans (congrArg _ ?_)
  let f : List Byte := [0x39, seq, overflow, hold, unfreeze, missed]
  rw [show param8 f 0 = overflow from rfl, show param8 f 1 = hold from rfl, show param8 f 2 = unfreeze from rfl,
    show param8 f 3 = missed from rfl, yesNoOf_eq, holdOf_eq, yesNoOf_eq, yesNoOf_eq]
  by_cases ho : 1 < overflow.toNat
  · simp [ho]
  by_cases hh : 2 < hold.toNat
  · simp [ho, hh]
  by_cases hu : 1 < unfreeze.toNat
  · simp [ho, hh, hu]
  by_cases hm : 1 < missed.toNat
  · simp [ho, hh, hu, hm]
  simp [ho, hh, hu, hm, ← Log.control_eq_controlled s.vl hold missed ho hu]

/-! ## The bytes of a log record -/

/-- The kind, the presence, the fields of the kind, the timestamp and the superseded count, present unless 0 (R157,
R159). -/
theorem LogRec.carried_eq (e : LogEvent) (ts : BitVec 32) (sup : BitVec 16) :
    LogRec.carried { event := e, timestamp := ts, superseded := sup.toNat } =
      [e.carried.1] ++ beBytes 2 (e.carried.2.1 + if sup = 0 then 0 else 0x200) ++ e.carried.2.2 ++
        (beBytes 4 ts.toNat ++ beBytes 2 sup.toNat) := by
  simp [LogRec.carried, BitVec.toNat_eq]

/-- Whatever its kind, an event has 13 bytes between the presence and the timestamp (R157). -/
theorem LogEvent.carried_length (e : LogEvent) : e.carried.2.2.length = 13 := by
  cases e <;> simp [LogEvent.carried]

theorem LogRec.carried_length (r : LogRec) : r.carried.length = 22 := by
  simp [LogRec.carried, LogEvent.carried_length]

/-- Settles O31: each message goes through its checks to a refusal or to the log it leaves, and the bytes of a record
are those of its event between the presence and the timestamp. -/
theorem logMessages : Obligations.LogMessages := by
  unfold Obligations.LogMessages
  refine ⟨⟨fun s seq n rest h => ⟨_, execLogRead_answers h, ?_⟩,
    fun s seq overflow hold unfreeze missed rest h => ⟨_, execLogControl_answers h, ?_⟩⟩,
    fun p d g l op r served seen st ts sup => ⟨fun e => LogRec.carried_length _, ?_⟩⟩
  · split_ifs with hm hn
    · exact refused_of_answer h rfl .wrongMode
    · exact refused_of_answer h rfl .badValue
    · exact taken_setVl h rfl _ _
  · split
    · exact refused_of_answer h rfl .wrongMode
    split
    · exact refused_of_answer h rfl .badValue
    · exact taken_setVl h rfl _ _
  · simp only [LogRec.carried_eq, ← BitVec.ofNat_toNat]
    cases seen <;> exact ⟨rfl, rfl, rfl, rfl, rfl, rfl⟩

end Sys2Proof.Machine

/-! # What every step keeps

One relation between two states says that the second keeps each condition that the first meets. It is reflexive and
transitive, every operation of the model is proved to stand in it once, and a row is a chain of operations. -/

namespace Sys2Proof.Machine

open Sys2Proof.Safety

/-- The part of `scrubberWf` that holds between the operations of a step too. -/
def writeWf (s : State) : Prop :=
  recoveryWf s ∧ modeWf s ∧ ∀ x, s.su.write = some x → x.completed + x.inFlight.length ≤ 64

/-- Every condition but that on the capacities is kept, in the form in which it holds within a step. -/
structure KeepsOrder (s t : State) : Prop where
  pending : t.pending = s.pending := by simp
  memory : memoryWf s.dram.mem = true → memoryWf t.dram.mem = true := by simp
  cache : cacheWf s.tc → cacheWf t.tc := by simp
  domains : domainsWf s → domainsWf t := by simp [domainsWf, State.domain]
  notices : noticesWf s → noticesWf t := by simp [noticesWf, recoveryWf, State.cmd]
  writes : writeWf s → writeWf t := by simp [writeWf, recoveryWf, modeWf]

/-- Every condition is kept, in the form in which it holds within a step. -/
structure Keeps (s t : State) : Prop extends KeepsOrder s t where
  capacity : withinCapacity s → withinCapacity t := by simp [withinCapacity, ControlPort.placesUsed]

theorem KeepsOrder.trans {s t u : State} (h : KeepsOrder s t) (k : KeepsOrder t u) : KeepsOrder s u where
  pending := k.pending.trans h.pending
  memory := k.memory ∘ h.memory
  cache := k.cache ∘ h.cache
  domains := k.domains ∘ h.domains
  notices := k.notices ∘ h.notices
  writes := k.writes ∘ h.writes

theorem Keeps.refl (s : State) : Keeps s s where

theorem Keeps.trans {s t u : State} (h : Keeps s t) (k : Keeps t u) : Keeps s u where
  toKeepsOrder := h.toKeepsOrder.trans k.toKeepsOrder
  capacity := k.capacity ∘ h.capacity

theorem Keeps.foldl {β : Type} {f : State → β → State} (h : ∀ s b, Keeps s (f s b)) (l : List β) (s : State) :
    Keeps s (l.foldl f s) := by
  induction l generalizing s with
  | nil => exact Keeps.refl s
  | cons b l ih => exact (h s b).trans (ih _)

/-! ## The updates of one block -/

theorem setDram_keeps (s : State) (d : Dram) (h : memoryWf s.dram.mem = true → memoryWf d.mem = true) :
    Keeps s (s.setDram d) where
  memory := by simpa using h

theorem setShares_keeps (s : State) (x : SMap ShareEntry) : Keeps s (s.setShares x) where

theorem setDomains_keeps (s : State) (x : SMap DomainRec) (h : domainsWf s → domainsWf (s.setDomains x)) :
    Keeps s (s.setDomains x) where
  domains := h

theorem setVl_keeps (s : State) (x : Log) (h : s.vl.records.length ≤ 32 → x.records.length ≤ 32) :
    Keeps s (s.setVl x) where
  capacity := by simp +contextual [withinCapacity, ControlPort.placesUsed, h]

end Sys2Proof.Machine

namespace Sys2Proof.Machine

open Sys2Proof.Safety

/-- What a change of the tag cache has to keep. -/
structure CacheKeeps (x y : TagCache) : Prop where
  order : cacheWf x → cacheWf y
  fills : x.fills.length ≤ 16 → y.fills.length ≤ 16
  writes : x.writes.length ≤ 32 → y.writes.length ≤ 32

theorem setTc_keeps (s : State) (x : TagCache) (h : CacheKeeps s.tc x) : Keeps s (s.setTc x) where
  cache := h.order
  capacity := by simp +contextual [withinCapacity, ControlPort.placesUsed, h.fills, h.writes]

/-- The scrubber's runs and its write granule stay within their bounds. -/
theorem setSu_keeps (s : State) (x : Scrubber) (hr : s.su.runs.length ≤ 64 → x.runs.length ≤ 64)
    (hw : (∀ y, s.su.write = some y → y.completed + y.inFlight.length ≤ 64) →
      ∀ y, x.write = some y → y.completed + y.inFlight.length ≤ 64) : Keeps s (s.setSu x) where
  writes := by simp +contextual [writeWf, recoveryWf, modeWf]; grind
  capacity := by simp +contextual [withinCapacity, ControlPort.placesUsed, hr]

/-- A change of the mode controller that leaves the mode, its pending target and its origin, and any reset or recovery
as they are. -/
structure SameMode (x y : ModeController) : Prop where
  mode : y.mode = x.mode := by rfl
  target : y.pendingTarget = x.pendingTarget := by rfl
  origin : y.suspendOrigin = x.suspendOrigin := by rfl
  recovery : y.recovery = x.recovery := by rfl
  inReset : y.inReset = x.inReset := by rfl

theorem setMc_keeps_of_same (s : State) (x : ModeController) (h : SameMode s.mc x) : Keeps s (s.setMc x) where
  domains := by simp [domainsWf, State.domain, h.recovery]
  notices := by simp [noticesWf, recoveryWf, State.cmd, h.mode, h.target, h.recovery, h.inReset]
  writes := by simp [writeWf, recoveryWf, modeWf, h.mode, h.target, h.origin, h.recovery, h.inReset]

theorem setPort_keeps (s : State) (p : Port) (x : PortRec) (h : portWf (s.port p) → portWf x) :
    Keeps s (s.setPort p x) := by
  cases p <;> exact
    { capacity := by simp +contextual [withinCapacity, ControlPort.placesUsed, State.setPort]; simp_all [State.port] }

theorem updatePort_keeps (s : State) (p : Port) (f : PortRec → PortRec) (h : portWf (s.port p) → portWf (f (s.port p))) :
    Keeps s (s.updatePort p f) := setPort_keeps s p _ h

/-! ## MI's writes of persisted records -/

theorem persistDomainLine_keeps (s : State) (k : Nat) : Keeps s (s.persistDomainLine k) := by
  unfold State.persistDomainLine
  split
  · exact Keeps.refl s
  · exact setDram_keeps _ _ (by simp)

theorem persistShareLine_keeps (s : State) (k : Nat) : Keeps s (s.persistShareLine k) := by
  unfold State.persistShareLine
  split
  · exact Keeps.refl s
  · exact setDram_keeps _ _ (by simp)

theorem persistHeader_keeps (s : State) (c : PoolCode) (b : Bool) : Keeps s (s.persistHeader c b) :=
  setDram_keeps _ _ (by simp)

theorem writeShare_keeps (s : State) (i : ShareIx) (e : ShareEntry) : Keeps s (s.writeShare i e) :=
  (setShares_keeps s _).trans (persistShareLine_keeps _ _)

theorem freeShares_keeps (s : State) (d : DomainId) : Keeps s (s.freeShares d) :=
  Keeps.foldl (fun s i => by
    dsimp only
    split
    · exact writeShare_keeps s _ _
    · exact Keeps.refl s) _ s

/-! ## The domain table -/

/-- A domain's record becomes one within the bounds, and domain 0's one that is OPEN with score 0. -/
theorem setDomain_keeps (s : State) (d : DomainId) (r : DomainRec) (h : domainsWf s → scoreWf r)
    (h0 : domainsWf s → d = 0 → r.state = .opened ∧ r.score = 0) : Keeps s (s.setDomain d r) :=
  setDomains_keeps s _ fun hd => by
    obtain ⟨hs, ho, hz, hc, hr⟩ := id hd
    have new (e : DomainId) : (s.setDomain d r).domain e = if e = d then r else s.domain e :=
      State.setDomain_domain s d e r
    have zero : ((s.setDomain d r).domain 0).state = .opened ∧ ((s.setDomain d r).domain 0).score = 0 := by
      rw [new]
      split
      · next e => exact h0 hd e.symm
      · exact ⟨ho, hz⟩
    refine ⟨fun e => ?_, zero.1, zero.2, hc, hr⟩
    show scoreWf ((s.setDomain d r).domain e)
    rw [new]
    split
    · exact h hd
    · exact hs e

theorem writeDomain_keeps (s : State) (d : DomainId) (r : DomainRec) (h : domainsWf s → scoreWf r)
    (h0 : domainsWf s → d = 0 → r.state = .opened ∧ r.score = 0) : Keeps s (s.writeDomain d r) :=
  (setDomain_keeps s d r h h0).trans (persistDomainLine_keeps _ _)

/-- A new held count or quota changes neither score nor state. -/
theorem setDomain_keeps_of_score (s : State) (d : DomainId) (r : DomainRec) (hs : r.score = (s.domain d).score)
    (hl : r.latch = (s.domain d).latch) (ht : r.state = (s.domain d).state) : Keeps s (s.setDomain d r) :=
  setDomain_keeps s d r (fun ⟨h, _⟩ => by simpa only [scoreWf, hs, hl] using h d)
    (by rintro ⟨-, h0, h1, -⟩ rfl; exact ⟨ht.trans h0, hs.trans h1⟩)

theorem writeDomain_keeps_of_score (s : State) (d : DomainId) (r : DomainRec) (hs : r.score = (s.domain d).score)
    (hl : r.latch = (s.domain d).latch) (ht : r.state = (s.domain d).state) : Keeps s (s.writeDomain d r) :=
  (setDomain_keeps_of_score s d r hs hl ht).trans (persistDomainLine_keeps _ _)

theorem closeRetired_keeps (s : State) (d : DomainId) (h : domainsWf s → d ≠ 0) : Keeps s (s.closeRetired d) :=
  have hd : domainsWf (s.freeShares d) → domainsWf s := by simp [domainsWf, State.domain]
  (freeShares_keeps s d).trans (writeDomain_keeps _ d _ (by simp [scoreWf, closedDomain])
    fun k e => absurd e (h (hd k)))

theorem countRefusal_keeps (s : State) (d : DomainId) (h : d ≠ 0) : Keeps s (s.countRefusal d) := by
  have up (k : domainsWf s) : scoreWf (s.domain d).scoreUp := by
    obtain ⟨hb, hl⟩ := k.1 d
    by_cases h8 : 256 ≤ (s.domain d).score + 8
    · simp [scoreWf, DomainRec.scoreUp, Config.scoreStep, Config.scoreMax, h8]
    · have hne : (s.domain d).latch = false := by
        rw [Bool.eq_false_iff, Ne, hl]
        omega
      simp [scoreWf, DomainRec.scoreUp, Config.scoreStep, Config.scoreMax, h8, hne]
  unfold State.countRefusal
  dsimp only
  split
  · exact writeDomain_keeps s d _ up (fun _ e => absurd e h)
  · exact setDomain_keeps s d _ up (fun _ e => absurd e h)

theorem clearScore_keeps (s : State) (d : DomainId) : Keeps s (s.clearScore d) := by
  have clear (r : DomainRec) : scoreWf { r with score := 0, latch := false } := by simp [scoreWf]
  unfold State.clearScore
  dsimp only
  split
  · exact writeDomain_keeps s d _ (fun _ => clear _) (by rintro ⟨-, h0, -⟩ rfl; exact ⟨h0, rfl⟩)
  · exact setDomain_keeps s d _ (fun _ => clear _) (by rintro ⟨-, h0, -⟩ rfl; exact ⟨h0, rfl⟩)

/-- A table whose records differ in neither score nor state. -/
theorem setDomains_keeps_of_score (s : State) (x : SMap DomainRec)
    (h : ∀ d : DomainId, (smapGet closedDomain x d.toNat).score = (s.domain d).score ∧
      (smapGet closedDomain x d.toNat).latch = (s.domain d).latch ∧
      (smapGet closedDomain x d.toNat).state = (s.domain d).state) : Keeps s (s.setDomains x) :=
  setDomains_keeps s x fun ⟨hs, ho, hz, hc, hr⟩ => by
    refine ⟨fun d => ?_, (h 0).2.2.trans ho, (h 0).1.trans hz, hc, hr⟩
    obtain ⟨h1, h2, -⟩ := h d
    simpa only [scoreWf, State.domain, State.setDomains_domains, h1, h2] using hs d

/-- The counts of a recount or a walk reach neither a score nor a state. -/
theorem applyCounts_keeps (s : State) (held refs : SMap Nat) : Keeps s (s.applyCounts held refs) := by
  refine (setDomains_keeps_of_score s _ fun d => ?_).trans (setShares_keeps _ _)
  rw [smapGet_updateBelow, if_pos (by simp [Config.domainCount, d.isLt])]
  exact ⟨rfl, rfl, rfl⟩

end Sys2Proof.Machine

namespace Sys2Proof.Machine

open Sys2Proof.Safety

/-! ## The notice queue -/

/-- The notices of the queue in order: one EVENT notice at most waits, a START notice stands at the head alone, and the
notice with its number is the one being sent. -/
def queueWf (cp : ControlPort) : Prop :=
  cp.notices.countP isWaitingEvent ≤ 1 ∧ (∀ q ∈ cp.notices.tail, q.number = none ∧ isStart q = false) ∧
    (cp.transmitter = .notice ↔ ∃ q, cp.notices.head? = some q ∧ q.number ≠ none)

/-- The live commands in order: distinct tickets, and the engine's command is one of them in a phase of its own. -/
def commandsWf (te : Engine) : Prop :=
  te.table.length ≤ 16 ∧ (te.table.map Cmd.ticket).Nodup ∧
    ∀ w, te.current = some w → ∃ c, te.table.find? (fun c => c.ticket == w.ticket) = some c ∧
      c.phase ≠ .queued ∧ c.phase ≠ .scrub ∧ c.phase ≠ .notify

/-- Each COMPLETION notice is of its own command, which is in NOTIFY. -/
def completionsWf (te : Engine) (notices : List QueuedNotice) : Prop :=
  (notices.filterMap completionTicket).Nodup ∧
    ∀ k ∈ notices.filterMap completionTicket, ∃ c, te.table.find? (fun c => c.ticket == k) = some c ∧ c.phase = .notify

/-- While a reset or recovery goes on there is neither notice nor command, and nothing that could place one. -/
def stillWf (s : State) : Prop :=
  s.mc.inReset ≠ none ∨ s.mc.recovery ≠ none →
    s.cp.notices = [] ∧ s.te.table = [] ∧ s.te.current = none ∧ s.eu.enabled = 0 ∧ s.mc.pendingTarget = none

theorem length_le_tickets_add_events (l : List QueuedNotice) (h : ∀ q ∈ l, q.number = none ∧ isStart q = false) :
    l.length ≤ (l.filterMap completionTicket).length + l.countP isWaitingEvent := by
  induction l with
  | nil => simp
  | cons q l ih =>
    have ih := ih fun x hx => h x (by simp [hx])
    obtain ⟨hn, hs⟩ := h q (by simp)
    obtain ⟨n, num⟩ := q
    obtain rfl : num = none := hn
    cases n <;>
      simp_all [List.filterMap_cons, List.countP_cons, completionTicket, isWaitingEvent, isStart] <;> omega

/-- Of the notices all but the head are COMPLETION notices of distinct commands or the one EVENT notice that waits, so
that 18 places suffice. -/
theorem notices_length_le {cp : ControlPort} {te : Engine} (hq : queueWf cp) (ht : te.table.length ≤ 16)
    (hc : completionsWf te cp.notices) : cp.notices.length ≤ 18 := by
  obtain ⟨he, htail, -⟩ := hq
  obtain ⟨hnd, hin⟩ := hc
  have sub : (cp.notices.filterMap completionTicket) ⊆ te.table.map Cmd.ticket := by
    intro k hk
    obtain ⟨c, hf, -⟩ := hin k hk
    have := List.find?_some hf
    exact List.mem_map.2 ⟨c, List.mem_of_find?_eq_some hf, by simpa using this⟩
  have few : (cp.notices.filterMap completionTicket).length ≤ 16 := by
    have := (hnd.subperm sub).length_le
    rw [List.length_map] at this
    omega
  cases hl : cp.notices with
  | nil => simp
  | cons q rest =>
    rw [hl] at he htail few
    have := length_le_tickets_add_events rest (by simpa using htail)
    have h1 : (rest.filterMap completionTicket).length ≤ ((q :: rest).filterMap completionTicket).length := by
      rw [List.filterMap_cons]
      split <;> simp
    have h2 : rest.countP isWaitingEvent ≤ (q :: rest).countP isWaitingEvent := by
      rw [List.countP_cons]
      omega
    simp only [List.length_cons]
    omega

/-- The notices in order, condition by condition. -/
theorem noticesWf_iff (s : State) : noticesWf s ↔
    queueWf s.cp ∧ commandsWf s.te ∧ completionsWf s.te s.cp.notices ∧ recoveryWf s ∧ stillWf s := by
  constructor
  · rintro ⟨-, h2, h3, h4, h5, h6, h7, h8, h9, h10, h11⟩
    exact ⟨⟨h7, h8, h9⟩, ⟨h2, h3, h4⟩, ⟨h5, h6⟩, h10, h11⟩
  · rintro ⟨hq, hc, hn, hr, hs⟩
    have hl := notices_length_le hq hc.1 hn
    obtain ⟨h7, h8, h9⟩ := hq
    obtain ⟨h2, h3, h4⟩ := hc
    obtain ⟨h5, h6⟩ := hn
    exact ⟨hl, h2, h3, h4, h5, h6, h7, h8, h9, hr, hs⟩

/-! ## The arbiter -/

theorem begins_tickets (cp : ControlPort) (fl : FlagSet) :
    (begins cp fl).notices.filterMap completionTicket = cp.notices.filterMap completionTicket := by
  unfold begins
  split
  · rfl
  · split
    · rfl
    · rfl
    · next q rest _ e => 
      obtain ⟨n, num⟩ := q
      rw [e]
      cases n with
      | event f => cases f <;> simp [List.filterMap_cons, completionTicket]
      | _ => simp [List.filterMap_cons, completionTicket]

theorem begins_eq_nil (cp : ControlPort) (fl : FlagSet) : (begins cp fl).notices = [] ↔ cp.notices = [] := by
  unfold begins
  split
  · rfl
  · split <;> simp_all

theorem queueWf_begins (cp : ControlPort) (fl : FlagSet) (h : queueWf cp) : queueWf (begins cp fl) := by
  obtain ⟨he, ht, hx⟩ := h
  unfold begins
  split
  · exact ⟨he, ht, hx⟩
  · next hfree =>
    have hf : cp.transmitter = .free := by simpa using hfree
    split
    · refine ⟨he, ht, ?_⟩
      rw [hf] at hx
      simpa using hx
    · exact ⟨he, ht, hx⟩
    · next q rest _ e =>
      rw [e] at he ht
      refine ⟨?_, ht, by simp⟩
      rw [List.countP_cons] at he ⊢
      simp only [isWaitingEvent]
      cases q.notice with
      | event f => cases f <;> simp <;> omega
      | _ => simp; omega

/-- The arbiter changes neither the inbound queue nor a reply, nor what is executed. -/
theorem begins_cp (cp : ControlPort) (fl : FlagSet) : (begins cp fl).inbound = cp.inbound ∧
    (begins cp fl).replies = cp.replies ∧ (begins cp fl).executing = cp.executing := by
  unfold begins
  split
  · simp
  · split <;> simp_all

@[simp] theorem arbitrate_replies (s : State) : s.arbitrate.cp.replies = s.cp.replies := by
  rw [arbitrate_eq]
  exact (begins_cp _ _).2.1

@[simp] theorem placeNotice_replies (s : State) (n : Notice) : (s.placeNotice n).cp.replies = s.cp.replies := by
  unfold State.placeNotice
  simp

@[simp] theorem placeReply_replies (s : State) (r : Reply) : (s.placeReply r).cp.replies = s.cp.replies ++ [r] := by
  unfold State.placeReply
  simp

/-- A new control port whose queue is in order and whose COMPLETION notices are as before. -/
theorem setCp_keeps (s : State) (cp : ControlPort) (hq : queueWf s.cp → queueWf cp)
    (ht : cp.notices.filterMap completionTicket = s.cp.notices.filterMap completionTicket)
    (hn : s.cp.notices = [] → cp.notices = [])
    (hi : s.cp.inbound.length ≤ 4 → cp.inbound.length ≤ 4) (hp : s.cp.placesUsed ≤ 8 → cp.placesUsed ≤ 8) :
    Keeps s (s.setCp cp) where
  notices h := by
    obtain ⟨h1, h2, ⟨h3, h4⟩, h5, h6⟩ := (noticesWf_iff s).1 h
    refine (noticesWf_iff _).2 ⟨hq h1, h2, ⟨?_, ?_⟩, h5, fun h => ?_⟩
    · simpa [ht] using h3
    · simpa [ht] using h4
    · obtain ⟨a, b⟩ := h6 h
      exact ⟨hn a, b⟩
  capacity := by simp +contextual [withinCapacity, hi, hp]

theorem arbitrate_keeps (s : State) : Keeps s s.arbitrate := by
  rw [arbitrate_eq]
  obtain ⟨h1, h2, h3⟩ := begins_cp s.cp s.eu.flags
  exact setCp_keeps s _ (queueWf_begins _ _) (begins_tickets _ _) (begins_eq_nil _ _).2 (by rw [h1]; exact id)
    (by simp [ControlPort.placesUsed, h2, h3])

/-- A notice joins the queue: an EVENT notice where none waits, a START notice where the queue is empty, the COMPLETION
notice of a command that has entered NOTIFY and has none. -/
theorem placeNotice_keeps (s : State) (n : Notice)
    (he : ∀ f, n = .event f → s.cp.notices.countP isWaitingEvent = 0)
    (hs : isStart ⟨n, none⟩ = true → noticesWf s → s.cp.notices = [])
    (hc : ∀ k, completionTicket ⟨n, none⟩ = some k → noticesWf s → k ∉ s.cp.notices.filterMap completionTicket ∧
      ∃ c, s.cmd k = some c ∧ c.phase = .notify)
    (hr : noticesWf s → s.mc.inReset = none ∧ s.mc.recovery = none) : Keeps s (s.placeNotice n) := by
  refine Keeps.trans (t := s.setCp { s.cp with notices := s.cp.notices ++ [{ notice := n, number := none }] })
    { notices := fun h => ?_ } (arbitrate_keeps _)
  obtain ⟨⟨h1, h2, h3⟩, h4, ⟨h5, h6⟩, h7, h8⟩ := (noticesWf_iff s).1 h
  refine (noticesWf_iff _).2 ⟨⟨?_, ?_, ?_⟩, h4, ⟨?_, ?_⟩, h7, ?_⟩
  · simp only [State.setCp_cp, List.countP_append, List.countP_singleton]
    cases n with
    | event f => simp [he f rfl, isWaitingEvent]
    | _ => simpa [isWaitingEvent] using h1
  · cases hl : s.cp.notices with
    | nil => simp
    | cons q rest =>
      have : isStart ⟨n, none⟩ = false := by
        rw [Bool.eq_false_iff]
        intro hst
        simp [hs hst h] at hl
      simp only [hl, List.tail_cons] at h2
      simpa [hl, or_imp, forall_and, this] using h2
  · cases hl : s.cp.notices with
    | nil => simpa [hl] using h3
    | cons q rest => simpa [hl] using h3
  · cases hk : completionTicket ⟨n, none⟩ with
    | none => simpa [List.filterMap_append, hk] using h5
    | some k =>
      obtain ⟨hnot, -⟩ := hc k hk h
      have e : (s.cp.notices ++ [(⟨n, none⟩ : QueuedNotice)]).filterMap completionTicket =
          s.cp.notices.filterMap completionTicket ++ [k] := by simp [List.filterMap_append, hk]
      rw [State.setCp_cp, e]
      exact List.nodup_append.2 ⟨h5, by simp, fun a ha b hb => by
        rw [List.mem_singleton.1 hb]
        exact fun e => hnot (e ▸ ha)⟩
  · intro k hk
    rw [State.setCp_cp, List.filterMap_append, List.mem_append] at hk
    rcases hk with hk | hk
    · exact h6 k hk
    · exact (hc k (by simpa using hk) h).2
  · simp [stillWf, hr h]

end Sys2Proof.Machine

namespace Sys2Proof.Machine

open Sys2Proof.Safety

/-! ## Flags, log records, replies -/

theorem setEu_keeps (s : State) (x : Events) (h : x.enabled = s.eu.enabled) : Keeps s (s.setEu x) where
  notices := by simp [noticesWf, recoveryWf, State.cmd, h]

theorem eventWaiting_eq_false {cp : ControlPort} (h : cp.eventWaiting = false) :
    cp.notices.countP isWaitingEvent = 0 := by
  rw [List.countP_eq_zero]
  intro q hq
  have := List.any_eq_false.1 h q hq
  obtain ⟨n, num⟩ := q
  cases n <;> cases num <;> simp_all [isWaitingEvent]

/-- No reset and no recovery goes on where a flag is enabled. -/
theorem running_of_enabled {s : State} (h : noticesWf s) (he : s.eu.enabled ≠ 0) :
    s.mc.inReset = none ∧ s.mc.recovery = none := by
  obtain ⟨-, -, -, -, hs⟩ := (noticesWf_iff s).1 h
  by_contra hc
  exact he (hs (by tauto)).2.2.2.1

theorem placeNotice_event_keeps (s : State) (hw : s.cp.eventWaiting = false) (he : s.eu.enabled ≠ 0) :
    Keeps s (s.placeNotice (.event none)) :=
  placeNotice_keeps s _ (fun _ _ => eventWaiting_eq_false hw) (by simp [isStart]) (by simp [completionTicket])
    fun h => running_of_enabled h he

theorem setFlag_keeps (s : State) (f : EventFlag) : Keeps s (s.setFlag f) := by
  unfold State.setFlag
  split
  · exact Keeps.refl s
  · dsimp only
    split
    · next h =>
      simp only [Bool.and_eq_true, Bool.not_eq_true'] at h
      refine (setEu_keeps s { s.eu with flags := s.eu.flags ||| f.bit } rfl).trans
        (placeNotice_event_keeps _ (by simpa using h.2) ?_)
      intro h0
      have h1 := h.1
      simp at h0
      simp [hasFlag, h0] at h1
    · exact setEu_keeps s _ rfl

theorem setFlagIf_keeps (s : State) (b : Bool) (f : EventFlag) : Keeps s (s.setFlagIf b f) := by
  unfold State.setFlagIf
  split
  · exact setFlag_keeps s f
  · exact Keeps.refl s

theorem store_length (l : Log) (r : LogRec) (h : l.records.length ≤ 32) : (l.store r).records.length ≤ 32 := by
  unfold Log.store
  split
  · exact h
  · split
    · next x hx =>
      split
      · simp only [List.length_append, List.length_dropLast, List.length_singleton]
        have : l.records ≠ [] := by
          rintro e
          simp [e] at hx
        have := List.length_pos_of_ne_nil this
        omega
      · simp only [Config.logCapacity] at *
        simp only [List.length_append, List.length_singleton]
        omega
    · simp

theorem logRecord_keeps (s : State) (e : LogEvent) : Keeps s (s.logRecord e) :=
  ((setVl_keeps s _ (store_length _ _)).trans (setFlagIf_keeps _ _ _)).trans (setFlagIf_keeps _ _ _)

@[simp] theorem setFlag_replies (s : State) (f : EventFlag) : (s.setFlag f).cp.replies = s.cp.replies := by
  unfold State.setFlag
  dsimp only
  (repeat' split) <;> simp

@[simp] theorem setFlagIf_replies (s : State) (b : Bool) (f : EventFlag) :
    (s.setFlagIf b f).cp.replies = s.cp.replies := by
  unfold State.setFlagIf
  split <;> simp

@[simp] theorem logRecord_replies (s : State) (e : LogEvent) : (s.logRecord e).cp.replies = s.cp.replies := by
  simp [State.logRecord]

/-- Whether a reply has a place: the message being executed has one reserved, and a message that begins takes one
(R174). -/
def replyFits (s : State) : Prop := s.cp.executing.isSome = true ∨ s.cp.replies.length < 8

theorem answer_keeps (s : State) (st : Status) (rs : List Byte) (h : replyFits s) : Keeps s (s.answer st rs) := by
  refine (setCp_keeps s { s.cp with
      inbound := s.cp.inbound.tail, executing := none
      replies := s.cp.replies ++ [{ kind := replyKind (kindOf s.frame), seq := seqOf s.frame, status := st, results := rs }] }
    id rfl id ?_ ?_).trans (arbitrate_keeps _)
  · simp
    omega
  · rcases h with h | h <;> simp [ControlPort.placesUsed, h]

theorem placeReply_keeps (s : State) (r : Reply) (h : s.cp.placesUsed < 8) : Keeps s (s.placeReply r) := by
  refine (setCp_keeps s { s.cp with replies := s.cp.replies ++ [r] } id rfl id id fun _ => ?_).trans (arbitrate_keeps _)
  simp [ControlPort.placesUsed] at h ⊢
  omega

/-! ## The command table -/

theorem find_map_ticket {l : List Cmd} {f : Cmd → Cmd} (hf : ∀ c, (f c).ticket = c.ticket) (t k : Ticket) :
    (l.map fun c => if c.ticket = t then f c else c).find? (fun c => c.ticket == k) =
      (l.find? fun c => c.ticket == k).map fun c => if c.ticket = t then f c else c := by
  induction l with
  | nil => rfl
  | cons c l ih =>
    have hk : (if c.ticket = t then f c else c).ticket = c.ticket := by split <;> simp [hf]
    simp only [List.map_cons, List.find?_cons, hk, ih]
    split <;> simp

/-- The record of a live command after one of them has been changed. -/
theorem State.updateCmd_cmd (s : State) (t k : Ticket) (f : Cmd → Cmd) (hf : ∀ c, (f c).ticket = c.ticket) :
    (s.updateCmd t f).cmd k = if k = t then (s.cmd k).map f else s.cmd k := by
  have e : (s.updateCmd t f).cmd k = (s.cmd k).map fun c => if c.ticket = t then f c else c :=
    find_map_ticket hf t k
  rw [e]
  cases h : s.cmd k with
  | none => simp
  | some c =>
    have hk : c.ticket = k := by simpa using List.find?_some h
    simp only [Option.map_some, hk]
    split <;> rfl

/-- A change of the table and the engine's work that keeps tickets and commands, moves no command into or out of
NOTIFY that has a notice, and keeps the engine's phase its own. -/
theorem setTe_keeps (s : State) (x : Engine) (ht : x.table.map Cmd.ticket = s.te.table.map Cmd.ticket)
    (hc : x.table.map Cmd.command = s.te.table.map Cmd.command)
    (hw : commandsWf s.te → commandsWf x)
    (hn : noticesWf s → ∀ k c, s.cmd k = some c → c.phase = .notify → ∃ c', x.table.find? (fun c => c.ticket == k) = some c' ∧
      c'.phase = .notify)
    (hz : s.te.table = [] → s.te.current = none → x.current = none)
    (hs : (∀ w, s.te.current = some w → w.snapshot.length ≤ 128) → s.portA.table.length ≤ 64 → s.portB.table.length ≤ 64 →
      ∀ w, x.current = some w → w.snapshot.length ≤ 128) :
    Keeps s (s.setTe x) where
  domains h := by
    obtain ⟨h1, h2, h3, h4, h5⟩ := h
    refine ⟨h1, h2, h3, ?_, h5⟩
    intro c hx b e
    have : c.command ∈ s.te.table.map Cmd.command := hc ▸ List.mem_map_of_mem hx
    obtain ⟨c', hm, e'⟩ := List.mem_map.1 this
    exact h4 c' hm b (e'.trans e)
  notices h := by
    obtain ⟨h1, h2, ⟨h3, h4⟩, h5, h6⟩ := (noticesWf_iff s).1 h
    refine (noticesWf_iff _).2 ⟨h1, hw h2, ⟨h3, fun k hk => ?_⟩, h5, fun h => ?_⟩
    · obtain ⟨c, hf, hp⟩ := h4 k hk
      exact hn h k c hf hp
    · obtain ⟨a, b, c, d⟩ := h6 h
      refine ⟨a, ?_, hz b c, d⟩
      have := congrArg List.length ht
      rw [b] at this
      simpa using this
  capacity h := by
    obtain ⟨h1, h2, h3, h4, h5, h6, h7, h8, h9, h10⟩ := h
    have hl := congrArg List.length ht
    simp only [List.length_map] at hl
    exact ⟨h1, h2, h3, by simpa [hl] using h4, h5, h6, h7, h8, h9, hs h10 h8.2.2.1 h9.2.2.1⟩

end Sys2Proof.Machine

namespace Sys2Proof.Machine

open Sys2Proof.Safety

/-- The engine holds the command of a ticket. -/
def holds (s : State) (t : Ticket) : Prop := ∃ w, s.te.current = some w ∧ w.ticket = t

theorem map_ite_eq {β : Type} {f : Cmd → Cmd} {g : Cmd → β} (hg : ∀ c, g (f c) = g c) (t : Ticket) (l : List Cmd) :
    (l.map fun c => if c.ticket = t then f c else c).map g = l.map g := by
  rw [List.map_map]
  refine List.map_congr_left fun c _ => ?_
  simp only [Function.comp]
  split <;> simp [hg]

/-- The commands stay in order when the record of one changes and the engine's, where it stays, has a phase of its
own. -/
theorem commandsWf_map {te : Engine} (t : Ticket) (f : Cmd → Cmd) (cur : Option Work) (ht : ∀ c, (f c).ticket = c.ticket)
    (h : commandsWf te) (hc : ∀ w, cur = some w → ∃ w', te.current = some w' ∧ w.ticket = w'.ticket)
    (hp : ∀ w c, cur = some w → w.ticket = t → c.phase ≠ .queued ∧ c.phase ≠ .scrub ∧ c.phase ≠ .notify →
      (f c).phase ≠ .queued ∧ (f c).phase ≠ .scrub ∧ (f c).phase ≠ .notify) :
    commandsWf { te with table := te.table.map (fun c => if c.ticket = t then f c else c), current := cur } := by
  obtain ⟨h1, h2, h3⟩ := h
  refine ⟨by simpa using h1, by rw [map_ite_eq ht]; exact h2, fun w hw => ?_⟩
  obtain ⟨w', hw', e⟩ := hc w hw
  obtain ⟨c, hf, hph⟩ := h3 w' hw'
  rw [← e] at hf
  have hk : c.ticket = w.ticket := by simpa using List.find?_some hf
  refine ⟨if c.ticket = t then f c else c, ?_, ?_⟩
  · show List.find? _ (List.map _ _) = _
    rw [find_map_ticket ht, hf]
    rfl
  · split
    · next hct => exact hp w c hw (hk ▸ hct) hph
    · exact hph

/-- The record of a command changes, and the work of the engine with it. -/
theorem setTe_keeps_of_map (s : State) (t : Ticket) (f : Cmd → Cmd) (cur : Option Work)
    (ht : ∀ c, (f c).ticket = c.ticket) (hcmd : ∀ c, (f c).command = c.command)
    (hc : ∀ w, cur = some w → ∃ w', s.te.current = some w' ∧ w.ticket = w'.ticket)
    (hp : ∀ w c, cur = some w → w.ticket = t → c.phase ≠ .queued ∧ c.phase ≠ .scrub ∧ c.phase ≠ .notify →
      (f c).phase ≠ .queued ∧ (f c).phase ≠ .scrub ∧ (f c).phase ≠ .notify)
    (hn : noticesWf s → ∀ c, s.cmd t = some c → c.phase = .notify → (f c).phase = .notify)
    (hs : (∀ w, s.te.current = some w → w.snapshot.length ≤ 128) → s.portA.table.length ≤ 64 →
      s.portB.table.length ≤ 64 → ∀ w, cur = some w → w.snapshot.length ≤ 128) :
    Keeps s (s.setTe { s.te with
      table := s.te.table.map fun c => if c.ticket = t then f c else c
      current := cur }) := by
  refine setTe_keeps s _ (map_ite_eq ht t _) (map_ite_eq hcmd t _) (fun h => commandsWf_map t f cur ht h hc hp)
    (fun hno k c hk hph => ?_) (fun _ h => ?_) hs
  · refine ⟨if c.ticket = t then f c else c, ?_, ?_⟩
    · show List.find? _ (List.map _ _) = _
      rw [find_map_ticket ht]
      show Option.map _ (s.cmd k) = _
      rw [hk]
      rfl
    · have hkt : c.ticket = k := by simpa using List.find?_some hk
      split
      · next e => exact hn hno c (by rw [← e, hkt]; exact hk) hph
      · exact hph
  · cases hcur : cur with
    | none => rfl
    | some w =>
      obtain ⟨w', hw', -⟩ := hc w hcur
      rw [h] at hw'
      cases hw'

/-- A command's counts change. -/
theorem updateCmd_keeps_of_phase (s : State) (t : Ticket) (f : Cmd → Cmd) (ht : ∀ c, (f c).ticket = c.ticket)
    (hc : ∀ c, (f c).command = c.command) (hp : ∀ c, (f c).phase = c.phase) : Keeps s (s.updateCmd t f) :=
  setTe_keeps_of_map s t f s.te.current ht hc (fun w hw => ⟨w, hw, rfl⟩) (fun _ c _ _ h => by rwa [hp c])
    (fun _ c _ h => by rwa [hp c]) (fun h _ _ => h)

theorem creditDone_keeps (s : State) (t : Ticket) : Keeps s (s.creditDone t) :=
  updateCmd_keeps_of_phase s t _ (fun _ => rfl) (fun _ => rfl) (fun _ => rfl)

theorem creditPoisoned_keeps (s : State) (t : Ticket) : Keeps s (s.creditPoisoned t) :=
  updateCmd_keeps_of_phase s t _ (fun _ => rfl) (fun _ => rfl) (fun _ => rfl)

/-- The engine's command is not in NOTIFY. -/
theorem phase_of_holds {s : State} {t : Ticket} (h : holds s t) (hw : noticesWf s) {c : Cmd} (hc : s.cmd t = some c) :
    c.phase ≠ .queued ∧ c.phase ≠ .scrub ∧ c.phase ≠ .notify := by
  obtain ⟨w, hcur, rfl⟩ := h
  obtain ⟨c', hf, hp⟩ := ((noticesWf_iff s).1 hw).2.1.2.2 w hcur
  have : s.cmd w.ticket = some c' := hf
  rw [this] at hc
  cases hc
  exact hp

/-- The engine's command enters another phase of its own. -/
theorem updateCmd_keeps_of_holds (s : State) (t : Ticket) (p : Phase) (h : holds s t)
    (hp : p ≠ .queued ∧ p ≠ .scrub ∧ p ≠ .notify) : Keeps s (s.updateCmd t fun c => { c with phase := p }) :=
  setTe_keeps_of_map s t _ s.te.current (fun _ => rfl) (fun _ => rfl) (fun w hw => ⟨w, hw, rfl⟩) (fun _ _ _ _ _ => hp)
    (fun hw _ hc e => absurd e (phase_of_holds h hw hc).2.2) (fun h _ _ => h)

/-- The engine's work changes, but for its ticket. -/
theorem updateWork_keeps (s : State) (f : Work → Work) (ht : ∀ w, s.te.current = some w → (f w).ticket = w.ticket)
    (hs : ∀ w, s.te.current = some w → w.snapshot.length ≤ 128 → s.portA.table.length ≤ 64 →
      s.portB.table.length ≤ 64 → (f w).snapshot.length ≤ 128) : Keeps s (s.updateWork f) := by
  have e : s.updateWork f = s.setTe { s.te with
      table := s.te.table.map fun c => if c.ticket = 0 then id c else c, current := s.te.current.map f } := by
    simp [State.updateWork]
  rw [e]
  refine setTe_keeps_of_map s 0 id _ (fun _ => rfl) (fun _ => rfl) (fun w hw => ?_) (fun _ _ _ _ h => h)
    (fun _ _ _ h => h) (fun h ha hb w hw => ?_)
  all_goals
    obtain ⟨w', hw', rfl⟩ := Option.map_eq_some_iff.1 hw
  · exact ⟨w', hw', ht w' hw'⟩
  · exact hs w' hw' (h w' hw') ha hb

theorem updateWork_keeps_of_same (s : State) (f : Work → Work) (ht : ∀ w, (f w).ticket = w.ticket)
    (hs : ∀ w, (f w).snapshot.length ≤ w.snapshot.length) : Keeps s (s.updateWork f) :=
  updateWork_keeps s f (fun w _ => ht w) (fun w _ h _ _ => (hs w).trans h)

/-! ## The end of a command -/

theorem markFormatted_keeps (s : State) : Keeps s s.markFormatted := by
  unfold State.markFormatted
  split
  · exact setMc_keeps_of_same s _ {}
  · exact (persistHeader_keeps s _ _).trans (setMc_keeps_of_same _ _ {})

theorem finishKind_keeps (s : State) (c : Command) (st : Completion) (h : domainsWf s → ∀ b, c ≠ .retire 0 b) :
    Keeps s (s.finishKind c st) := by
  unfold State.finishKind
  split
  · next d b =>
    split
    · exact Keeps.refl s
    · exact closeRetired_keeps s d fun k e => h k b (e ▸ rfl)
  · split
    · exact Keeps.refl s
    · exact markFormatted_keeps s
  · exact Keeps.refl s

/-- A notice is placed after a chain of operations; what it needs may be known from before them. -/
theorem Keeps.placeNotice {s t : State} (k : Keeps s t) (n : Notice) (h : noticesWf s → Keeps t (t.placeNotice n)) :
    Keeps s (t.placeNotice n) where
  pending := by simpa using k.pending
  memory := by simpa using k.memory
  cache := by simpa using k.cache
  domains := by simpa [domainsWf, State.domain] using k.domains
  notices hs := (h hs).notices (k.notices hs)
  writes := by simpa [writeWf, recoveryWf, modeWf] using k.writes
  capacity := by simpa [withinCapacity, ControlPort.placesUsed] using k.capacity

/-- A command that is not in NOTIFY enters it. -/
theorem notify_keeps (s : State) (t : Ticket) (st : Completion)
    (h : noticesWf s → ∀ c, s.cmd t = some c → c.phase ≠ .notify) : Keeps s (s.notify t st) := by
  unfold State.notify
  split
  · exact Keeps.refl s
  · next c hc =>
    dsimp only
    have hm : c ∈ s.te.table := List.mem_of_find?_eq_some hc
    have k1 : Keeps s ((s.updateCmd t fun c => { c with phase := .notify, status := some st }).setTe
        { (s.updateCmd t fun c => { c with phase := .notify, status := some st }).te with
          current := (s.updateCmd t fun c => { c with phase := .notify, status := some st }).te.current.filter
            fun w => w.ticket != t }) := by
      refine setTe_keeps_of_map s t (fun c => { c with phase := .notify, status := some st })
        (s.te.current.filter fun w => w.ticket != t) (fun _ => rfl) (fun _ => rfl) (fun w hw => ?_) (fun w _ hw e => ?_)
        (fun _ _ _ _ => rfl) (fun h _ _ w hw => ?_)
      · exact ⟨w, (Option.filter_eq_some_iff.1 hw).1, rfl⟩
      · exact absurd e (by simpa using (Option.filter_eq_some_iff.1 hw).2)
      · exact h w (Option.filter_eq_some_iff.1 hw).1
    have hkt : c.ticket = t := by simpa using List.find?_some hc
    have entered : { c with phase := .notify, status := some st } ∈
        (s.updateCmd t fun c => { c with phase := .notify, status := some st }).te.table :=
      List.mem_map.2 ⟨c, hm, by simp [hkt]⟩
    have k2 := k1.trans (finishKind_keeps _ c.command st fun hd b => hd.2.2.2.1 _ entered b)
    refine k2.placeNotice _ fun hw => ?_
    obtain ⟨-, -, ⟨-, h4⟩, -, h6⟩ := (noticesWf_iff s).1 hw
    refine placeNotice_keeps _ _ (by simp) (by simp [isStart]) (fun k hk _ => ?_) (fun _ => ?_)
    · obtain rfl : t = k := by simpa [completionTicket] using hk
      refine ⟨fun hin => ?_, { c with phase := .notify, status := some st }, ?_, rfl⟩
      · obtain ⟨c', hf, hp⟩ := h4 t (by simpa using hin)
        have : s.cmd t = some c' := hf
        exact h hw c' this hp
      · have := State.updateCmd_cmd s t t (fun c => { c with phase := .notify, status := some st }) fun _ => rfl
        rw [if_pos rfl, hc] at this
        simpa [State.cmd] using this
    · by_contra hn
      have := (h6 (by simp at hn; tauto)).2.1
      simp [this] at hm

end Sys2Proof.Machine

namespace Sys2Proof.Machine

open Sys2Proof.Safety

/-! ## The tag cache -/

theorem setWf_of_perm {ws ws' : CacheSet} (h : setWf ws) (hp : ws'.Perm ws) : setWf ws' := by
  rw [setWf_iff] at h ⊢
  obtain ⟨h1, h2, h3⟩ := h
  exact ⟨hp.length_eq.trans h1, (hp.map _).nodup_iff.2 h2, (hp.filterMap _).nodup_iff.2 h3⟩

/-- A way takes another state: one of its own line, or of a line that the set does not hold. -/
theorem setWf_replace {older newer : CacheSet} {way : Nat} {st st' : WayState}
    (h : setWf (older ++ (way, st) :: newer))
    (hl : st'.line = st.line ∨ ∀ w ∈ older ++ (way, st) :: newer, w.2.line ≠ st'.line) :
    setWf (older ++ (way, st') :: newer) := by
  rw [setWf_iff] at h ⊢
  obtain ⟨h1, h2, h3⟩ := h
  refine ⟨by simpa using h1, by simpa using h2, ?_⟩
  rcases hl with hl | hl
  · simpa [List.filterMap_append, List.filterMap_cons, hl] using h3
  · cases hline : st'.line with
    | none =>
      simp only [List.filterMap_append, List.filterMap_cons, hline] at h3 ⊢
      refine h3.sublist (List.Sublist.append (List.Sublist.refl _) ?_)
      split <;> simp
    | some k =>
      have rest : (older ++ newer).filterMap (fun w => w.2.line) |>.Nodup := by
        refine h3.sublist (List.Sublist.filterMap _ (List.Sublist.append (List.Sublist.refl _) (by simp)))
      have fresh : k ∉ (older ++ newer).filterMap fun w => w.2.line := by
        intro hk
        obtain ⟨w, hw, e⟩ := List.mem_filterMap.1 hk
        refine hl w ?_ (e.trans hline.symm)
        simp only [List.mem_append, List.mem_cons] at hw ⊢
        tauto
      rw [List.filterMap_append] at rest fresh ⊢
      rw [List.filterMap_cons]
      simp only [hline]
      exact List.nodup_middle.2 (List.nodup_cons.2 ⟨fresh, rest⟩)

theorem putRecent_append {older newer : CacheSet} {way : Nat} {st st' : WayState}
    (hn : ((older ++ (way, st) :: newer).map Prod.fst).Nodup) :
    CacheSet.putRecent (older ++ (way, st) :: newer) way st' = older ++ newer ++ [(way, st')] := by
  simp only [List.map_append, List.map_cons, List.nodup_middle, List.nodup_cons, List.mem_append, not_or] at hn
  obtain ⟨⟨hold, hnew⟩, -⟩ := hn
  have keep (l : CacheSet) (h : way ∉ l.map Prod.fst) : (l.filter fun w => w.1 != way) = l :=
    List.filter_eq_self.2 fun w hw => by simpa using fun e : w.1 = way => h (e ▸ List.mem_map_of_mem hw)
  simp [CacheSet.putRecent, keep _ hold, keep _ hnew]

theorem putSet_set (tc : TagCache) (j k : Nat) (ws : CacheSet) :
    (tc.putSet j ws).set k = if setOf k = setOf j then ws else tc.set k := by
  simp only [TagCache.set, TagCache.putSet, smapGet_set]

/-- A cache in order stays so when one way of one set takes another state, and each fill has its way PENDING: one that
was so and has not changed, or the way that has become so. -/
theorem cacheWf_replace {tc tc' : TagCache} (h : cacheWf tc) {j way : Nat} {st st' : WayState} {older newer : CacheSet}
    (hs : tc.set j = older ++ (way, st) :: newer)
    {ws : CacheSet} (hp : ws.Perm (older ++ (way, st') :: newer))
    (hset : ∀ k, tc'.set k = if setOf k = setOf j then ws else tc.set k)
    (hl : st'.line = st.line ∨ ∀ w ∈ tc.set j, w.2.line ≠ st'.line)
    (hn : (tc'.fills.map Fill.line).Nodup)
    (hf : ∀ f ∈ tc'.fills, ((f.way, WayState.pending f.line) ∈ tc.set f.line ∧
        (setOf f.line = setOf j → (f.way, WayState.pending f.line) ≠ (way, st))) ∨
      (setOf f.line = setOf j ∧ (f.way, WayState.pending f.line) = (way, st'))) : cacheWf tc' := by
  obtain ⟨h1, h2, h3⟩ := h
  have hset' (k : Nat) (e : setOf k = setOf j) : tc.set k = tc.set j := by simp [TagCache.set, e]
  refine ⟨fun k => ?_, hn, fun f hm => ?_⟩
  · rw [hset]
    split
    · exact setWf_of_perm (setWf_replace (hs ▸ h1 j) (hs ▸ hl)) hp
    · exact h1 k
  · rw [hset]
    split
    · next e =>
      rw [hp.mem_iff]
      rcases hf f hm with ⟨ha, hb⟩ | ⟨-, hb⟩
      · rw [hset' _ e, hs] at ha
        have := hb e
        simp only [List.mem_append, List.mem_cons] at ha ⊢
        tauto
      · rw [hb]
        simp
    · next e =>
      rcases hf f hm with ⟨ha, -⟩ | ⟨ha, -⟩
      · exact ha
      · exact absurd ha e

/-- The records of a line are put in a way that holds no fill. -/
theorem cacheWf_putValid {tc : TagCache} (h : cacheWf tc) {j way : Nat} {st : WayState} (recs : TagLine)
    (hm : (way, st) ∈ tc.set j) (hst : st.line = some j ∨ ∀ w ∈ tc.set j, w.2.line ≠ some j) {fills : List Fill}
    (hn : (fills.map Fill.line).Nodup)
    (hf : ∀ f ∈ fills, f ∈ tc.fills ∧ (setOf f.line = setOf j → (f.way, WayState.pending f.line) ≠ (way, st))) :
    cacheWf { tc.putValid way j recs with fills := fills } := by
  obtain ⟨older, newer, hs⟩ := List.append_of_mem hm
  have hnum := (h.1 j).2.1
  rw [hs] at hnum
  refine cacheWf_replace h hs (st' := .valid j recs) (ws := CacheSet.putRecent (tc.set j) way (.valid j recs)) ?_
    (fun k => putSet_set tc j k _) (hst.imp Eq.symm id) hn fun f hm => .inl ⟨h.2.2 f (hf f hm).1, (hf f hm).2⟩
  rw [hs, putRecent_append hnum, List.append_assoc]
  exact (List.perm_append_comm).append_left older

theorem mem_of_validWay {tc : TagCache} {j way : Nat} (h : tc.validWay j = some way) :
    ∃ recs, (way, WayState.valid j recs) ∈ tc.set j := by
  obtain ⟨⟨n, st⟩, hw, rfl⟩ := Option.map_eq_some_iff.1 h
  obtain ⟨recs, rfl⟩ := WayState.isValid_iff.1 (List.find?_some (p := fun w : Nat × WayState => w.2.isValid j) hw)
  exact ⟨recs, List.mem_of_find?_eq_some hw⟩

/-- The records of a VALID line are replaced. -/
theorem putValid_cacheKeeps (tc : TagCache) {j way : Nat} (recs : TagLine) (h : tc.validWay j = some way) :
    CacheKeeps tc (tc.putValid way j recs) where
  order hw := by
    obtain ⟨r, hm⟩ := mem_of_validWay h
    exact cacheWf_putValid hw recs hm (.inl rfl) hw.2.1 fun f hf => ⟨hf, by simp⟩
  fills := id
  writes := id

theorem CacheKeeps.trans {x y z : TagCache} (h : CacheKeeps x y) (k : CacheKeeps y z) : CacheKeeps x z where
  order := k.order ∘ h.order
  fills := k.fills ∘ h.fills
  writes := k.writes ∘ h.writes

theorem hasRoom_iff {tc : TagCache} : tc.hasRoom = true ↔ tc.writes.length < 32 := decide_eq_true_iff

theorem pushWrite_cacheKeeps (tc : TagCache) (j : Nat) (recs : TagLine) (h : tc.hasRoom = true) :
    CacheKeeps tc (tc.pushWrite j recs) where
  order := id
  fills := id
  writes _ := by
    have : tc.writes.length < 32 := hasRoom_iff.1 h
    simp [TagCache.pushWrite]
    omega

theorem hold_cacheKeeps (tc : TagCache) (h : Held) : CacheKeeps tc (tc.hold h) where
  order := id
  fills := id
  writes := id

/-- Fills change in neither line nor way. -/
theorem mapFills_cacheKeeps (tc : TagCache) (f : Fill → Fill) (hl : ∀ x, (f x).line = x.line)
    (hw : ∀ x, (f x).way = x.way) : CacheKeeps tc { tc with fills := tc.fills.map f } where
  order := by
    rintro ⟨h1, h2, h3⟩
    refine ⟨h1, ?_, ?_⟩
    · simpa [Function.comp_def, hl] using h2
    · intro x hx
      obtain ⟨y, hy, rfl⟩ := List.mem_map.1 hx
      rw [hl, hw]
      exact h3 y hy
  fills := by simp
  writes := id

theorem attach_cacheKeeps (tc : TagCache) (party : Party) (j : Nat) : CacheKeeps tc (tc.attach party j) :=
  mapFills_cacheKeeps tc _ (fun x => by split <;> rfl) (fun x => by split <;> rfl)

theorem dropParty_cacheKeeps (tc : TagCache) (party : Party) : CacheKeeps tc (tc.dropParty party) where
  order := (mapFills_cacheKeeps tc (fun f => { f with parties := f.parties.filter fun q => q != party })
    (fun _ => rfl) (fun _ => rfl)).order
  fills := by simp [TagCache.dropParty]
  writes := id

/-- What a line's search says when it finds room: no way holds the line, the victim is one that is not PENDING, and the
miss list has a place. -/
theorem find_eq_room {tc : TagCache} {j way : Nat} (h : tc.find j = .room way) :
    (∀ r l, (r, WayState.valid j l) ∉ tc.set j) ∧ tc.isPending j = false ∧ tc.fills.length < 16 ∧
      ∃ st, (way, st) ∈ tc.set j ∧ st.isPending = false := by
  unfold TagCache.find at h
  split at h
  · cases h
  · next hno =>
    refine ⟨fun r l hm => ?_, ?_⟩
    · cases hv : tc.validWay j with
      | none =>
        have := List.find?_eq_none.1 (Option.map_eq_none_iff.1 hv) _ hm
        simp [WayState.isValid] at this
      | some w =>
        cases hl : tc.validLine j with
        | none =>
          rw [TagCache.validLine, List.findSome?_eq_none_iff] at hl
          simpa using hl _ hm
        | some l => exact hno w l hv hl
    · split at h
      · cases h
      · next hp =>
        split at h
        · next hf =>
          split at h
          · next w hv =>
            cases h
            obtain ⟨⟨n, st⟩, hw, rfl⟩ := Option.map_eq_some_iff.1 hv
            have hst := List.find?_some hw
            exact ⟨by simpa using hp, hf, st, List.mem_of_find?_eq_some hw, by simpa using hst⟩
          · cases h
        · cases h

/-- No way of the set holds the line that finds room. -/
theorem line_of_find_room {tc : TagCache} {j way : Nat} (h : tc.find j = .room way) :
    ∀ w ∈ tc.set j, w.2.line ≠ some j := by
  obtain ⟨hv, hp, -⟩ := find_eq_room h
  rintro ⟨n, st⟩ hw hl
  cases st with
  | empty => cases hl
  | valid k l =>
    obtain rfl : k = j := by simpa [WayState.line] using hl
    exact hv n l hw
  | pending k =>
    obtain rfl : k = j := by simpa [WayState.line] using hl
    rw [TagCache.isPending_iff.2 ⟨n, hw⟩] at hp
    cases hp

theorem isPending_ne {st : WayState} (h : st.isPending = false) (j : Nat) : st ≠ .pending j := by
  rintro rfl
  cases h

theorem allocate_cacheKeeps (tc : TagCache) (party : Party) {j way : Nat} (h : tc.find j = .room way) :
    CacheKeeps tc (tc.allocate party j way) where
  order hw := by
    obtain ⟨-, hp, -, st, hm, hst⟩ := find_eq_room h
    obtain ⟨older, newer, hs⟩ := List.append_of_mem hm
    have hnum := (hw.1 j).2.1
    rw [hs] at hnum
    refine cacheWf_replace hw hs (st' := .pending j) (ws := CacheSet.putInPlace (tc.set j) way (.pending j)) ?_
      (fun k => putSet_set tc j k _) (.inr (line_of_find_room h)) ?_ ?_
    · rw [hs, CacheSet.putInPlace_append hnum]
    · have fresh : j ∉ tc.fills.map Fill.line := by
        intro hj
        obtain ⟨f, hf, rfl⟩ := List.mem_map.1 hj
        rw [TagCache.isPending_iff.2 ⟨_, hw.2.2 f hf⟩] at hp
        cases hp
      simp only [TagCache.allocate, List.map_append, List.map_cons, List.map_nil]
      exact List.nodup_append.2 ⟨hw.2.1, by simp, fun a ha b hb e => fresh (by simp_all)⟩
    · intro f hf
      simp only [TagCache.allocate, List.mem_append, List.mem_singleton] at hf
      rcases hf with hf | rfl
      · exact .inl ⟨hw.2.2 f hf, fun _ e => isPending_ne hst f.line (by simpa using (congrArg Prod.snd e).symm)⟩
      · exact .inr ⟨rfl, rfl⟩
  fills _ := by
    have := (find_eq_room h).2.2.1
    simp [TagCache.allocate]
    omega
  writes := id

theorem find_eq_hit {tc : TagCache} {j way : Nat} {recs : TagLine} (h : tc.find j = .hit way recs) :
    tc.validWay j = some way ∧ tc.validLine j = some recs := by
  unfold TagCache.find at h
  split at h
  · next hv hl => cases h; exact ⟨hv, hl⟩
  · (repeat' split at h) <;> cases h

theorem lookup_cacheKeeps (tc : TagCache) (party : Party) (j : Nat) : CacheKeeps tc (tc.lookup party j).1 := by
  unfold TagCache.lookup
  split
  · next h => exact putValid_cacheKeeps tc _ (find_eq_hit h).1
  · exact attach_cacheKeeps tc party j
  · next h => exact allocate_cacheKeeps tc party h
  · exact { order := id, fills := id, writes := id }

theorem putTag_keeps (s : State) (g : Nat) (r : TagRec) (h : s.tc.hasRoom = true) : Keeps s (s.putTag g r) := by
  unfold State.putTag
  split
  · next hv _ => exact setTc_keeps s _ ((putValid_cacheKeeps _ _ hv).trans (pushWrite_cacheKeeps _ _ _ h))
  · exact Keeps.refl s

/-- A lookup, with what the party does on a hit and when it waits. -/
theorem lookup_keeps (s : State) (party : Party) (j : Nat) {onHit : TagLine → State → State} {onWait : State → State}
    (hh : ∀ line tc, Keeps (s.setTc tc) (onHit line (s.setTc tc)))
    (hw : ∀ tc, Keeps (s.setTc tc) (onWait (s.setTc tc))) : Keeps s (s.lookup party j onHit onWait) := by
  have k := setTc_keeps s _ (lookup_cacheKeeps s.tc party j)
  unfold State.lookup
  split
  · next tc recs e => exact (e ▸ k).trans (hh recs _)
  · next tc e => exact (e ▸ k).trans (hw _)

/-- A change, with what follows when it is taken, refused or held. -/
theorem change_keeps (s : State) (party : Party) (g : Nat) (agrees : Bool) (r : TagRec)
    {taken refused held : State → State} (ht : Keeps (s.putTag g r) (taken (s.putTag g r))) (hr : Keeps s (refused s))
    (hh : ∀ tc, Keeps (s.setTc tc) (held (s.setTc tc))) : Keeps s (s.change party g agrees r taken refused held) := by
  unfold State.change
  split
  · split
    · next h => exact (putTag_keeps s g r h).trans ht
    · exact (setTc_keeps s _ (hold_cacheKeeps _ _)).trans (hh _)
  · exact hr

end Sys2Proof.Machine

namespace Sys2Proof.Machine

open Sys2Proof.Safety

/-! ## The engine's units -/

theorem notify_keeps_of_holds (s : State) (t : Ticket) (st : Completion) (h : holds s t) : Keeps s (s.notify t st) :=
  notify_keeps s t st fun hw _ hc => (phase_of_holds h hw hc).2.2

theorem notifyDone_keeps_of_holds (s : State) (t : Ticket) (h : holds s t) : Keeps s (s.notifyDone t) := by
  unfold State.notifyDone
  split
  · exact Keeps.refl s
  · exact notify_keeps_of_holds s t _ h

theorem holds_of_current {s u : State} {t : Ticket} (h : holds s t) (e : u.te.current = s.te.current) : holds u t := by
  unfold holds
  rwa [e]

@[simp] theorem updateCmd_current (s : State) (t : Ticket) (f : Cmd → Cmd) :
    (s.updateCmd t f).te.current = s.te.current := rfl

theorem holds_updateWork {s : State} {t : Ticket} (h : holds s t) (f : Work → Work)
    (hf : ∀ w, s.te.current = some w → (f w).ticket = w.ticket) : holds (s.updateWork f) t := by
  obtain ⟨w, hw, rfl⟩ := h
  exact ⟨f w, by simp [State.updateWork, hw], hf w hw⟩

theorem endDrain_keeps (s : State) (t : Ticket) (start : Nat) (h : holds s t) : Keeps s (s.endDrain t start) :=
  (updateCmd_keeps_of_holds s t .handoff h (by simp)).trans
    (updateWork_keeps_of_same _ _ (fun _ => rfl) (fun _ => by simp))

theorem snapshotRemove_keeps (s : State) (p : Port) (t : ReqTag) : Keeps s (s.snapshotRemove p t) := by
  unfold State.snapshotRemove
  split
  · exact Keeps.refl s
  · next w hw =>
    split
    · dsimp only
      split
      · split
        · exact endDrain_keeps s _ _ ⟨w, hw, rfl⟩
        · exact Keeps.refl s
      · refine updateWork_keeps s _ (fun _ _ => rfl) fun w' hw' h _ _ => ?_
        cases hw.symm.trans hw'
        exact (List.length_filter_le _ _).trans h
    · exact Keeps.refl s

/-- The snapshot of a drain holds at most the entries of the two ports. -/
theorem takeSnapshot_length (s : State) (c : Cmd) :
    (s.takeSnapshot c).length ≤ s.portA.table.length + s.portB.table.length := by
  simp only [State.takeSnapshot, List.length_append, List.length_map]
  have ha := List.length_filter_le (s.inSnapshot c) s.portA.table
  have hb := List.length_filter_le (s.inSnapshot c) s.portB.table
  omega

theorem enterDrain_keeps (s : State) (t : Ticket) (h : holds s t) : Keeps s (s.enterDrain t) := by
  unfold State.enterDrain
  split
  · exact Keeps.refl s
  · next c _ =>
    dsimp only
    split
    · exact endDrain_keeps s t _ h
    · refine (updateCmd_keeps_of_holds s t .drain h (by simp)).trans (updateWork_keeps _ _ (fun _ _ => rfl) ?_)
      intro _ _ _ ha hb
      have := takeSnapshot_length s c
      simp at ha hb ⊢
      omega

theorem enterMark_keeps (s : State) (t : Ticket) (start : Nat) (h : holds s t) : Keeps s (s.enterMark t start) :=
  (updateCmd_keeps_of_holds s t .mark h (by simp)).trans (updateWork_keeps_of_same _ _ (fun _ => by rfl) (fun _ => by rfl))

theorem applyRecount_keeps (s : State) (w : Work) (h : holds s w.ticket) : Keeps s (s.applyRecount w) := by
  unfold State.applyRecount
  dsimp only
  have k := applyCounts_keeps s w.heldCounts w.refCounts
  split
  · exact k.trans (notify_keeps_of_holds _ _ _ (holds_of_current h (by simp)))
  · exact (k.trans (setMc_keeps_of_same _ _ {})).trans (notify_keeps_of_holds _ _ _ (holds_of_current h (by simp)))

theorem endVerify_keeps (s : State) (w : Work) (c : Command) (h : holds s w.ticket) : Keeps s (s.endVerify w c) := by
  unfold State.endVerify
  split
  · split
    · exact enterMark_keeps s _ _ h
    · exact notify_keeps_of_holds s _ _ h
  · split
    · exact enterMark_keeps s _ _ h
    · exact notify_keeps_of_holds s _ _ h
  · exact enterDrain_keeps s _ h
  · exact applyRecount_keeps s w h
  · exact enterMark_keeps s _ _ h

theorem count_ticket (w : Work) (t : Tag) : (w.count t).ticket = w.ticket ∧ (w.count t).snapshot = w.snapshot := by
  cases t <;> exact ⟨rfl, rfl⟩

theorem verifyAct_keeps (s : State) (w : Work) (c : Command) (r : TagRec) (h : s.te.current = some w) :
    Keeps s (s.verifyAct w c r) := by
  have hh : holds s w.ticket := ⟨w, h, rfl⟩
  unfold State.verifyAct
  split
  · exact notify_keeps_of_holds s _ _ hh
  · exact updateWork_keeps_of_same s _ (fun _ => by rfl) (fun _ => by rfl)
  · dsimp only
    set w2 : Work := { (if c = .recount then w.count r.tag else w) with cursor := w.cursor + 1 } with hw2
    have ht : w2.ticket = w.ticket ∧ w2.snapshot = w.snapshot := by
      rw [hw2]
      split
      · exact count_ticket w r.tag
      · exact ⟨rfl, rfl⟩
    obtain ⟨ht, hsn⟩ := ht
    have k1 : Keeps s (if c = .recount then s.creditDone w.ticket else s) := by
      split
      · exact creditDone_keeps s _
      · exact Keeps.refl s
    have hc : (if c = .recount then s.creditDone w.ticket else s).te.current = some w := by
      split <;> simpa [State.creditDone] using h
    have k2 := k1.trans (updateWork_keeps _ (fun _ => w2) (fun x hx => by cases hc.symm.trans hx; exact ht)
      (fun x hx hl _ _ => by cases hc.symm.trans hx; exact hsn ▸ hl))
    split
    · exact k2.trans (endVerify_keeps _ _ _ ⟨w2, by simp [State.updateWork, hc], rfl⟩)
    · exact k2

theorem beginVerify_keeps (s : State) (w : Work) (c : Command) (h : holds s w.ticket) : Keeps s (s.beginVerify w c) := by
  have n := fun st => notify_keeps_of_holds s w.ticket st h
  unfold State.beginVerify
  (repeat' split) <;> first
    | exact n _
    | exact updateWork_keeps_of_same s _ (fun _ => by rfl) (fun _ => by rfl)

/-! ## MARK -/

theorem heldUp_keeps (s : State) (d : DomainId) : Keeps s (s.heldUp d) := setDomain_keeps_of_score s d _ rfl rfl rfl

theorem heldDown_keeps (s : State) (d : DomainId) : Keeps s (s.heldDown d) := setDomain_keeps_of_score s d _ rfl rfl rfl

theorem refUp_keeps (s : State) (i : ShareIx) : Keeps s (s.refUp i) := setShares_keeps s _

theorem refDown_keeps (s : State) (i : ShareIx) : Keeps s (s.refDown i) := setShares_keeps s _

/-- The counts that MARK changes with a tag keep every condition and the engine's work. -/
theorem markTag_keeps {t : Ticket} {c : Command} {r new : TagRec} {counts : State → State}
    (h : markTag t c r = some (new, counts)) (s : State) :
    Keeps s (counts s) ∧ (counts s).te.current = s.te.current := by
  have drop (s : State) (o : DomainId) (k : ShareIx) := (heldDown_keeps s o).trans (refDown_keeps _ k)
  unfold markTag at h
  (repeat' split at h) <;> cases h
  · exact ⟨(heldUp_keeps s _).trans (creditDone_keeps _ _), rfl⟩
  · exact ⟨(refUp_keeps s _).trans (creditDone_keeps _ _), rfl⟩
  · exact ⟨(refDown_keeps s _).trans (creditDone_keeps _ _), rfl⟩
  · exact ⟨heldDown_keeps s _, rfl⟩
  · exact ⟨drop s _ _, rfl⟩
  · exact ⟨heldDown_keeps s _, rfl⟩
  · exact ⟨drop s _ _, rfl⟩

theorem skipCredit_keeps (s : State) (t : Ticket) (c : Command) : Keeps s (s.skipCredit t c) := by
  unfold State.skipCredit
  split
  · exact Keeps.refl s
  · exact creditPoisoned_keeps s t

theorem skipCredit_current (s : State) (t : Ticket) (c : Command) :
    (s.skipCredit t c).te.current = s.te.current := by
  unfold State.skipCredit
  split <;> rfl

theorem endMark_keeps (s : State) (t : Ticket) (c : Command) (h : holds s t) : Keeps s (s.endMark t c) := by
  unfold State.endMark
  split
  · exact enterDrain_keeps s t h
  · exact enterDrain_keeps s t h
  · exact notifyDone_keeps_of_holds s t h

/-- The engine moves on by some granules. -/
theorem cursor_keeps (s : State) (n : Nat) : Keeps s (s.updateWork fun w => { w with cursor := w.cursor + n }) :=
  updateWork_keeps_of_same s _ (fun _ => by rfl) (fun _ => by rfl)

theorem markNext_keeps (s : State) (w : Work) (c : Command) (h : holds s w.ticket) : Keeps s (s.markNext w c) := by
  unfold State.markNext
  dsimp only
  split
  · exact (cursor_keeps s 1).trans (endMark_keeps _ _ _ (holds_updateWork h _ fun _ _ => by rfl))
  · exact cursor_keeps s 1

theorem engineWaits_keeps (s : State) : Keeps s s.engineWaits :=
  updateWork_keeps_of_same s _ (fun _ => by rfl) (fun _ => by rfl)

theorem noteCredited_keeps (s : State) (c : Command) (g : Nat) : Keeps s (s.noteCredited c g) := by
  unfold State.noteCredited
  split
  · exact updateWork_keeps_of_same s _ (fun _ => by rfl) (fun _ => by rfl)
  · exact Keeps.refl s

theorem holds_noteCredited {s : State} {t : Ticket} (h : holds s t) (c : Command) (g : Nat) :
    holds (s.noteCredited c g) t := by
  unfold State.noteCredited
  split
  · exact holds_updateWork h _ fun _ _ => rfl
  · exact h

theorem markAct_keeps (s : State) (w : Work) (c : Command) (r : TagRec) (h : holds s w.ticket) :
    Keeps s (s.markAct w c r) := by
  unfold State.markAct
  split
  · next new counts e =>
    refine change_keeps s _ _ _ _ ?_ (Keeps.refl s) (fun tc => engineWaits_keeps _)
    obtain ⟨k, hc⟩ := markTag_keeps e (s.putTag w.cursor new)
    exact k.trans (markNext_keeps _ w c (holds_of_current (holds_of_current h (by simp)) hc))
  · have hs : holds (s.skipCredit w.ticket c) w.ticket := holds_of_current h (skipCredit_current s _ _)
    exact ((skipCredit_keeps s _ _).trans (noteCredited_keeps _ _ _)).trans
      (markNext_keeps _ _ _ (holds_noteCredited hs _ _))

/-! ## Drain timeout -/

/-- A drain timeout goes on to the next granule, or ends with the last. -/
theorem timeoutNext_keeps (s : State) (t : Ticket) (b : Prop) [Decidable b] (h : holds s t) :
    Keeps s (if b then (s.updateWork fun w => { w with cursor := w.cursor + 1 }).notify t .drainTimeout
      else s.updateWork fun w => { w with cursor := w.cursor + 1 }) := by
  split
  · exact (cursor_keeps s 1).trans (notify_keeps_of_holds _ _ _ (holds_updateWork h _ fun _ _ => by rfl))
  · exact cursor_keeps s 1

theorem timeoutAct_keeps (s : State) (w : Work) (c : Command) (r : TagRec) (h : holds s w.ticket) :
    Keeps s (s.timeoutAct w c r) := by
  have next (s : State) (h : holds s w.ticket) := timeoutNext_keeps s w.ticket (c.stop s.tenants ≤ w.cursor + 1) h
  unfold State.timeoutAct
  dsimp only
  split
  · next o t _ =>
    split
    · refine change_keeps s _ _ _ _ ?_ (Keeps.refl s) (fun tc => engineWaits_keeps _)
      exact (creditPoisoned_keeps _ _).trans (next _ (holds_of_current h (by simp [State.creditPoisoned])))
    · exact next s h
  · exact next s h

/-! ## HANDOFF and runs -/

/-- Runs come and go within their bound; the write granule stays. -/
theorem setRuns_keeps (s : State) (rs : List Run) (h : s.su.runs.length ≤ 64 → rs.length ≤ 64) :
    Keeps s (s.setSu { s.su with runs := rs }) := setSu_keeps s _ h id

theorem updateTail_keeps (s : State) (f : Run → Run) : Keeps s (s.updateTail f) := by
  unfold State.updateTail
  split
  · exact Keeps.refl s
  · next r hr =>
    refine setRuns_keeps s _ ?_
    have : s.su.runs ≠ [] := by
      rintro e
      simp [e] at hr
    have := List.length_pos_of_ne_nil this
    simp only [List.length_append, List.length_dropLast, List.length_singleton]
    omega

theorem appendRun_keeps (s : State) (first : Nat) (t : Option Ticket) (h : s.su.runs.length < 64) :
    Keeps s (s.appendRun first t) := setRuns_keeps s _ (by simp; omega)

theorem engineOpens_keeps (s : State) (w : Work) (h : s.su.runs.length < 64) : Keeps s (s.engineOpens w) :=
  ((appendRun_keeps s _ _ h).trans (updateCmd_keeps_of_phase _ _ _ (fun _ => by rfl) (fun _ => by rfl) (fun _ => by rfl))).trans
    (updateWork_keeps_of_same _ _ (fun _ => by rfl) (fun _ => by rfl))

theorem openRun_keeps (s : State) (w : Work) : Keeps s (s.openRun w) := by
  unfold State.openRun
  split
  · next h => exact engineOpens_keeps s w h
  · exact updateWork_keeps_of_same s _ (fun _ => by rfl) (fun _ => by rfl)

theorem closeRun_keeps (s : State) : Keeps s s.closeRun :=
  (updateTail_keeps s _).trans (updateWork_keeps_of_same _ _ (fun _ => by rfl) (fun _ => by rfl))

theorem holds_updateTail {s : State} {t : Ticket} (h : holds s t) (f : Run → Run) : holds (s.updateTail f) t :=
  holds_of_current h (by simp)

theorem holds_closeRun {s : State} {t : Ticket} (h : holds s t) : holds s.closeRun t :=
  holds_updateWork (holds_updateTail h _) _ fun _ _ => rfl

theorem growRun_keeps (s : State) (n : Nat) : Keeps s (s.growRun n) := by
  unfold State.growRun
  dsimp only
  split
  · exact (updateTail_keeps s _).trans (closeRun_keeps _)
  · exact updateTail_keeps s _

theorem holds_growRun {s : State} {t : Ticket} (h : holds s t) (n : Nat) : holds (s.growRun n) t := by
  unfold State.growRun
  dsimp only
  split
  · exact holds_closeRun (holds_updateTail h _)
  · exact holds_updateTail h _

theorem skipInRun_keeps (s : State) (w : Work) : Keeps s (s.skipInRun w) := by
  unfold State.skipInRun
  split
  · split
    · exact updateTail_keeps s _
    · exact closeRun_keeps s
  · exact Keeps.refl s

theorem holds_skipInRun {s : State} {t : Ticket} (h : holds s t) (w : Work) : holds (s.skipInRun w) t := by
  unfold State.skipInRun
  split
  · split
    · exact holds_updateTail h _
    · exact holds_closeRun h
  · exact h

/-- A command in SCRUB whose runs are all gone enters NOTIFY. -/
theorem notifyDone_keeps_of_scrub (s : State) (t : Ticket) (h : ∀ c, s.cmd t = some c → c.phase = .scrub) :
    Keeps s (s.notifyDone t) := by
  unfold State.notifyDone
  split
  · exact Keeps.refl s
  · exact notify_keeps s t _ fun _ c hc => by simp [h c hc]

theorem endHandoff_keeps (s : State) (t : Ticket) (h : holds s t) : Keeps s (s.endHandoff t) := by
  unfold State.endHandoff
  dsimp only
  set s1 := if (s.te.current.map Work.runOpen).getD false then s.closeRun else s with hs1
  have k1 : Keeps s s1 := by
    rw [hs1]
    split
    · exact closeRun_keeps s
    · exact Keeps.refl s
  have h1 : holds s1 t := by
    rw [hs1]
    split
    · exact holds_closeRun h
    · exact h
  have k2 := k1.trans (setTe_keeps_of_map s1 t (fun c => { c with phase := .scrub }) none (fun _ => rfl) (fun _ => rfl)
    (by simp) (by simp) (fun hw c hc e => absurd e (phase_of_holds h1 hw hc).2.2) (by simp))
  split
  · split
    · refine k2.trans (notifyDone_keeps_of_scrub _ _ fun c hc => ?_)
      have e := State.updateCmd_cmd s1 t t (fun c => { c with phase := .scrub }) fun _ => rfl
      rw [if_pos rfl] at e
      obtain ⟨c', -, rfl⟩ := Option.map_eq_some_iff.1 (e.symm.trans hc)
      rfl
    · exact k2
  · exact k2

theorem handoffNext_keeps (s : State) (w : Work) (c : Command) (n : Nat) (h : holds s w.ticket) :
    Keeps s (s.handoffNext w c n) := by
  unfold State.handoffNext
  dsimp only
  split
  · exact (cursor_keeps s n).trans (endHandoff_keeps _ _ (holds_updateWork h _ fun _ _ => by rfl))
  · exact cursor_keeps s n

theorem creditSkipped_keeps (s : State) (w : Work) (c : Command) : Keeps s (s.creditSkipped w c) := by
  unfold State.creditSkipped
  split
  · exact Keeps.refl s
  · exact skipCredit_keeps s _ _

theorem handoffAct_keeps (s : State) (w : Work) (c : Command) (r : TagRec) (h : holds s w.ticket) :
    Keeps s (s.handoffAct w c r) := by
  unfold State.handoffAct
  split
  · split
    · refine change_keeps s _ _ _ _ ?_ (Keeps.refl s) (fun tc => engineWaits_keeps _)
      exact (growRun_keeps _ 1).trans (handoffNext_keeps _ _ _ _ (holds_growRun (holds_of_current h (by simp)) 1))
    · exact openRun_keeps s w
  · refine ((skipInRun_keeps s w).trans (creditSkipped_keeps _ w c)).trans (handoffNext_keeps _ _ _ _ ?_)
    refine holds_of_current (holds_skipInRun h w) ?_
    unfold State.creditSkipped
    split
    · rfl
    · exact skipCredit_current _ _ _

/-! ## FORMAT and the engine's step -/

theorem installed_keeps (s : State) (w : Work) (c : Command) (h : holds s w.ticket) : Keeps s (s.installed w c) :=
  ((updateWork_keeps_of_same s _ (fun _ => by rfl) (fun _ => by rfl)).trans (growRun_keeps _ 4)).trans
    (handoffNext_keeps _ _ _ _ (holds_growRun (holds_updateWork h _ fun _ _ => by rfl) 4))

/-- FORMAT's records are put in a way that the search of the line's set names. -/
theorem install_cacheKeeps (tc : TagCache) {j way : Nat} (recs : TagLine)
    (h : (∃ old, tc.find j = .hit way old) ∨ tc.find j = .room way) (hr : tc.hasRoom = true) :
    CacheKeeps tc ((tc.putValid way j recs).pushWrite j recs) := by
  refine CacheKeeps.trans (y := tc.putValid way j recs) ?_ (pushWrite_cacheKeeps _ _ _ hr)
  rcases h with ⟨old, h⟩ | h
  · exact putValid_cacheKeeps tc recs (find_eq_hit h).1
  · obtain ⟨-, -, -, st, hm, hst⟩ := find_eq_room h
    exact
      { order := fun hw => cacheWf_putValid hw recs hm (.inr (line_of_find_room h)) hw.2.1 fun f hf =>
          ⟨hf, fun _ e => isPending_ne hst f.line (by simpa using (congrArg Prod.snd e).symm)⟩
        fills := id
        writes := id }

theorem install_keeps (s : State) (w : Work) (c : Command) (h : holds s w.ticket) : Keeps s (s.install w c) := by
  have put (way : Nat) (hf : (∃ old, s.tc.find (lineOf w.cursor) = .hit way old) ∨ s.tc.find (lineOf w.cursor) = .room way) :
      Keeps s (if s.tc.hasRoom then
        (s.setTc ((s.tc.putValid way (lineOf w.cursor) (formatLine w.ticket)).pushWrite (lineOf w.cursor)
          (formatLine w.ticket))).installed w c
        else (s.setTc (s.tc.hold (.install (lineOf w.cursor)))).engineWaits) := by
    split
    · next hr => exact (setTc_keeps s _ (install_cacheKeeps _ _ hf hr)).trans (installed_keeps _ _ _ h)
    · exact (setTc_keeps s _ (hold_cacheKeeps _ _)).trans (engineWaits_keeps _)
  unfold State.install
  dsimp only
  split
  · refine (setTc_keeps s _ (mapFills_cacheKeeps _ _ ?_ ?_)).trans (engineWaits_keeps _) <;>
      exact fun x => by split <;> rfl
  · exact (setTc_keeps s _ (by exact { order := id, fills := id, writes := id })).trans (engineWaits_keeps _)
  · next e => exact put _ (.inl ⟨_, e⟩)
  · next e => exact put _ (.inr e)

theorem currentCmd_eq_some {s : State} {w : Work} {c : Cmd} (h : s.currentCmd = some (w, c)) :
    s.te.current = some w ∧ s.cmd w.ticket = some c := by
  obtain ⟨w', hw, e⟩ := Option.bind_eq_some_iff.1 h
  obtain ⟨c', hc, e⟩ := Option.map_eq_some_iff.1 e
  cases e
  exact ⟨hw, hc⟩

theorem engineAct_keeps (line : TagLine) (s : State) : Keeps s (s.engineAct line) := by
  unfold State.engineAct
  split
  · exact Keeps.refl s
  · next w c e =>
    have hw := (currentCmd_eq_some e).1
    have hh : holds s w.ticket := ⟨w, hw, rfl⟩
    dsimp only
    split
    · exact verifyAct_keeps s w _ _ hw
    · exact markAct_keeps s w _ _ hh
    · exact timeoutAct_keeps s w _ _ hh
    · exact handoffAct_keeps s w _ _ hh
    · exact Keeps.refl s

theorem engineTry_keeps (s : State) : Keeps s s.engineTry := by
  unfold State.engineTry
  split
  · exact Keeps.refl s
  · next w c e =>
    split
    · exact install_keeps s w _ ⟨w, (currentCmd_eq_some e).1, rfl⟩
    · exact lookup_keeps s _ _ (fun line tc => engineAct_keeps line _) (fun tc => engineWaits_keeps _)

theorem engineRetry_keeps (s : State) : Keeps s s.engineRetry :=
  (updateWork_keeps_of_same s _ (fun _ => by rfl) (fun _ => by rfl)).trans (engineTry_keeps _)

end Sys2Proof.Machine

namespace Sys2Proof.Machine

open Sys2Proof.Safety

/-! ## The scrubber -/

theorem leaveRun_keeps (s : State) : Keeps s s.leaveRun := by
  unfold State.leaveRun
  split
  · exact Keeps.refl s
  · next r rest e => exact setRuns_keeps s _ (by simp [e])

theorem setWaiting_keeps (s : State) (x : Option WaitingChange) : Keeps s (s.setSu { s.su with waiting := x }) :=
  setSu_keeps s _ id id

theorem reportGranule_keeps (s : State) (g : Nat) (t : Option Ticket) (freed : Bool) :
    Keeps s (s.reportGranule g t freed) := by
  unfold State.reportGranule
  dsimp only
  refine Keeps.trans (t := match t with
    | none => s
    | some t => if freed then s.creditDone t else s.creditPoisoned t) ?_
    (updateWork_keeps_of_same _ _ (fun w => by split <;> rfl) (fun w => by split <;> rfl))
  split
  · exact Keeps.refl s
  · split
    · exact creditDone_keeps s _
    · exact creditPoisoned_keeps s _

theorem changeDone_keeps (s : State) (g : Nat) (freed : Bool) : Keeps s (s.changeDone g freed) :=
  ((leaveRun_keeps s).trans (setWaiting_keeps _ none)).trans (reportGranule_keeps _ _ _ _)

theorem scrubAct_keeps (w : WaitingChange) (line : TagLine) (s : State) : Keeps s (s.scrubAct w line) := by
  unfold State.scrubAct
  dsimp only
  split
  · exact change_keeps s _ _ _ _ (changeDone_keeps _ _ _) (Keeps.refl s) (fun tc => Keeps.refl _)
  · exact changeDone_keeps s _ _

theorem scrubIssue_keeps (s : State) (w : WaitingChange) : Keeps s (s.scrubIssue w) :=
  (setWaiting_keeps s (some { w with issued := true })).trans
    (lookup_keeps _ _ _ (fun line _ => scrubAct_keeps w line _) (fun _ => Keeps.refl _))

theorem scrubRetry_keeps (s : State) : Keeps s s.scrubRetry := by
  unfold State.scrubRetry
  split
  · exact Keeps.refl s
  · split
    · exact setWaiting_keeps s _
    · exact scrubIssue_keeps s _

theorem advance_keeps (s : State) : Keeps s (s.setSu s.su.advance) := by
  refine setSu_keeps s _ ?_ ?_ <;> unfold Scrubber.advance <;> (repeat' split) <;> simp_all

theorem scrubPump_keeps (s : State) : Keeps s s.scrubPump := by
  unfold State.scrubPump
  dsimp only
  have k := advance_keeps s
  split
  · split
    · exact k
    · exact k.trans (scrubIssue_keeps _ _)
  · exact k

theorem reportRun_keeps (s : State) (t : Option Ticket) : Keeps s (s.reportRun t) := by
  unfold State.reportRun
  split
  · exact Keeps.refl s
  · next t =>
    dsimp only
    have k : Keeps s (s.updateCmd t fun c => { c with runs := c.runs - 1 }) :=
      updateCmd_keeps_of_phase _ _ _ (fun _ => rfl) (fun _ => rfl) (fun _ => rfl)
    split
    · next c hc =>
      split
      · next h =>
        refine k.trans (notifyDone_keeps_of_scrub _ _ fun c' hc' => ?_)
        cases hc.symm.trans hc'
        exact h.2
      · exact k
    · exact k

/-- Recovery walks over the tags. -/
def walking (s : State) : Prop := ∃ w, s.mc.recovery = some (.walk w)

/-- A change of the mode controller in which recovery goes on from one stage to another. -/
theorem setMc_keeps_of_recovery (s : State) (r : Recovery) (x : ModeController) (hm : x.mode = s.mc.mode)
    (ht : x.pendingTarget = s.mc.pendingTarget) (ho : x.suspendOrigin = s.mc.suspendOrigin)
    (hi : x.inReset = s.mc.inReset) (hs : s.mc.recovery ≠ none) (hr : x.recovery = some r)
    (hd : ∀ n, r = .domains n → n < 512) : Keeps s (s.setMc x) where
  domains := by
    rintro ⟨h1, h2, h3, h4, -⟩
    refine ⟨h1, h2, h3, h4, fun n e => hd n ?_⟩
    simpa [hr] using e
  notices := by simp [noticesWf, recoveryWf, State.cmd, hm, ht, hr, hi, hs]
  writes := by simp [writeWf, recoveryWf, modeWf, hm, ht, ho, hr, hi, hs]

theorem setWalk_keeps (s : State) (w : Walk) (h : walking s) : Keeps s (s.setWalk w) := by
  obtain ⟨w', hw⟩ := h
  exact setMc_keeps_of_recovery s _ _ rfl rfl rfl rfl (by simp [hw]) rfl (by simp)

theorem walking_setWalk (s : State) (w : Walk) : walking (s.setWalk w) := ⟨w, rfl⟩

theorem walking_of_recovery {s u : State} (h : walking s) (e : u.mc.recovery = s.mc.recovery) : walking u := by
  unfold walking
  rwa [e]

/-- The order of things does not depend on the number of runs. -/
theorem setRuns_order (s : State) (rs : List Run) : KeepsOrder s (s.setSu { s.su with runs := rs }) where

/-- The report that a run has its place. -/
theorem engineOpens_report_keeps (s : State) (t : Ticket) : Keeps s ((s.updateCmd t fun c => { c with runs := c.runs + 1 }).updateWork
    fun w => { w with runOpened := true, runOpen := true, placeWait := false }) :=
  (updateCmd_keeps_of_phase _ _ _ (fun _ => by rfl) (fun _ => by rfl) (fun _ => by rfl)).trans
    (updateWork_keeps_of_same _ _ (fun _ => by rfl) (fun _ => by rfl))

theorem placeFreed_order (s : State) : KeepsOrder s s.placeFreed := by
  unfold State.placeFreed
  split
  · split
    · exact (setRuns_order s _).trans (engineOpens_report_keeps _ _).toKeepsOrder
    · exact (Keeps.refl s).toKeepsOrder
  · split
    · next w hw =>
      split
      · exact (setRuns_order s _).trans (setWalk_keeps (s.appendRun w.cursor none) _ ⟨w, hw⟩).toKeepsOrder
      · exact (Keeps.refl s).toKeepsOrder
    · exact (Keeps.refl s).toKeepsOrder

theorem placeFreed_keeps (s : State) (h : s.su.runs.length < 64) : Keeps s s.placeFreed := by
  unfold State.placeFreed
  split
  · split
    · exact engineOpens_keeps s _ h
    · exact Keeps.refl s
  · split
    · next w hw =>
      split
      · exact (appendRun_keeps s _ _ h).trans (setWalk_keeps (s.appendRun w.cursor none) _ ⟨w, hw⟩)
      · exact Keeps.refl s
    · exact Keeps.refl s

/-- The head run leaves the list, its command is told, and the one that waits for a place has it. -/
theorem removeHead_keeps (s : State) (r : Run) (rest : List Run) (h : s.su.runs = r :: rest) (t : Option Ticket) :
    Keeps s (((s.setSu { s.su with runs := rest }).reportRun t).placeFreed) := by
  have k := reportRun_keeps (s.setSu { s.su with runs := rest }) t
  have kr := setRuns_keeps s rest (by simp [h]; omega)
  exact
    { toKeepsOrder := (kr.trans k).toKeepsOrder.trans (placeFreed_order _)
      capacity := fun hc => (placeFreed_keeps _ (by
        have : s.su.runs.length ≤ 64 := hc.2.2.2.2.1
        rw [h] at this
        simpa using this)).capacity ((kr.trans k).capacity hc) }

theorem removeRuns_keeps (n : Nat) (s : State) : Keeps s (State.removeRuns n s) := by
  induction n generalizing s with
  | zero => exact Keeps.refl s
  | succ n ih =>
    unfold State.removeRuns
    split
    · exact Keeps.refl s
    · next r rest e =>
      split
      · exact (removeHead_keeps s r rest e r.ticket).trans (ih _)
      · exact Keeps.refl s

theorem setPacing_keeps (s : State) (x : Option Byte) : Keeps s (s.setSu { s.su with pacing := x }) :=
  setSu_keeps s _ id id

/-- A burst issues 16 of the 64 writes of a granule, once those before have completed. -/
theorem burst_write (u : Scrubber) (i : Byte) (h : ∀ y, u.write = some y → y.completed + y.inFlight.length ≤ 64) :
    ∀ y, (u.burst i).write = some y → y.completed + y.inFlight.length ≤ 64 := by
  intro y hy
  unfold Scrubber.burst at hy
  (repeat' split at hy) <;> try exact h y hy
  · next w hw hb =>
    cases hy
    simp only [burstLines, List.length_map, List.length_range]
    omega
  · cases hy
    simp [burstLines]

theorem burst_runs (u : Scrubber) (i : Byte) : (u.burst i).runs = u.runs := by
  unfold Scrubber.burst
  (repeat' split) <;> rfl

theorem burst_keeps (s : State) (i : Byte) : Keeps s (s.setSu (s.su.burst i)) :=
  setSu_keeps s _ (by rw [burst_runs]; exact id) (burst_write _ _)

theorem scrubSettle_keeps (s : State) : Keeps s s.scrubSettle := by
  unfold State.scrubSettle
  split
  · exact Keeps.refl s
  · dsimp only
    have k := ((scrubPump_keeps s).trans (scrubPump_keeps _)).trans (removeRuns_keeps (Config.runCapacity + 1) _)
    split
    · exact k.trans (burst_keeps _ _)
    · exact (k.trans (setPacing_keeps _ none)).trans (burst_keeps _ _)

/-! ## The walk -/

/-- The end of recovery. -/
theorem endRecovery_keeps (s : State) (n l r : Nat) (h : s.mc.recovery ≠ none) : Keeps s (s.endRecovery n l r) := by
  have ends (hr : recoveryWf s) : s.mc.inReset = none ∧ s.mc.mode = .recovering ∧ s.mc.pendingTarget = none := by
    refine ⟨?_, hr.2 (.inr h)⟩
    by_contra hc
    exact h (hr.1 hc)
  have k : Keeps s (s.setMc { s.mc with
      mode := .config, countsStale := false, decayTimer := some s.mc.decayCode, recovery := none, fixups := [] }) :=
    { domains := by simp +contextual [domainsWf, State.domain]
      notices := fun hn => by
        obtain ⟨h1, h2, h3, h4, h5⟩ := (noticesWf_iff s).1 hn
        obtain ⟨hi, -, -⟩ := ends h4
        exact (noticesWf_iff _).2 ⟨h1, h2, h3, by simp [recoveryWf, hi], by simp [stillWf, hi]⟩
      writes := fun ⟨h1, h2, h3⟩ => by
        obtain ⟨hi, hm, hp⟩ := ends h1
        obtain ⟨h4, -⟩ := h2
        rw [hm] at h4
        exact ⟨by simp [recoveryWf, hi], by simpa [modeWf, hp] using h4, h3⟩ }
  refine k.placeNotice _ fun hn => placeNotice_keeps _ _ (by simp) (fun _ _ => ?_) (by simp [completionTicket]) (fun _ => ?_)
  · obtain ⟨-, -, -, -, h5⟩ := (noticesWf_iff s).1 hn
    exact (h5 (.inr h)).1
  · obtain ⟨-, -, -, h4, -⟩ := (noticesWf_iff s).1 hn
    exact ⟨(ends h4).1, rfl⟩

theorem fixQuota_keeps (s : State) (n : Nat) : Keeps s (s.fixQuota n) := by
  unfold State.fixQuota
  dsimp only
  split
  · exact setDomain_keeps_of_score s _ _ rfl rfl rfl
  · split
    · exact writeDomain_keeps_of_score s _ _ rfl rfl rfl
    · exact Keeps.refl s

theorem finishWalk_keeps (s : State) (w : Walk) (h : walking s) : Keeps s (s.finishWalk w) := by
  obtain ⟨w', hw⟩ := h
  refine ((applyCounts_keeps s _ _).trans (Keeps.foldl fixQuota_keeps _ _)).trans (endRecovery_keeps _ _ _ _ ?_)
  simp [hw]

theorem ownerFound_keeps (s : State) (d : DomainId) : Keeps s (s.ownerFound d) := by
  unfold State.ownerFound
  split
  · next h =>
    refine (setDomain_keeps s d _ (fun _ => by simp [scoreWf]) ?_).trans (setMc_keeps_of_same _ _ (by constructor <;> simp))
    rintro ⟨-, h0, -⟩ rfl
    cases h.symm.trans h0
  · exact Keeps.refl s

theorem walkCloses_keeps (s : State) (w : Walk) (h : walking s) : Keeps s (s.walkCloses w) := by
  unfold State.walkCloses
  split
  · exact (updateTail_keeps s _).trans (setWalk_keeps _ _ (walking_of_recovery h (by simp)))
  · exact Keeps.refl s

theorem walking_walkCloses {s : State} (h : walking s) (w : Walk) : walking (s.walkCloses w) := by
  unfold State.walkCloses
  split
  · exact walking_setWalk _ _
  · exact h

theorem walkNext_keeps (s : State) (h : walking s) : Keeps s s.walkNext := setWalk_keeps s _ h

theorem walkWaits_keeps (s : State) (h : walking s) : Keeps s s.walkWaits := setWalk_keeps s _ h

theorem requeued_keeps (s : State) (h : walking s) : Keeps s s.requeued := by
  unfold State.requeued
  dsimp only
  split
  · exact (updateTail_keeps s _).trans (walkCloses_keeps _ _ (walking_of_recovery h (by simp)))
  · exact updateTail_keeps s _

theorem walking_requeued {s : State} (h : walking s) : walking s.requeued := by
  unfold State.requeued
  dsimp only
  have h' : walking (s.updateTail fun r => { r with count := r.count + 1 }) := walking_of_recovery h (by simp)
  split
  · exact walking_walkCloses h' _
  · exact h'

theorem hold_keeps (s : State) (h : Held) : Keeps s (s.setTc (s.tc.hold h)) := setTc_keeps s _ (hold_cacheKeeps _ _)

theorem requeue_keeps (s : State) (g : Nat) (r : TagRec) (owner : Option DomainId) (h : walking s) :
    Keeps s (s.requeue g r owner).1 ∧ walking (s.requeue g r owner).1 := by
  unfold State.requeue
  dsimp only
  split
  · exact ⟨setWalk_keeps s _ h, walking_setWalk _ _⟩
  · next hp =>
    set s1 := if s.walk.runOpen then s else (s.appendRun g none).setWalk { s.walk with runOpen := true } with hs1
    have k1 : Keeps s s1 ∧ walking s1 := by
      rw [hs1]
      split
      · exact ⟨Keeps.refl s, h⟩
      · next ho =>
        have hl : s.su.runs.length < 64 := Nat.not_le.1 fun hle => hp (by simp [ho, Config.runCapacity, hle])
        exact ⟨(appendRun_keeps s g none hl).trans (setWalk_keeps _ _ (walking_of_recovery h rfl)), walking_setWalk _ _⟩
    obtain ⟨k1, h1⟩ := k1
    split
    · next hr =>
      have h2 : walking (s1.putTag g { r with tag := .scrubbing owner none }) := walking_of_recovery h1 (by simp)
      exact ⟨((k1.trans (putTag_keeps _ _ _ hr)).trans (requeued_keeps _ h2)).trans
        (walkNext_keeps _ (walking_requeued h2)), walking_setWalk _ _⟩
    · exact ⟨(k1.trans (hold_keeps _ _)).trans (walkWaits_keeps _ (walking_of_recovery h1 rfl)), walking_setWalk _ _⟩

theorem walkTag_keeps (s : State) (g : Nat) (r : TagRec) (h : walking s) :
    Keeps s (s.walkTag g r).1 ∧ walking (s.walkTag g r).1 := by
  have kc := walkCloses_keeps s s.walk h
  have hc := walking_walkCloses h s.walk
  have owner (o : DomainId) : Keeps s ((s.walkCloses s.walk).ownerFound o) ∧ walking ((s.walkCloses s.walk).ownerFound o) :=
    ⟨kc.trans (ownerFound_keeps _ o), walking_of_recovery hc (by simp)⟩
  unfold State.walkTag
  split
  · exact ⟨walkNext_keeps s h, walking_setWalk _ _⟩
  · split
    · next o _ _ => exact ⟨(owner o).1.trans (walkNext_keeps _ (owner o).2), walking_setWalk _ _⟩
    · next o rights i _ =>
      obtain ⟨k1, h1⟩ := owner o
      dsimp only
      split
      · exact ⟨k1.trans (walkNext_keeps _ h1), walking_setWalk _ _⟩
      · split
        · next hr =>
          exact ⟨(k1.trans (putTag_keeps _ _ _ hr)).trans (walkNext_keeps _ (walking_of_recovery h1 (by simp))),
            walking_setWalk _ _⟩
        · exact ⟨(k1.trans (hold_keeps _ _)).trans (walkWaits_keeps _ (walking_of_recovery h1 rfl)), walking_setWalk _ _⟩
    · exact requeue_keeps s g r _ h
    · exact requeue_keeps s g r _ h
    · exact ⟨kc.trans (walkNext_keeps _ hc), walking_setWalk _ _⟩

theorem endPass_keeps (s : State) (h : walking s) : Keeps s s.endPass := by
  have kc := walkCloses_keeps s s.walk h
  have hc := walking_walkCloses h s.walk
  unfold State.endPass
  dsimp only
  split
  · exact kc.trans (setWalk_keeps _ _ hc)
  · exact kc.trans (finishWalk_keeps _ _ hc)

theorem walkGranules_keeps (l : List Nat) (line : TagLine) (s : State) (h : walking s) :
    Keeps s (State.walkGranules line l s) := by
  induction l generalizing line s with
  | nil =>
    unfold State.walkGranules State.lineDone
    dsimp only
    split
    · exact (setWalk_keeps s _ h).trans (endPass_keeps _ (walking_setWalk _ _))
    · exact setWalk_keeps s _ h
  | cons g gs ih =>
    obtain ⟨k, hw⟩ := walkTag_keeps s g (line.get (g % 4)) h
    unfold State.walkGranules
    split
    · next e => rw [e] at k hw; exact k.trans (ih _ _ hw)
    · next e => rw [e] at k; exact k

theorem walkTry_keeps (s : State) (h : walking s) : Keeps s s.walkTry :=
  lookup_keeps s _ _ (fun line _ => walkGranules_keeps _ line _ (walking_of_recovery h rfl))
    (fun _ => walkWaits_keeps _ (walking_of_recovery h rfl))

theorem walkRetry_keeps (s : State) (h : walking s) : Keeps s s.walkRetry :=
  (setWalk_keeps s _ h).trans (walkTry_keeps _ (walking_setWalk _ _))

/-! ## Queries -/

theorem queryAct_keeps (q : Query) (line : TagLine) (s : State) (h : s.cp.executing = some q) :
    Keeps s (s.queryAct q line) := by
  have fits : replyFits s := .inl (by simp [h])
  unfold State.queryAct
  split
  · exact answer_keeps s _ _ fits
  · dsimp only
    split
    · exact answer_keeps s _ _ fits
    · exact setCp_keeps s _ id rfl id id (by simp [ControlPort.placesUsed, h])

theorem queryTry_keeps (n : Nat) (s : State) : Keeps s (State.queryTry n s) := by
  induction n generalizing s with
  | zero => exact Keeps.refl s
  | succ n ih =>
    unfold State.queryTry
    split
    · exact Keeps.refl s
    · next q hq =>
      exact lookup_keeps s _ _ (fun line tc => (queryAct_keeps q line (s.setTc tc) hq).trans (ih _)) fun _ => Keeps.refl _

end Sys2Proof.Machine

namespace Sys2Proof.Machine

open Sys2Proof.Safety

/-! ## Requests -/

theorem standingRecord_keeps (s : State) (d : DomainId) (n : Standing) : Keeps s (s.standingRecord d n) := by
  unfold State.standingRecord
  split
  · exact logRecord_keeps s _
  · dsimp only
    split
    · exact (logRecord_keeps s _).trans (setVl_keeps _ _ id)
    · exact logRecord_keeps s _
  · exact Keeps.refl s

theorem standingChange_keeps (s : State) (d : DomainId) (old new : Standing) : Keeps s (s.standingChange d old new) := by
  unfold State.standingChange
  split
  · exact Keeps.refl s
  · dsimp only
    split
    · exact (standingRecord_keeps s d new).trans (setFlag_keeps _ _)
    · exact standingRecord_keeps s d new

theorem watch_keeps (s : State) (p : Port) (e : Entry) (seen : TagSeen) : Keeps s (s.watch p e seen) := by
  unfold State.watch
  dsimp only
  split
  · exact (logRecord_keeps s _).trans (setFlag_keeps _ _)
  · exact Keeps.refl s

theorem ruleEffects_keeps (s : State) (p : Port) (e : Entry) (r : Ruling) : Keeps s (s.ruleEffects p e r) := by
  unfold State.ruleEffects
  dsimp only
  set s1 := if r.scored && e.domain != 0 then s.countRefusal e.domain else s with hs1
  have k1 : Keeps s s1 := by
    rw [hs1]
    split
    · next h => exact countRefusal_keeps s _ (by simp at h; exact h.2)
    · exact Keeps.refl s
  set s2 := if r.logged then
      s1.logRecord (.deny p e.domain (granuleOf e.lineNo) (lineInGranule e.lineNo) e.op r.reason r.served r.seen)
    else s1 with hs2
  have k2 : Keeps s s2 := by
    rw [hs2]
    split
    · exact k1.trans (logRecord_keeps _ _)
    · exact k1
  split
  · exact (k2.trans (standingChange_keeps _ _ _ _)).trans (watch_keeps _ _ _ _)
  · exact k2.trans (watch_keeps _ _ _ _)

/-- Entries change in no tag, and the send list gains or loses neither a refusal nor an acknowledgement. -/
theorem portWf_of_same {p q : PortRec} (hl : q.tagLimit = p.tagLimit) (ht : q.table.map Entry.tag = p.table.map Entry.tag)
    (hr : q.sendList.filter SendItem.isRefusal = p.sendList.filter SendItem.isRefusal)
    (ha : q.sendList.filter SendItem.isAck = p.sendList.filter SendItem.isAck) (h : portWf p) : portWf q := by
  have hlen : q.table.length = p.table.length := by simpa using congrArg List.length ht
  simpa only [portWf, hl, ht, hr, ha, hlen] using h

/-- Entries are removed. -/
theorem portWf_filter {p : PortRec} (f : Entry → Bool) (h : portWf p) : portWf { p with table := p.table.filter f } := by
  obtain ⟨h1, h2, h3, h4, h5, h6⟩ := h
  exact ⟨h1, h2, (List.length_filter_le _ _).trans h3, h4.sublist (List.filter_sublist.map _), h5, h6⟩

theorem updateEntry_tags (p : PortRec) (t : ReqTag) (f : Entry → Entry) (hf : ∀ e, (f e).tag = e.tag) :
    (p.updateEntry t f).table.map Entry.tag = p.table.map Entry.tag := by
  simp only [PortRec.updateEntry, List.map_map]
  refine List.map_congr_left fun e _ => ?_
  simp only [Function.comp]
  split <;> simp [hf]

theorem removeEntry_keeps (s : State) (p : Port) (t : ReqTag) : Keeps s (s.removeEntry p t) :=
  (updatePort_keeps s p _ (portWf_filter _)).trans (snapshotRemove_keeps _ p t)

theorem respond_keeps (s : State) (p : Port) (t : ReqTag) (f : PortRec → Response) :
    Keeps s (s.updatePort p fun r => r.respond t (f r)) := by
  refine updatePort_keeps s p _ (portWf_of_same rfl (updateEntry_tags _ _ _ fun _ => rfl) ?_ ?_) <;>
    simp [PortRec.respond, PortRec.updateEntry, List.filter_append, SendItem.isRefusal, SendItem.isAck]

theorem refuseEntry_keeps (s : State) (p : Port) (e : Entry) (reason : Reason) : Keeps s (s.refuseEntry p e reason) := by
  unfold State.refuseEntry
  split
  · exact removeEntry_keeps s p _
  · exact respond_keeps s p _ fun r => { outcome := refusedOutcome r.poison e.op, reason := reason, data := [] }

theorem serveEntry_keeps (s : State) (p : Port) (e : Entry) : Keeps s (s.serveEntry p e) :=
  updatePort_keeps s p _ (portWf_of_same rfl (updateEntry_tags _ _ _ fun _ => rfl) rfl rfl)

theorem applyRuling_keeps (s : State) (p : Port) (e : Entry) (r : Ruling) : Keeps s (s.applyRuling p e r) := by
  unfold State.applyRuling
  dsimp only
  split
  · exact (ruleEffects_keeps s p e r).trans (serveEntry_keeps _ _ _)
  · exact (ruleEffects_keeps s p e r).trans (refuseEntry_keeps _ _ _ _)

theorem decideWithTag_keeps (s : State) (p : Port) (e : Entry) (line : TagLine) : Keeps s (s.decideWithTag p e line) := by
  unfold State.decideWithTag
  split
  · exact applyRuling_keeps s p e _
  · exact refuseEntry_keeps s p e _
  · exact Keeps.refl s

theorem lookupRequest_keeps (s : State) (p : Port) (e : Entry) : Keeps s (s.lookupRequest p e) :=
  lookup_keeps s _ _ (fun line _ => decideWithTag_keeps _ p e line) (fun _ => Keeps.refl _)

theorem takeRequest_keeps (s : State) (p : Port) (t : ReqTag) : Keeps s (s.takeRequest p t) := by
  unfold State.takeRequest
  split
  · exact Keeps.refl s
  · split
    · exact applyRuling_keeps s p _ _
    · exact refuseEntry_keeps s p _ _
    · exact lookupRequest_keeps s p _

theorem retakeRequest_keeps (s : State) (p : Port) (t : ReqTag) : Keeps s (s.retakeRequest p t) := by
  unfold State.retakeRequest
  split
  · exact Keeps.refl s
  · exact lookupRequest_keeps s p _

/-! ## The parties that wait, fills -/

theorem retake_keeps (s : State) (party : Party) : Keeps s (s.retake party) := by
  unfold State.retake
  split
  · exact retakeRequest_keeps s _ _
  · exact queryTry_keeps 4 s
  · exact engineRetry_keeps s
  · exact scrubRetry_keeps s
  · split
    · next w h => exact walkRetry_keeps s ⟨w, h⟩
    · exact Keeps.refl s

theorem stalledOne_keeps (s : State) (x : Party × Nat) : Keeps s (s.stalledOne x) := by
  unfold State.stalledOne
  split
  · exact (setTc_keeps s _ (by exact { order := id, fills := id, writes := id })).trans (retake_keeps _ _)
  · exact Keeps.refl s

theorem stalledPass_keeps (s : State) : Keeps s s.stalledPass := Keeps.foldl stalledOne_keeps _ s

theorem reportLoss_keeps (s : State) : Keeps s s.reportLoss := by
  unfold State.reportLoss
  split
  · split
    · exact updateWork_keeps_of_same s _ (fun _ => rfl) (fun _ => le_rfl)
    · exact Keeps.refl s
  · exact Keeps.refl s

theorem lostTags_keeps (s : State) (j : Nat) (o : Option Port) (lost : List Nat) : Keeps s (s.lostTags j o lost) := by
  unfold State.lostTags
  split
  · exact Keeps.refl s
  · split
    · unfold State.countLost
      split
      · next w h => exact setWalk_keeps s _ ⟨w, h⟩
      · exact Keeps.refl s
    · exact (((setMc_keeps_of_same s _ (by constructor <;> rfl)).trans (reportLoss_keeps _)).trans
        (Keeps.foldl (fun s i => logRecord_keeps s _) lost _)).trans (setFlag_keeps _ _)

theorem fill_eq_some {tc : TagCache} {j : Nat} {f : Fill} (h : tc.fill j = some f) : f ∈ tc.fills ∧ f.line = j :=
  ⟨List.mem_of_find?_eq_some h, by simpa using List.find?_some h⟩

/-- A fill that leaves the miss list has its way VALID. -/
theorem finished_cacheKeeps (tc : TagCache) (f : Fill) (recs : TagLine) (h : f ∈ tc.fills) :
    CacheKeeps tc { tc.putValid f.way f.line recs with fills := tc.fills.filter fun x => x.line != f.line } where
  order hw := by
    refine cacheWf_putValid hw recs (hw.2.2 f h) (.inl rfl) (hw.2.1.sublist (List.filter_sublist.map _)) fun x hx => ?_
    obtain ⟨hx, hne⟩ := List.mem_filter.1 hx
    refine ⟨hx, fun _ e => ?_⟩
    have : x.line = f.line := by simpa using congrArg Prod.snd e
    simp [this] at hne
  fills h16 := (List.length_filter_le _ _).trans h16
  writes := id

theorem finishFill_keeps (s : State) (f : Fill) (recs : TagLine) (write : Bool) (lost : List Nat) (h : f ∈ s.tc.fills)
    (hr : write = true → s.tc.hasRoom = true) : Keeps s (s.finishFill f recs write lost) := by
  unfold State.finishFill
  dsimp only
  set tc1 : TagCache := { s.tc.putValid f.way f.line recs with fills := s.tc.fills.filter fun x => x.line != f.line } with ht1
  have k1 : CacheKeeps s.tc (if write then tc1.pushWrite f.line recs else tc1) := by
    have kf := finished_cacheKeeps s.tc f recs h
    rw [← ht1] at kf
    split
    · next hw => exact kf.trans (pushWrite_cacheKeeps _ _ _ (hr hw))
    · exact kf
  have k2 := (setTc_keeps s _ k1).trans (lostTags_keeps _ f.line f.origin lost)
  refine (Keeps.trans ?_ (Keeps.foldl retake_keeps f.parties _)).trans (stalledPass_keeps _)
  split
  · next w c _ e => exact k2.trans (installed_keeps _ _ _ ⟨w, (currentCmd_eq_some e).1, rfl⟩)
  · exact k2

theorem completeFill_keeps (s : State) (f : Fill) (read : TagLine) (lost : List Nat) (h : f ∈ s.tc.fills) :
    Keeps s (s.completeFill f read lost) := by
  unfold State.completeFill
  dsimp only
  split
  · next hc =>
    refine finishFill_keeps s f _ _ _ h fun hw => ?_
    rw [hw] at hc
    simpa using hc
  · exact hold_keeps s _

theorem takeHeld_keeps (s : State) (h : Held) : Keeps s (s.takeHeld h) := by
  unfold State.takeHeld
  split
  · exact retake_keeps s _
  · exact engineRetry_keeps s
  · split
    · next f e => exact completeFill_keeps s f _ _ (fill_eq_some e).1
    · exact Keeps.refl s

theorem takeOldestHeld_keeps (s : State) : Keeps s s.takeOldestHeld := by
  unfold State.takeOldestHeld
  split
  · exact Keeps.refl s
  · exact (setTc_keeps s _ (by exact { order := id, fills := id, writes := id })).trans (takeHeld_keeps _ _)

/-! ## Changes of the mode -/

/-- The mode changes outside a reset and recovery. -/
theorem setMc_keeps_of_running (s : State) (x : ModeController) (hi : x.inReset = s.mc.inReset)
    (hr : x.recovery = s.mc.recovery)
    (h : recoveryWf s → s.mc.inReset ≠ some .resetLine ∧ s.mc.recovery = none)
    (hp : x.pendingTarget = none ∨ (noticesWf s → s.mc.inReset = none))
    (hm : modeWf s → modeWf (s.setMc x)) : Keeps s (s.setMc x) where
  domains := by simp [domainsWf, State.domain, hr]
  notices hn := by
    obtain ⟨h1, h2, h3, h4, h5⟩ := (noticesWf_iff s).1 hn
    obtain ⟨ha, hb⟩ := h h4
    refine (noticesWf_iff _).2 ⟨h1, h2, h3, by simp [recoveryWf, hi, hr, ha, hb], fun hc => ?_⟩
    obtain ⟨a, b, c, d, -⟩ := h5 (by simpa [hi, hr] using hc)
    refine ⟨a, b, c, d, ?_⟩
    rcases hp with hp | hp
    · exact hp
    · simp [hi, hr, hb, hp hn] at hc
  writes := by
    rintro ⟨h1, h2, h3⟩
    obtain ⟨ha, hb⟩ := h h1
    exact ⟨by simp [recoveryWf, hi, hr, ha, hb], hm h2, h3⟩

/-- While a change is pending no reset of RESET_N and no recovery goes on. -/
theorem running_of_pending {s : State} {t : Mode} (h : s.mc.pendingTarget = some t) (hr : recoveryWf s) :
    s.mc.inReset ≠ some .resetLine ∧ s.mc.recovery = none := by
  by_contra hc
  have := (hr.2 (by tauto)).2
  simp [h] at this

theorem running_of_mode {s : State} (h : s.mc.mode ≠ .recovering) (hr : recoveryWf s) :
    s.mc.inReset ≠ some .resetLine ∧ s.mc.recovery = none := by
  by_contra hc
  exact h (hr.2 (by tauto)).1

theorem tryConfig_keeps (s : State) : Keeps s s.tryConfig := by
  unfold State.tryConfig
  split
  · next h =>
    refine (setMc_keeps_of_running s _ (by rfl) (by rfl) (running_of_pending h.1) (.inl (by rfl)) ?_).trans (setFlag_keeps _ _)
    rintro ⟨h1, h2⟩
    have h2 := h2 _ h.1
    by_cases hs : s.mc.mode = .suspended
    · rw [if_pos hs] at h1 h2
      simp [h2] at h1
    · rw [if_neg hs] at h1
      exact ⟨by simpa using h1, by simp⟩
  · exact Keeps.refl s

theorem trySuspend_keeps (s : State) : Keeps s s.trySuspend := by
  unfold State.trySuspend
  split
  · next h =>
    have hp : s.mc.pendingTarget = some .suspended := by
      simp only [State.canSuspend, Bool.and_eq_true, beq_iff_eq] at h
      exact h.1.1.1.1
    refine ((setMc_keeps_of_running s _ (by rfl) (by rfl) (running_of_pending hp) (.inl (by rfl)) ?_).trans
      (setPacing_keeps _ none)).trans (setFlag_keeps _ _)
    rintro ⟨h1, h2⟩
    have h2 := h2 _ hp
    by_cases hs : s.mc.mode = .suspended
    · rw [if_pos hs] at h1 h2
      simp [h2] at h1
    · rw [if_neg hs] at h2
      exact ⟨by simpa using h2.1, by simp⟩
  · exact Keeps.refl s

theorem settleChannels_keeps (s : State) : Keeps s s.settleChannels := by
  unfold State.settleChannels
  split
  · exact setDram_keeps s _ id
  · exact Keeps.refl s

theorem settleMode_keeps (s : State) : Keeps s s.settleMode := (trySuspend_keeps s).trans (settleChannels_keeps _)

theorem resume_keeps (s : State) (h : s.mc.mode = .suspended) : Keeps s s.resume := by
  unfold State.resume
  split
  · exact Keeps.refl s
  · next o ho =>
    refine ((setDram_keeps s _ (by exact id)).trans (setMc_keeps_of_running _ _ (by rfl) (by rfl)
      (running_of_mode (by simp [h])) (.inl (by rfl)) ?_)).trans (setFlag_keeps _ _)
    rintro ⟨h1, -⟩
    simp [h, ho] at h1
    rcases h1 with rfl | rfl <;> exact ⟨by simp, by simp⟩

end Sys2Proof.Machine

namespace Sys2Proof.Machine

open Sys2Proof.Safety

/-! ## Replies that stay -/

@[simp] theorem notify_replies (s : State) (t : Ticket) (st : Completion) :
    (s.notify t st).cp.replies = s.cp.replies := by
  unfold State.notify
  split <;> simp

@[simp] theorem notifyDone_replies (s : State) (t : Ticket) : (s.notifyDone t).cp.replies = s.cp.replies := by
  unfold State.notifyDone
  split <;> simp

@[simp] theorem reportRun_replies (s : State) (t : Option Ticket) : (s.reportRun t).cp.replies = s.cp.replies := by
  unfold State.reportRun
  dsimp only
  (repeat' split) <;> simp

@[simp] theorem removeRuns_replies (n : Nat) (s : State) : (State.removeRuns n s).cp.replies = s.cp.replies := by
  induction n generalizing s with
  | zero => rfl
  | succ n ih =>
    unfold State.removeRuns
    (repeat' split) <;> simp [ih]

@[simp] theorem scrubSettle_replies (s : State) : s.scrubSettle.cp.replies = s.cp.replies := by
  unfold State.scrubSettle
  dsimp only
  (repeat' split) <;> simp

@[simp] theorem tryConfig_replies (s : State) : s.tryConfig.cp.replies = s.cp.replies := by
  unfold State.tryConfig
  split <;> simp

@[simp] theorem settleMode_replies (s : State) : s.settleMode.cp.replies = s.cp.replies := by
  unfold State.settleMode State.settleChannels State.trySuspend
  (repeat' split) <;> simp

@[simp] theorem resume_replies (s : State) : s.resume.cp.replies = s.cp.replies := by
  unfold State.resume
  split <;> simp

@[simp] theorem move_replies (s : State) (m : Move) (target : Mode) : (s.move m target).cp.replies = s.cp.replies := by
  cases m <;> simp [State.move, State.wake]
  split <;> simp

@[simp] theorem cancelCommand_replies (s : State) (c : Cmd) : (s.cancelCommand c).cp.replies = s.cp.replies := by
  unfold State.cancelCommand
  dsimp only
  split <;> simp

@[simp] theorem goDown_replies (s : State) (p : Port) (d : LinkState) : (s.goDown p d).cp.replies = s.cp.replies := by
  simp [State.goDown]

@[simp] theorem setEnable_replies (s : State) (p : Port) (f : List Byte) :
    (s.setEnable p f).cp.replies = s.cp.replies := by
  unfold State.setEnable
  dsimp only
  (repeat' split) <;> simp

@[simp] theorem setOnePort_replies (s : State) (f : List Byte) (p : Port) :
    (s.setOnePort f p).cp.replies = s.cp.replies := by
  simp [State.setOnePort]

/-! ## Rows -/

/-- What a row keeps between steps. -/
structure Kept (s t : State) : Prop extends Keeps s t where
  whole : scrubberWf s → scrubberWf t

theorem writeWf_of_scrubberWf {s : State} (h : scrubberWf s) : writeWf s :=
  ⟨h.1, h.2.1, fun x hx => (h.2.2 x hx).1⟩

/-- A row that leaves the scrubber alone and does not leave SUSPENDED. -/
theorem Keeps.kept_of_suspended {s t : State} (k : Keeps s t) (hw : t.su.write = s.su.write)
    (hx : t.su.waiting = s.su.waiting) (hm : modeWf s → s.mc.mode = .suspended → t.mc.mode = .suspended) : Kept s t where
  toKeeps := k
  whole h := by
    obtain ⟨h1, h2, h3⟩ := k.writes (writeWf_of_scrubberWf h)
    refine ⟨h1, h2, fun x e => ⟨h3 x e, fun hne => ?_⟩⟩
    rw [hw] at e
    rw [hx]
    exact (h.2.2 x e).2 fun hs => hne (hm h.2.1 hs)

theorem Keeps.kept {s t : State} (k : Keeps s t) (hw : t.su.write = s.su.write) (hx : t.su.waiting = s.su.waiting)
    (hm : s.mc.mode = .suspended → t.mc.mode = .suspended) : Kept s t := k.kept_of_suspended hw hx fun _ => hm

/-- In SUSPENDED no change to CONFIG is pending (R182). -/
theorem pending_ne_config {s : State} (h : modeWf s) (hm : s.mc.mode = .suspended) :
    s.mc.pendingTarget ≠ some .config := by
  intro hp
  obtain ⟨h1, h2⟩ := h
  have := h2 _ hp
  rw [if_pos hm] at h1 this
  simp [this] at h1

theorem Keeps.kept_of_same {s t : State} (k : Keeps s t) (hs : t.su = s.su) (hm : t.mc.mode = s.mc.mode) : Kept s t :=
  k.kept (by rw [hs]) (by rw [hs]) (fun h => hm.trans h)

/-- The write granule has lines still to be written, or waits behind another's change. -/
def writeLeft (u : Scrubber) : Prop := ∀ x, u.write = some x → x.completed = 64 → u.waiting.isSome = true

theorem kept_of_writeLeft {s t : State} (k : Keeps s t) (h : t.mc.mode ≠ .suspended → writeLeft t.su) : Kept s t where
  toKeeps := k
  whole hs := by
    obtain ⟨h1, h2, h3⟩ := k.writes (writeWf_of_scrubberWf hs)
    refine ⟨h1, h2, fun x e => ⟨h3 x e, fun hne => ?_⟩⟩
    by_cases hc : x.completed = 64
    · exact .inr (h hne x e hc)
    · have := h3 x e
      omega

theorem writeLeft_advance (u : Scrubber) : writeLeft u.advance := by
  intro x hx hc
  unfold Scrubber.advance at hx ⊢
  split at hx
  · next hw hwr =>
    split at hx
    · cases hx
    · next h64 =>
      rw [hwr] at hx
      cases hx
      exact absurd hc h64
  · next hno =>
    cases hw : u.waiting with
    | none => exact absurd hx (hno x hw)
    | some y => 
      cases u.write <;> simp

/-- The scrubber's own operations leave the write granule; a change that is issued may be done. -/
theorem scrubIssue_write (s : State) (w : WaitingChange) : (s.scrubIssue w).su.write = s.su.write := by
  simp [State.scrubIssue]

/-- Outside SUSPENDED a change that still waits after a look at it has been issued. -/
theorem scrubPump_issued (s : State) (hm : s.mc.mode ≠ .suspended) :
    ∀ y, s.scrubPump.su.waiting = some y → y.issued = true := by
  intro y
  unfold State.scrubPump
  dsimp only
  split
  · next w hw =>
    split
    · next h =>
      intro hy
      cases hw.symm.trans hy
      exact h.resolve_right hm
    · exact State.scrubIssue_waiting _ _ y
  · next hw =>
    intro hy
    cases hw.symm.trans hy

/-- With no change left to be issued, a look passes a whole write granule on. -/
theorem writeLeft_scrubPump (s : State) (hi : ∀ y, s.su.waiting = some y → y.issued = true) :
    writeLeft s.scrubPump.su := by
  unfold State.scrubPump
  dsimp only
  split
  · next w hw =>
    split
    · exact writeLeft_advance _
    · next h =>
      intro x hx
      rw [scrubIssue_write, State.setSu_su] at hx
      have ha : (s.setSu s.su.advance).su = s.su.advance := rfl
      rw [ha] at hw
      unfold Scrubber.advance at hw hx
      split at hw
      · next hnone hwr =>
        split at hw
        · next h64 =>
          rw [hnone, hwr] at hx
          simp [h64] at hx
        · cases hnone.symm.trans hw
      · exact absurd (.inl (hi w hw)) h
  · exact writeLeft_advance _

/-- Two looks at the change to be issued leave no whole write granule behind: where the first has its change done, the
second passes the granule on. -/
theorem writeLeft_scrubPump2 (s : State) (hm : s.mc.mode ≠ .suspended) : writeLeft s.scrubPump.scrubPump.su :=
  writeLeft_scrubPump _ (scrubPump_issued s hm)

theorem writeLeft_burst (u : Scrubber) (i : Byte) (h : writeLeft u) : writeLeft (u.burst i) := by
  unfold Scrubber.burst
  split
  · exact h
  · split
    · split
      · next w _ hb =>
        intro x hx hc
        cases hx
        simp only at hc
        omega
      · exact h
    · split
      · intro x hx hc
        cases hx
        cases hc
      · exact h

@[simp] theorem removeRuns_waiting (n : Nat) (s : State) : (State.removeRuns n s).su.waiting = s.su.waiting := by
  induction n generalizing s with
  | zero => rfl
  | succ n ih =>
    unfold State.removeRuns
    (repeat' split) <;> simp [ih]
    unfold State.placeFreed
    (repeat' split) <;> simp [State.engineOpens, State.appendRun]

theorem writeLeft_scrubSettle (s : State) (hm : s.mc.mode ≠ .suspended) : writeLeft s.scrubSettle.su := by
  have k : writeLeft (State.removeRuns (Config.runCapacity + 1) s.scrubPump.scrubPump).su := by
    simpa [writeLeft] using writeLeft_scrubPump2 s hm
  unfold State.scrubSettle
  rw [if_neg hm]
  dsimp only
  split
  · exact writeLeft_burst _ _ k
  · exact writeLeft_burst _ _ k

/-- The scrubber goes on at the end of a row. -/
theorem Keeps.kept_scrubSettle {s t : State} (k : Keeps s t) : Kept s t.scrubSettle :=
  kept_of_writeLeft (k.trans (scrubSettle_keeps t)) fun hm => writeLeft_scrubSettle t (by simpa using hm)

theorem settleMode_kept (s : State) : Kept s s.settleMode := by
  refine (settleMode_keeps s).kept ?_ ?_ fun h => ?_ <;>
    unfold State.settleMode State.settleChannels State.trySuspend <;> (repeat' split) <;> simp_all

theorem Kept.trans {s t u : State} (h : Kept s t) (k : Kept t u) : Kept s u where
  toKeeps := h.toKeeps.trans k.toKeeps
  whole := k.whole ∘ h.whole

theorem Keeps.kept_settle {s t : State} (k : Keeps s t) : Kept s t.settle :=
  k.kept_scrubSettle.trans (settleMode_kept _)

theorem Kept.refl (s : State) : Kept s s := (Keeps.refl s).kept_of_same rfl rfl

end Sys2Proof.Machine

namespace Sys2Proof.Machine

open Sys2Proof.Safety

/-! ## Tickets -/

theorem nextTicket_toNat (t : Ticket) (h : t ≠ 0xFFFF#16) : (nextTicket t).toNat = t.toNat + 1 := by
  have : t.toNat ≠ 65535 := fun e => h (BitVec.eq_of_toNat_eq e)
  simp only [nextTicket, h, if_false]
  bv_omega

/-- The tickets that follow one, by their numbers: 65,535 is followed by 1 (R94). -/
theorem nextTicket_iterate_toNat (t : Ticket) (n : Nat) (hn : n ≤ 16) :
    (nextTicket^[n] t).toNat = if t.toNat + n ≤ 65535 then t.toNat + n else t.toNat + n - 65535 := by
  induction n with
  | zero => simp; omega
  | succ n ih =>
    have ih := ih (by omega)
    rw [Function.iterate_succ_apply']
    have hlt := t.isLt
    by_cases h : nextTicket^[n] t = 0xFFFF#16
    · have last : t.toNat + n = 65535 := by
        rw [h] at ih
        have e : (0xFFFF#16).toNat = 65535 := rfl
        rw [e] at ih
        by_cases hle : t.toNat + n ≤ 65535
        · rw [if_pos hle] at ih
          omega
        · rw [if_neg hle] at ih
          omega
      have one : (nextTicket 0xFFFF#16).toNat = 1 := rfl
      rw [h, one, if_neg (by omega)]
      omega
    · have hne : (nextTicket^[n] t).toNat ≠ 65535 := fun e => h (BitVec.eq_of_toNat_eq e)
      rw [nextTicket_toNat _ h]
      by_cases hle : t.toNat + n ≤ 65535
      · rw [if_pos hle] at ih
        rw [if_pos (by omega)]
        omega
      · rw [if_neg hle] at ih
        rw [if_neg (by omega)]
        omega

/-- The first seventeen tickets from one on differ. -/
theorem nextTicket_iterate_inj (t : Ticket) {m n : Nat} (hm : m ≤ 16) (hn : n ≤ 16)
    (h : nextTicket^[m] t = nextTicket^[n] t) : m = n := by
  have e := congrArg BitVec.toNat h
  rw [nextTicket_iterate_toNat t m hm, nextTicket_iterate_toNat t n hn] at e
  have := t.isLt
  split at e <;> split at e <;> omega

theorem freeTicket_spec (e : Engine) (n : Nat) (t : Ticket) : ∃ k ≤ n, e.freeTicket n t = nextTicket^[k] t ∧
    (∀ m < k, ∃ c ∈ e.table, c.ticket = nextTicket^[m] t) ∧ (k < n → ∀ c ∈ e.table, c.ticket ≠ nextTicket^[k] t) := by
  induction n generalizing t with
  | zero => exact ⟨0, le_rfl, rfl, by simp, by simp⟩
  | succ n ih =>
    unfold Engine.freeTicket
    split
    · next h =>
      obtain ⟨c, hc, hct⟩ := List.any_eq_true.1 h
      obtain ⟨k, hk, he, hm, hf⟩ := ih (nextTicket t)
      refine ⟨k + 1, by omega, he, fun m hlt => ?_, fun hlt => hf (by omega)⟩
      cases m with
      | zero => exact ⟨c, hc, by simpa using hct⟩
      | succ m => exact hm m (by omega)
    · next h =>
      refine ⟨0, by omega, rfl, by simp, fun _ c hc e => h ?_⟩
      exact List.any_eq_true.2 ⟨c, hc, by simpa using e⟩

/-- The ticket that the next accepted command takes is the first that no live command holds (R94). -/
theorem nextFree_spec (e : Engine) (h : e.table.length ≤ 16) :
    (∀ c ∈ e.table, c.ticket ≠ e.nextFree) ∧
      ∃ n, e.nextFree = nextTicket^[n] e.counter ∧ ∀ m < n, ∃ c ∈ e.table, c.ticket = nextTicket^[m] e.counter := by
  obtain ⟨k, hk, he, hm, hf⟩ := freeTicket_spec e 16 e.counter
  refine ⟨fun c hc hct => ?_, k, he, hm⟩
  have taken : ∀ m < 17, nextTicket^[m] e.counter ∈ e.table.map Cmd.ticket := by
    have heq : e.nextFree = nextTicket^[k] e.counter := he
    have hk16 : k = 16 := by
      by_contra hne
      exact hf (by omega) c hc (hct.trans heq)
    intro m hlt
    by_cases h16 : m < k
    · obtain ⟨c', hc', e'⟩ := hm m h16
      exact List.mem_map.2 ⟨c', hc', e'⟩
    · obtain rfl : m = k := by omega
      exact List.mem_map.2 ⟨c, hc, hct.trans heq⟩
  have nodup : ((List.range 17).map fun m => nextTicket^[m] e.counter).Nodup := by
    refine List.Nodup.map_on (fun m hm n hn hmn => ?_) List.nodup_range
    simp only [List.mem_range] at hm hn
    exact nextTicket_iterate_inj _ (by omega) (by omega) hmn
  have := (nodup.subperm (l₂ := e.table.map Cmd.ticket) fun x hx => by
    obtain ⟨m, hm, rfl⟩ := List.mem_map.1 hx
    exact taken m (by simpa using hm)).length_le
  simp at this
  omega

/-! ## Acceptance -/

theorem takeSlot_keeps (s : State) (c : Command) (hc : ∀ b, c ≠ .retire 0 b) (hl : s.te.table.length < 16)
    (hi : s.mc.inReset = none) (hm : s.mc.mode ≠ .recovering) : Keeps s (s.takeSlot c) where
  domains := by
    rintro ⟨h1, h2, h3, h4, h5⟩
    refine ⟨h1, h2, h3, fun x hx b => ?_, h5⟩
    rcases List.mem_append.1 hx with hx | hx
    · exact h4 x hx b
    · rw [List.mem_singleton.1 hx]
      exact hc b
  notices hn := by
    obtain ⟨h1, ⟨h2, h3, h4⟩, ⟨h5, h6⟩, h7, h8⟩ := (noticesWf_iff s).1 hn
    have fresh := (nextFree_spec s.te (by omega)).1
    have find (k : Ticket) (x : Cmd) (h : s.te.table.find? (fun c => c.ticket == k) = some x) :
        (s.takeSlot c).te.table.find? (fun c => c.ticket == k) = some x := by
      simp [State.takeSlot, List.find?_append, h]
    refine (noticesWf_iff _).2 ⟨h1, ⟨by simp [State.takeSlot]; omega, ?_, fun w hw => ?_⟩, ⟨h5, fun k hk => ?_⟩, h7, ?_⟩
    · simp only [State.takeSlot, State.setTe_te, List.map_append, List.map_cons, List.map_nil]
      refine List.nodup_append.2 ⟨h3, by simp, fun a ha b hb => ?_⟩
      obtain ⟨x, hx, rfl⟩ := List.mem_map.1 ha
      rw [List.mem_singleton.1 hb]
      exact fresh x hx
    · obtain ⟨x, hx, hp⟩ := h4 w hw
      exact ⟨x, find _ _ hx, hp⟩
    · obtain ⟨x, hx, hp⟩ := h6 k hk
      exact ⟨x, find _ _ hx, hp⟩
    · simp [stillWf, hi, (running_of_mode hm h7).2]
  capacity := by
    rintro ⟨h1, h2, h3, h4, h5⟩
    exact ⟨h1, h2, h3, by simp [State.takeSlot]; omega, h5⟩

theorem acceptKind_keeps (s : State) (c : Command) (hc : ∀ b, c ≠ .retire 0 b) : Keeps s (s.acceptKind c) := by
  unfold State.acceptKind
  split
  · next d b =>
    have hd : d ≠ 0 := fun e => hc b (e ▸ rfl)
    exact writeDomain_keeps s d _ (fun h => h.1 d) (fun _ e => absurd e hd)
  · exact setMc_keeps_of_same s _ (by constructor <;> rfl)
  · exact Keeps.refl s

/-! ## What begins a message -/

theorem fits_of_canDispatch {s u : State} (h : s.canDispatch = true) (e : u.cp.replies = s.cp.replies) : replyFits u := by
  simp only [State.canDispatch, Bool.and_eq_true, Config.replyCapacity] at h
  exact .inr (e ▸ of_decide_eq_true h.1.2)

theorem running_of_canDispatch {s : State} (h : s.canDispatch = true) : s.mc.inReset = none := by
  simp only [State.canDispatch, Bool.and_eq_true, State.held] at h
  simpa using h.1.1.1.1

theorem Keeps.answer {s u : State} (k : Keeps s u) (h : s.canDispatch = true) (e : u.cp.replies = s.cp.replies)
    (st : Status) (rs : List Byte) : Keeps s (u.answer st rs) := k.trans (answer_keeps u st rs (fits_of_canDispatch h e))

/-- The answer leaves the scrubber alone, and so what a row keeps. -/
theorem answer_kept {s : State} (h : s.canDispatch = true) (st : Status) (rs : List Byte) : Kept s (s.answer st rs) :=
  ((Keeps.refl s).answer h rfl st rs).kept_of_same (by simp) (by simp)

theorem Kept.answer {s u : State} (k : Kept s u) (h : s.canDispatch = true) (e : u.cp.replies = s.cp.replies)
    (st : Status) (rs : List Byte) : Kept s (u.answer st rs) :=
  k.trans ((answer_keeps u st rs (fits_of_canDispatch h e)).kept_of_same (by simp) (by simp))

theorem accept_kept {s : State} (h : s.canDispatch = true) (c : Command) (hc : ∀ b, c ≠ .retire 0 b)
    (hl : s.te.table.length < 16) (hm : s.mc.mode ≠ .recovering) : Kept s (s.accept c) := by
  have k := (takeSlot_keeps s c hc hl (running_of_canDispatch h) hm).trans (acceptKind_keeps _ c hc)
  exact (k.answer h (by simp) _ _).kept_of_same (by simp) (by simp)

theorem acceptOrRefuse_kept {s : State} (h : s.canDispatch = true) (c : Except Status Command)
    (hc : ∀ x b, c = .ok x → x ≠ .retire 0 b) (hm : s.mc.mode ≠ .recovering) : Kept s (s.acceptOrRefuse c) := by
  unfold State.acceptOrRefuse
  split
  · exact answer_kept h _ _
  · split
    · exact answer_kept h _ _
    · next x =>
      split
      · exact answer_kept h _ _
      · next hl => exact accept_kept h x (fun b => hc x b rfl) (Nat.not_le.1 hl) hm

theorem acceptance_kept {s : State} (h : s.canDispatch = true) (c : Except Status Command)
    (hc : ∀ x b, c = .ok x → x ≠ .retire 0 b) : Kept s (s.acceptance c) := by
  unfold State.acceptance
  split
  · exact answer_kept h _ _
  · split
    · exact answer_kept h _ _
    · next hm _ => exact acceptOrRefuse_kept h c hc hm

/-! ### The kinds' own checks never give a RETIRE of domain 0 -/

/-- A check gives no RETIRE of domain 0. -/
def noRetire0 (c : Except Status Command) : Prop := ∀ x b, c = .ok x → x ≠ .retire 0 b

theorem noRetire0_error (st : Status) : noRetire0 (.error st) := fun _ _ h => by cases h

theorem noRetire0_ok (c : Command) (h : c.code ≠ 0x14) : noRetire0 (.ok c) := by
  rintro x b e rfl
  cases e
  exact h rfl

theorem noRetire0_checkRange (s : State) (f n : Nat) {c : Except Status Command} (h : noRetire0 c) :
    noRetire0 (s.checkRange f n c) := by
  unfold State.checkRange
  split
  · exact h
  · exact noRetire0_error _

theorem noRetire0_ite {p : Prop} [Decidable p] {c d : Except Status Command} (hc : noRetire0 c) (hd : noRetire0 d) :
    noRetire0 (if p then c else d) := by
  split
  · exact hc
  · exact hd

theorem noRetire0_checkAssign (s : State) (f : List Byte) : noRetire0 (s.checkAssign f) := by
  unfold State.checkAssign
  split
  · exact noRetire0_checkRange s _ _ (noRetire0_ite (noRetire0_ok _ (by simp [Command.code])) (noRetire0_error _))
  · exact noRetire0_error _

theorem noRetire0_checkReclaim (s : State) (f : List Byte) : noRetire0 (s.checkReclaim f) := by
  unfold State.checkReclaim
  split
  · exact noRetire0_checkRange s _ _ (noRetire0_ite (noRetire0_error _) (noRetire0_ok _ (by simp [Command.code])))
  · exact noRetire0_error _

theorem noRetire0_checkShare (s : State) (f : List Byte) (make : Nat → Nat → ShareIx → Command)
    (hm : ∀ a b i, (make a b i).code ≠ 0x14) : noRetire0 (s.checkShare f make) := by
  unfold State.checkShare
  split
  · exact noRetire0_checkRange s _ _ (noRetire0_ite (noRetire0_ok _ (hm _ _ _)) (noRetire0_error _))
  · exact noRetire0_error _

theorem noRetire0_checkRetire (s : State) (f : List Byte) : noRetire0 (s.checkRetire f) := by
  unfold State.checkRetire
  split
  · next d _ =>
    split
    · exact noRetire0_error _
    · next hd =>
      have ok (b : Bool) : noRetire0 (.ok (.retire d b)) := by
        rintro x b e rfl
        cases e
        exact hd rfl
      split
      · exact noRetire0_error _
      · exact ok true
      · exact noRetire0_ite (noRetire0_error _) (ok false)
  · exact noRetire0_error _

end Sys2Proof.Machine

namespace Sys2Proof.Machine

open Sys2Proof.Safety

/-! ## Messages -/

/-- A row answers a next state and keeps every condition. -/
def RowKeeps (s : State) (o : Host.Outcome State Fault Refusal) : Prop := ∃ t, o = .next t ∧ Kept s t

theorem onMessage_keeps (s : State) (kind : Byte) (act : List Byte → State)
    (h : s.canDispatch = true → ∀ f, Kept s (act f)) : RowKeeps s (s.onMessage kind act) := by
  refine ⟨_, rfl, ?_⟩
  split
  · next hc =>
    have hd : s.canDispatch = true := by
      rw [Bool.and_eq_true] at hc
      exact hc.1
    split
    · exact h hd _
    · exact answer_kept hd _ _
  · exact Kept.refl s

theorem onEvent_keeps (s : State) (f : State → State) (h : s.mc.inReset = none → Kept s (f s)) :
    RowKeeps s (s.onEvent f) := by
  refine ⟨_, rfl, ?_⟩
  split
  · exact Kept.refl s
  · next hc => exact h (by simpa [State.held] using hc)

theorem onDomain_kept {s : State} (h : s.canDispatch = true) (f : List Byte) (act : DomainId → State)
    (ha : ∀ d, Kept s (act d)) : Kept s (s.onDomain f act) := by
  unfold State.onDomain
  split
  · exact answer_kept h _ _
  · split
    · exact answer_kept h _ _
    · exact ha _

/-- A change of the tables that is answered. -/
theorem writeDomain_answer_kept {s : State} (h : s.canDispatch = true) (d : DomainId) (r : DomainRec)
    (k : Keeps s (s.writeDomain d r)) (st : Status) (rs : List Byte) : Kept s ((s.writeDomain d r).answer st rs) :=
  (k.answer h (by simp) st rs).kept_of_same (by simp) (by simp)

theorem domainOpen_keeps (s : State) : RowKeeps s (execDomainOpen s) := by
  refine onMessage_keeps s _ _ fun h f => onDomain_kept h f _ fun d => ?_
  dsimp only
  split
  · exact answer_kept h _ _
  · next hd =>
    split
    · exact answer_kept h _ _
    · split
      · exact answer_kept h _ _
      · exact writeDomain_answer_kept h d _
          (writeDomain_keeps s d _ (fun _ => by simp [scoreWf, openedDomain]) fun _ e => absurd e hd) _ _

theorem domainQuota_keeps (s : State) : RowKeeps s (execDomainQuota s) := by
  refine onMessage_keeps s _ _ fun h f => onDomain_kept h f _ fun d => ?_
  have no (st : Status) := answer_kept h st []
  dsimp only
  split; · exact no _
  split; · exact no _
  split; · exact no _
  split; · exact no _
  split; · exact no _
  exact writeDomain_answer_kept h d _ (writeDomain_keeps_of_score s d _ (by rfl) (by rfl) (by rfl)) _ _

theorem domainClose_keeps (s : State) : RowKeeps s (execDomainClose s) := by
  refine onMessage_keeps s _ _ fun h f => onDomain_kept h f _ fun d => ?_
  have no (st : Status) := answer_kept h st []
  split; · exact no _
  next hd =>
  split; · exact no _
  split; · exact no _
  split; · exact no _
  split; · exact no _
  exact writeDomain_answer_kept h d _
    (writeDomain_keeps s d _ (fun _ => by simp [scoreWf, closedDomain]) fun _ e => absurd e hd) _ _

theorem domainClearScore_keeps (s : State) : RowKeeps s (execDomainClearScore s) := by
  refine onMessage_keeps s _ _ fun h f => onDomain_kept h f _ fun d => ?_
  split
  · exact answer_kept h _ _
  · split
    · exact answer_kept h _ _
    · exact ((clearScore_keeps s d).answer h (by simp) _ _).kept_of_same (by simp) (by simp)

theorem domainStatus_keeps (s : State) : RowKeeps s (execDomainStatus s) := by
  refine onMessage_keeps s _ _ fun h f => ?_
  (repeat' split) <;> exact answer_kept h _ _

theorem writeShare_answer_kept {s : State} (h : s.canDispatch = true) (i : ShareIx) (e : ShareEntry) (st : Status)
    (rs : List Byte) : Kept s ((s.writeShare i e).answer st rs) :=
  ((writeShare_keeps s i e).answer h (by simp) st rs).kept_of_same (by simp) (by simp)

theorem shareCreate_keeps (s : State) : RowKeeps s (execShareCreate s) := by
  refine onMessage_keeps s _ _ fun h f => ?_
  have no (st : Status) := answer_kept h st []
  split; · exact no _
  split; · exact no _
  split; · exact no _
  split; · exact no _
  exact writeShare_answer_kept h _ _ _ _

theorem shareDelete_keeps (s : State) : RowKeeps s (execShareDelete s) := by
  refine onMessage_keeps s _ _ fun h f => ?_
  have no (st : Status) := answer_kept h st []
  split; · exact no _
  split; · exact no _
  split; · exact no _
  split; · exact no _
  split; · exact no _
  exact writeShare_answer_kept h _ _ _ _

theorem shareStatus_keeps (s : State) : RowKeeps s (execShareStatus s) := by
  refine onMessage_keeps s _ _ fun h f => ?_
  (repeat' split) <;> exact answer_kept h _ _

theorem ticketStatus_keeps (s : State) : RowKeeps s (execTicketStatus s) := by
  refine onMessage_keeps s _ _ fun h f => ?_
  (repeat' split) <;> exact answer_kept h _ _

/-! ### Ticketed commands -/

theorem revive_keeps (s : State) : RowKeeps s (execRevive s) :=
  onMessage_keeps s _ _ fun h _ => acceptance_kept h _ (noRetire0_checkRange s _ _ (noRetire0_ok _ (by simp [Command.code])))

theorem format_keeps (s : State) : RowKeeps s (execFormat s) := by
  refine onMessage_keeps s _ _ fun h f => ?_
  split; · exact answer_kept h _ _
  next hm =>
  split; · exact answer_kept h _ _
  split; · exact answer_kept h _ _
  refine acceptOrRefuse_kept h _ (noRetire0_ok _ (by simp [Command.code])) ?_
  simp at hm
  simp [hm]

theorem undoAcceptance_keeps (s : State) (c : Command) : Keeps s (s.undoAcceptance c) := by
  unfold State.undoAcceptance
  split
  · next d => exact writeDomain_keeps s d _ (fun h => h.1 d) (by rintro ⟨-, -, hz, -⟩ rfl; exact ⟨rfl, hz⟩)
  · exact setMc_keeps_of_same s _ (by constructor <;> rfl)
  · exact Keeps.refl s

theorem cancelCommand_keeps (s : State) (c : Cmd) (hc : s.cmd c.ticket = some c)
    (hp : c.phase = .queued ∨ c.phase = .verify) : Keeps s (s.cancelCommand c) := by
  unfold State.cancelCommand
  dsimp only
  set s1 := s.updateCmd c.ticket fun c => { c with doneCount := 0, poisonedCount := 0 } with hs1
  have k1 : Keeps s s1 := updateCmd_keeps_of_phase _ _ _ (fun _ => rfl) (fun _ => rfl) (fun _ => rfl)
  have hc1 : s1.cmd c.ticket = some { c with doneCount := 0, poisonedCount := 0 } := by
    rw [hs1, State.updateCmd_cmd _ _ _ _ (by intro; rfl), if_pos rfl, hc]
    rfl
  set s2 := if c.phase = .verify then s1.setTc (s1.tc.dropParty .engine) else s1 with hs2
  have k2 : Keeps s s2 ∧ s2.te = s1.te := by
    rw [hs2]
    split
    · exact ⟨k1.trans (setTc_keeps _ _ (dropParty_cacheKeeps _ _)), rfl⟩
    · exact ⟨k1, rfl⟩
  refine (k2.1.trans (undoAcceptance_keeps _ _)).trans (notify_keeps _ _ _ fun _ c' hc' => ?_)
  have : s1.cmd c.ticket = some c' := by simpa [State.cmd, k2.2] using hc'
  rw [hc1] at this
  cases this
  rcases hp with hp | hp <;> simp [hp]

theorem cancel_keeps (s : State) : RowKeeps s (execCancel s) := by
  refine onMessage_keeps s _ _ fun h f => ?_
  have no (st : Status) := answer_kept h st []
  dsimp only
  split; · exact no _
  split; · exact no _
  split; · exact no _
  next c hc =>
  split
  · next hp =>
    have hk : c.ticket = BitVec.ofNat 16 (param16 f 0) := by simpa using List.find?_some hc
    have k := (cancelCommand_keeps s c (hk ▸ hc) hp).answer h (by simp) .ok []
    exact (k.kept_of_same (by simp) (by simp)).trans (settleMode_kept _)
  · exact no _

/-! ### Queries, the log, events -/

theorem canDispatch_executing {s : State} (h : s.canDispatch = true) : s.cp.executing = none := by
  simp only [State.canDispatch, Bool.and_eq_true] at h
  simpa using h.1.1.1.2

theorem beginQuery_kept {s : State} (h : s.canDispatch = true) (q : Query) : Kept s (s.beginQuery q) := by
  have hr : s.cp.replies.length < 8 := by
    rcases fits_of_canDispatch h rfl with h' | h'
    · simp [canDispatch_executing h] at h'
    · exact h'
  have k : Keeps s (State.queryTry 4 (s.setCp { s.cp with executing := some q })) :=
    (setCp_keeps s _ (by exact id) (by rfl) (by exact id) (by exact id) (by simp [ControlPort.placesUsed]; omega)).trans
      (queryTry_keeps 4 _)
  exact (k.kept_of_same (by simp) (by simp)).trans (settleMode_kept _)

theorem tagRead_keeps (s : State) : RowKeeps s (execTagRead s) := by
  refine onMessage_keeps s _ _ fun h f => ?_
  dsimp only
  split; · exact answer_kept h _ _
  split; · exact answer_kept h _ _
  split; · exact answer_kept h _ _
  exact beginQuery_kept h _

theorem survey_keeps (s : State) : RowKeeps s (execSurvey s) := by
  refine onMessage_keeps s _ _ fun h f => ?_
  split; · exact answer_kept h _ _
  split
  · split; · exact answer_kept h _ _
    split; · exact answer_kept h _ _
    exact beginQuery_kept h _
  · exact answer_kept h _ _

theorem setVl_answer_kept {s : State} (h : s.canDispatch = true) (l : Log)
    (hl : s.vl.records.length ≤ 32 → l.records.length ≤ 32) (st : Status) (rs : List Byte) :
    Kept s ((s.setVl l).answer st rs) :=
  ((setVl_keeps s l hl).answer h rfl st rs).kept_of_same (by simp) (by simp)

theorem logRead_keeps (s : State) : RowKeeps s (execLogRead s) := by
  refine onMessage_keeps s _ _ fun h f => ?_
  dsimp only
  split; · exact answer_kept h _ _
  split; · exact answer_kept h _ _
  exact setVl_answer_kept h _ (by simp; omega) _ _

theorem logControl_keeps (s : State) : RowKeeps s (execLogControl s) := by
  refine onMessage_keeps s _ _ fun h f => ?_
  split; · exact answer_kept h _ _
  split
  · exact setVl_answer_kept h _ (by exact id) _ _
  · exact answer_kept h _ _

/-- The enables change outside a reset and recovery. -/
theorem setEnables_keeps (s : State) (mask : FlagSet) (hi : s.mc.inReset = none) (hm : s.mc.mode ≠ .recovering) :
    Keeps s (s.setEnables mask) := by
  have k : Keeps s (s.setEu { s.eu with enabled := mask }) :=
    { notices := fun hn => by
        obtain ⟨h1, h2, h3, h4, -⟩ := (noticesWf_iff s).1 hn
        exact (noticesWf_iff _).2 ⟨h1, h2, h3, h4, by simp [stillWf, hi, (running_of_mode hm h4).2]⟩ }
  unfold State.setEnables
  dsimp only
  split
  · next h =>
    rw [Bool.and_eq_true] at h
    refine k.trans (placeNotice_event_keeps _ (by simpa using h.2) fun h0 => ?_)
    have h1 := h.1
    have h0 : mask = 0 := h0
    simp [h0] at h1
  · exact k

theorem eventEnable_keeps (s : State) : RowKeeps s (execEventEnable s) := by
  refine onMessage_keeps s _ _ fun h f => ?_
  split; · exact answer_kept h _ _
  next hm =>
  split
  · next set clear _ _ =>
    have k := setEnables_keeps s (maskFlags set clear s.eu.enabled) (running_of_canDispatch h) hm
    refine (k.answer h ?_ _ _).kept_of_same (by simp) (by simp)
    unfold State.setEnables
    dsimp only
    split <;> simp
  · exact answer_kept h _ _

theorem eventClear_keeps (s : State) : RowKeeps s (execEventClear s) := by
  refine onMessage_keeps s _ _ fun h f => ?_
  split; · exact answer_kept h _ _
  split
  · next mask _ =>
    have k := setEu_keeps s { s.eu with flags := s.eu.flags &&& ~~~mask } rfl
    exact (k.answer h rfl _ _).kept_of_same (by simp) (by simp)
  · exact answer_kept h _ _

/-! ### Ports, modes, settings -/

theorem goDown_keeps (s : State) (p : Port) (d : LinkState) : Keeps s (s.goDown p d) := by
  unfold State.goDown
  refine ((updatePort_keeps s p _ ?_).trans (Keeps.foldl (fun s t => removeEntry_keeps s p t) _ _)).trans (setFlag_keeps _ _)
  rintro ⟨h1, h2, h3, h4, -⟩
  exact ⟨h1, h2, by simpa [PortRec.goneDown] using h3, by simpa [PortRec.goneDown, Function.comp_def] using h4,
    by simp [PortRec.goneDown], by simp [PortRec.goneDown]⟩

theorem setEnable_keeps (s : State) (p : Port) (f : List Byte) : Keeps s (s.setEnable p f) := by
  unfold State.setEnable
  split
  · exact (updatePort_keeps s p _ id).trans (setFlag_keeps _ _)
  · split
    · have k := updatePort_keeps s p (fun r => { r with enabled := false }) id
      dsimp only
      split
      · exact k.trans (goDown_keeps _ _ _)
      · exact (k.trans (updatePort_keeps _ p _ id)).trans (setFlag_keeps _ _)
    · exact Keeps.refl s

/-- A PORT_SET that passes its checks freezes with a tag limit of 1 to 64 (R150). -/
theorem freeze_limit {s : State} {f : List Byte} (h : s.portSetBad f = false) (h3 : setAlone f 3 = true) :
    1 ≤ (param8 f 16).toNat ∧ (param8 f 16).toNat ≤ 64 := by
  simp only [State.portSetBad, Bool.or_eq_false_iff, h3, Bool.true_and, beq_eq_false_iff_ne, decide_eq_false_iff_not] at h
  obtain ⟨-, ⟨h0, h64⟩, -⟩ := h
  have : (param8 f 16).toNat ≠ 0 := fun e => h0 (BitVec.eq_of_toNat_eq e)
  omega

theorem setOnePort_keeps (s : State) (f : List Byte) (p : Port)
    (hf : setAlone f 3 = true → 1 ≤ (param8 f 16).toNat ∧ (param8 f 16).toNat ≤ 64) : Keeps s (s.setOnePort f p) := by
  refine (setEnable_keeps s p f).trans (updatePort_keeps _ p _ fun h => ?_)
  have ha (r : PortRec) (h : portWf r) : portWf (r.setAperture f) := by
    unfold PortRec.setAperture
    (repeat' split) <;> exact h
  have hw (r : PortRec) (h : portWf r) : portWf (r.setWatch f) := by
    unfold PortRec.setWatch
    (repeat' split) <;> exact h
  have hz (r : PortRec) (h : portWf r) : portWf (r.setFreeze f) := by
    unfold PortRec.setFreeze
    split
    · next h3 => exact ⟨(hf h3).1, (hf h3).2, h.2.2⟩
    · split <;> exact h
  have ht (r : PortRec) (h : portWf r) : portWf (r.setTimeout f) := by
    unfold PortRec.setTimeout
    split <;> exact h
  exact ht _ (hz _ (hw _ (ha _ h)))

theorem foldl_replies {β : Type} (l : List β) (s : State) (f : State → β → State)
    (h : ∀ s b, (f s b).cp.replies = s.cp.replies) : (l.foldl f s).cp.replies = s.cp.replies := by
  induction l generalizing s with
  | nil => rfl
  | cons b l ih => simp only [List.foldl_cons, ih, h]

theorem portSet_keeps (s : State) : RowKeeps s (execPortSet s) := by
  refine onMessage_keeps s _ _ fun h f => ?_
  split; · exact answer_kept h _ _
  split; · exact answer_kept h _ _
  next ps _ =>
  split; · exact answer_kept h _ _
  next hb =>
  have k := Keeps.foldl (fun s p => setOnePort_keeps s f p (freeze_limit (by simpa using hb))) ps s
  exact ((k.answer h (foldl_replies _ _ _ fun s p => by simp) .ok []).kept_of_same (by simp) (by simp)).trans
    (settleMode_kept _)

theorem portStatus_keeps (s : State) : RowKeeps s (execPortStatus s) := by
  refine onMessage_keeps s _ _ fun h f => ?_
  (repeat' split) <;> exact answer_kept h _ _

theorem portClear_keeps (s : State) : RowKeeps s (execPortClear s) := by
  refine onMessage_keeps s _ _ fun h f => ?_
  split; · exact answer_kept h _ _
  split; · exact answer_kept h _ _
  next p _ =>
  split
  · next i r _ _ =>
    exact ((updatePort_keeps s p (fun x => x.clear i r) id).answer h (by simp) _ _).kept_of_same (by simp) (by simp)
  · exact answer_kept h _ _

/-- A change becomes pending, or the mode another that needs none. -/
theorem move_kept {s : State} (h : s.canDispatch = true) {m : Move} {target : Mode}
    (hm : moveOf s.mc.mode s.mc.suspendOrigin target = some m) (hp : s.mc.pendingTarget = none) :
    Kept s (s.move m target) := by
  have hi := running_of_canDispatch h
  have hr : s.mc.mode ≠ .recovering := fun e => by simp [moveOf, e] at hm
  have pend (hw : modeWf s → modeWf (s.setMc { s.mc with pendingTarget := some target })) :
      Keeps s (s.setMc { s.mc with pendingTarget := some target }) :=
    setMc_keeps_of_running s _ rfl rfl (running_of_mode hr) (.inr fun _ => hi) hw
  cases m with
  | atOnce =>
    have hcase : (s.mc.mode = .config ∨ s.mc.mode = .enforce ∨ s.mc.mode = .monitor) ∧ (target = .enforce ∨ target = .monitor) := by
      unfold moveOf at hm
      split at hm <;> simp_all
    have k : Keeps s (s.setMc { s.mc with mode := target }) := by
      refine setMc_keeps_of_running s _ rfl rfl (running_of_mode hr) (.inl hp) ?_
      rintro ⟨h1, -⟩
      refine ⟨?_, by simp [hp]⟩
      rcases hcase with ⟨a | a | a, b | b⟩ <;> simp_all
    exact (k.trans (setFlag_keeps _ .modeChanged)).kept (by simp) (by simp)
      (fun e => by simp [e] at hcase)
  | afterCommands =>
    have hcase : (s.mc.mode = .enforce ∨ s.mc.mode = .monitor) ∧ target = .config := by
      unfold moveOf at hm
      split at hm <;> simp_all
    have k := pend (by
      rintro ⟨h1, -⟩
      obtain ⟨a | a, rfl⟩ := hcase <;> exact ⟨by simpa [a] using h1, by simp [a]⟩)
    refine (k.trans (tryConfig_keeps _)).kept (by simp) ?_ (fun e => by simp [e] at hcase)
    simp only [State.tryConfig]
    split <;> simp
  | suspend =>
    have hcase : (s.mc.mode = .enforce ∨ s.mc.mode = .monitor) ∧ target = .suspended := by
      unfold moveOf at hm
      split at hm <;> simp_all
    have k := pend (by
      rintro ⟨h1, -⟩
      obtain ⟨a | a, rfl⟩ := hcase <;> exact ⟨by simpa [a] using h1, by simp [a]⟩)
    exact (k.kept_of_same rfl rfl).trans (settleMode_kept _)
  | wake =>
    have hcase : s.mc.mode = .suspended ∧ s.mc.suspendOrigin = some target := by
      unfold moveOf at hm
      split at hm <;> simp_all
    have k := pend (by
      rintro ⟨h1, -⟩
      exact ⟨by simpa [hcase.1] using h1, by simp [hcase.1, hcase.2]⟩)
    show Kept s ((s.setMc { s.mc with pendingTarget := some target }).wake)
    unfold State.wake
    split
    · exact (k.trans (resume_keeps _ hcase.1)).kept_scrubSettle
    · exact k.kept_of_same rfl rfl

theorem modeRequest_keeps (s : State) : RowKeeps s (execModeRequest s) := by
  refine onMessage_keeps s _ _ fun h f => ?_
  have no (st : Status) := answer_kept h st []
  split; · exact no _
  split; · exact no _
  split; · exact no _
  next hp =>
  split; · exact no _
  next m hm =>
  split; · exact no _
  exact (move_kept h hm (by simpa using hp)).answer h (by simp) _ _

theorem settingsTaken_kept {s u : State} (k : Keeps s u) (h : s.canDispatch = true) (hr : u.cp.replies = s.cp.replies)
    (hs : u.su = s.su) (hm : u.mc.mode = s.mc.mode) (f : List Byte) : Kept s (u.settingsTaken f) := by
  have k' := (k.trans (setMc_keeps_of_same u (u.mc.loadSettings f) (by constructor <;> rfl))).answer h hr .ok
    (u.setMc (u.mc.loadSettings f)).mc.settingBytes
  exact k'.kept_of_same (by simpa using hs) (by simpa [ModeController.loadSettings] using hm)

theorem setPool_keeps (s : State) (code : Option PoolCode) : Keeps s (s.setPool code) := by
  have trim (s : State) (p : Port) (t : Nat) : Keeps s (s.updatePort p fun p => p.trimAperture t) :=
    updatePort_keeps s p _ fun h => by
      unfold PortRec.trimAperture
      split <;> exact h
  have quota (s : State) : Keeps s s.setQuota0 := by
    unfold State.setQuota0
    split
    · exact Keeps.refl s
    · exact writeDomain_keeps_of_score s 0 _ rfl rfl rfl
  exact (((setMc_keeps_of_same s { s.mc with poolCode := code } (by constructor <;> rfl)).trans (quota _)).trans
    (trim _ .a _)).trans (trim _ .b _)

theorem settings_keeps (s : State) : RowKeeps s (execSettings s) := by
  refine onMessage_keeps s _ _ fun h f => ?_
  split; · exact answer_kept h _ _
  split; · exact settingsTaken_kept (Keeps.refl s) h rfl rfl rfl f
  split; · exact answer_kept h _ _
  split; · exact answer_kept h _ _
  exact settingsTaken_kept (setPool_keeps s _) h (by simp) (by simp) (by simp) f

theorem partStatus_keeps (s : State) : RowKeeps s (execPartStatus s) :=
  onMessage_keeps s _ _ fun h _ => answer_kept h _ _

theorem reset_keeps (s : State) : RowKeeps s (execReset s) := by
  refine onMessage_keeps s _ _ fun h f => ?_
  have k : Keeps s (s.setCp { s.cp with resetWait := true }) :=
    setCp_keeps s _ (by exact id) (by rfl) (by exact id) (by exact id) (by exact id)
  exact (k.answer h rfl _ _).kept_of_same (by simp) (by simp)

end Sys2Proof.Machine

namespace Sys2Proof.Machine

open Sys2Proof.Safety

/-! ## The control link -/

theorem setReceiver_keeps (s : State) (r : Receiver) : Keeps s (s.setReceiver r) :=
  setCp_keeps s _ (by exact id) (by rfl) (by exact id) (by exact id) (by exact id)

theorem countError_keeps (s : State) : Keeps s (s.setCp s.cp.countError) :=
  setCp_keeps s _ (by exact id) (by rfl) (by exact id) (by exact id) (by exact id)

theorem offerFrame_keeps (s : State) (body : List Byte) : Keeps s (s.offerFrame body) := by
  unfold State.offerFrame
  split
  · next h =>
    have h : s.cp.inbound.length < 4 := h
    exact setCp_keeps s _ (by exact id) (by rfl) (by exact id) (by simp; omega) (by exact id)
  · split
    · next h => exact placeReply_keeps s _ h
    · exact countError_keeps s

theorem takeByte_keeps (s : State) (b : Byte) : Keeps s (s.takeByte b) := by
  unfold State.takeByte
  split
  · split
    · exact setReceiver_keeps s _
    · exact Keeps.refl s
  · split
    · exact setReceiver_keeps s _
    · exact (setReceiver_keeps s _).trans (countError_keeps _)
  · split
    · exact setReceiver_keeps s _
    · exact setReceiver_keeps s _
  · exact setReceiver_keeps s _
  · unfold State.endFrame
    dsimp only
    split
    · exact (setReceiver_keeps s _).trans (offerFrame_keeps _ _)
    · exact (setReceiver_keeps s _).trans (countError_keeps _)

theorem controlFrame_keeps (s : State) (bytes : List Byte) : RowKeeps s (execControlFrame bytes s) :=
  onEvent_keeps s _ fun _ => (Keeps.foldl takeByte_keeps bytes s).kept_of_same
    (State.takeBytes_frame s bytes).2.2.2.2.2.1 
    (congrArg ModeController.mode (State.takeBytes_frame s bytes).2.2.2.2.2.2.2.2.1)

theorem gapTimeout_keeps (s : State) : RowKeeps s (execGapTimeout s) := by
  refine onEvent_keeps s _ fun _ => ?_
  split
  · exact Kept.refl s
  · exact ((setReceiver_keeps s _).trans (countError_keeps _)).kept_of_same rfl rfl

theorem badKind_keeps (s : State) : RowKeeps s (execBadKind s) := by
  refine ⟨_, rfl, ?_⟩
  split
  · next h =>
    rw [Bool.and_eq_true] at h
    exact answer_kept h.1 _ _
  · exact Kept.refl s

/-! ## Resets -/

theorem cacheWf_resetCache : cacheWf resetCache := by
  refine ⟨fun j => ?_, by simp [resetCache], by simp [resetCache]⟩
  show setWf emptySet
  exact ⟨rfl, by decide, by decide⟩

theorem domain_initial (t : Nat) (d : DomainId) : smapGet closedDomain (initialDomains t) d.toNat =
    if d = 0 then { state := .opened, quota := t, held := 0, score := 0, latch := false } else closedDomain := by
  by_cases h : d = 0
  · subst h
    rfl
  · have : d.toNat ≠ 0 := fun e => h (BitVec.eq_of_toNat_eq e)
    simp [initialDomains, smapGet, this.symm]
    exact fun e => absurd e h

theorem portWf_resetPort : portWf resetPort := by simp [portWf, resetPort]

/-- The blocks as any reset brings them, with no recovery and no change pending. -/
theorem resetBlocks_kept (s : State) (x : ModeController) (hr : x.recovery = none) (hp : x.pendingTarget = none)
    (ho : x.suspendOrigin = none) (hm : x.mode ≠ .suspended) (hi : x.inReset = some .resetLine → x.mode = .recovering) :
    Kept s (s.resetBlocks x) := by
  have hrec : recoveryWf (s.resetBlocks x) := by
    refine ⟨fun _ => hr, fun h => ⟨hi (h.resolve_right (by simp [State.resetBlocks, hr])), hp⟩⟩
  have mode : modeWf (s.resetBlocks x) := by simp [modeWf, State.resetBlocks, hm, ho, hp]
  have dom : domainsWf (s.resetBlocks x) := by
    have hd (d : DomainId) : (s.resetBlocks x).domain d =
        if d = 0 then { state := .opened, quota := 0, held := 0, score := 0, latch := false } else closedDomain :=
      domain_initial 0 d
    refine ⟨fun d => ?_, by rw [hd]; rfl, by rw [hd]; rfl, by simp [State.resetBlocks, resetEngine],
      by simp [State.resetBlocks, hr]⟩
    rw [hd]
    split <;> simp [scoreWf, closedDomain]
  have k : Keeps s (s.resetBlocks x) :=
    { pending := rfl
      memory := id
      cache := fun _ => cacheWf_resetCache
      domains := fun _ => dom
      notices := fun _ => (noticesWf_iff _).2 ⟨by simp [queueWf, State.resetBlocks, resetControl],
        by simp [commandsWf, State.resetBlocks, resetEngine], by simp [completionsWf, State.resetBlocks, resetControl],
        hrec, by simp [stillWf, State.resetBlocks, resetControl, resetEngine, resetEvents, hp]⟩
      writes := fun _ => ⟨hrec, mode, by simp [State.resetBlocks, resetScrubber]⟩
      capacity := fun _ => by
        simp [withinCapacity, State.resetBlocks, resetControl, ControlPort.placesUsed, resetLog, resetEngine,
          resetScrubber, resetCache, portWf_resetPort] }
  exact kept_of_writeLeft k fun _ => by simp [writeLeft, State.resetBlocks, resetScrubber]

theorem powerOn_kept (s : State) : Kept s s.powerOn :=
  (resetBlocks_kept s (resetMode .config .powerOn s.mc.resetLow) rfl rfl rfl (by simp [resetMode]) (by simp [resetMode])).trans
    ((setDram_keeps _ _ (fun _ => rfl)).kept_of_same rfl rfl)

theorem warmReset_kept (s : State) (c : ResetCause) (low : Bool) : Kept s (s.warmReset c low) :=
  resetBlocks_kept s (resetMode .recovering c low) rfl rfl rfl (by simp [resetMode]) (fun _ => rfl)

/-- A reset ends where RESET_N, or the part's own, has kept the mode RECOVERING. -/
theorem warmResetEnds_kept (s : State) (hi : s.mc.inReset ≠ none)
    (hm : recoveryWf s → s.mc.mode = .recovering ∧ s.mc.pendingTarget = none) : Kept s s.warmResetEnds := by
  have k : Keeps s s.warmResetEnds :=
    { pending := rfl
      domains := by simp +contextual [domainsWf, State.domain, State.warmResetEnds]
      notices := fun hn => by
        obtain ⟨h1, h2, h3, h4, h5⟩ := (noticesWf_iff s).1 hn
        have hrec : recoveryWf s.warmResetEnds :=
          ⟨by simp [State.warmResetEnds], fun _ => hm h4⟩
        exact (noticesWf_iff _).2 ⟨h1, h2, h3, hrec, fun _ => h5 (.inl hi)⟩
      writes := fun ⟨h1, h2, h3⟩ => ⟨⟨by simp [State.warmResetEnds], fun _ => hm h1⟩, h2, h3⟩ }
  exact k.kept_of_same rfl rfl

theorem powerOnEnds_kept (s : State) (hi : s.mc.inReset = some .powerOn) : Kept s s.powerOnEnds := by
  have none_left (h : recoveryWf s) : s.mc.recovery = none := h.1 (by simp [hi])
  have k : Keeps s (s.setMc { s.mc with inReset := none, decayTimer := some s.mc.decayCode }) :=
    { notices := fun hn => by
        obtain ⟨h1, h2, h3, h4, h5⟩ := (noticesWf_iff s).1 hn
        exact (noticesWf_iff _).2 ⟨h1, h2, h3, by simp [recoveryWf, none_left h4], by simp [stillWf, none_left h4]⟩
      writes := fun ⟨h1, h2, h3⟩ => ⟨by simp [recoveryWf, none_left h1], h2, h3⟩ }
  refine (k.placeNotice (.start .powerOn .unformatted 0 0 0) fun hn =>
    placeNotice_keeps _ _ (by simp) (fun _ _ => ?_) (by simp [completionTicket]) (fun _ => ?_)).kept_of_same (by simp) (by simp)
  · obtain ⟨-, -, -, -, h5⟩ := (noticesWf_iff s).1 hn
    exact (h5 (.inl (by simp [hi]))).1
  · obtain ⟨-, -, -, h4, -⟩ := (noticesWf_iff s).1 hn
    exact ⟨rfl, none_left h4⟩

theorem powerOn_keeps (s : State) : RowKeeps s (execPowerOn s) := ⟨_, rfl, powerOn_kept s⟩

theorem powerOnEnd_keeps (s : State) : RowKeeps s (execPowerOnEnd s) := by
  refine ⟨_, rfl, ?_⟩
  split
  · next h => exact powerOnEnds_kept s h.1
  · exact Kept.refl s

/-- The level of RESET_N is seen by nothing. -/
theorem setResetLow_kept (s : State) (b : Bool) : Kept s (s.setMc { s.mc with resetLow := b }) :=
  (setMc_keeps_of_same s _ (by constructor <;> rfl)).kept_of_same rfl rfl

theorem resetLine_keeps (s : State) : RowKeeps s (execResetLine s) := by
  refine ⟨_, rfl, ?_⟩
  split
  · exact Kept.refl s
  · split
    · exact setResetLow_kept s true
    · exact warmReset_kept s _ _

theorem resetLineEnd_keeps (s : State) : RowKeeps s (execResetLineEnd s) := by
  refine ⟨_, rfl, ?_⟩
  split
  · dsimp only
    split
    · next h =>
      exact (setResetLow_kept s false).trans (warmResetEnds_kept _ (by simp [h]) fun hr => hr.2 (.inl (by simp [h])))
    · exact setResetLow_kept s false
  · exact Kept.refl s

theorem replySent_keeps (s : State) : RowKeeps s (execReplySent s) := by
  refine onEvent_keeps s _ fun hi => ?_
  split
  · next r rest ht hr =>
    split
    · exact (warmReset_kept s _ _).trans (warmResetEnds_kept _ (by simp [State.warmReset, State.resetBlocks, resetMode])
        fun _ => ⟨rfl, rfl⟩)
    · refine ((setCp_keeps s { s.cp with replies := s.cp.replies.tail, transmitter := .free } ?_ rfl id id ?_).trans
        (arbitrate_keeps _)).kept_of_same (by simp) (by simp)
      · rintro ⟨h1, h2, h3⟩
        refine ⟨h1, h2, ?_⟩
        rw [ht] at h3
        simpa using h3
      · simp [ControlPort.placesUsed]
        omega
  · exact Kept.refl s

/-- A COMPLETION notice that leaves takes the slot of its command with it. -/
theorem freeSlot_keeps (s : State) (q : QueuedNotice) (rest : List QueuedNotice) (hn : s.cp.notices = q :: rest)
    (t : Ticket) (ht : completionTicket q = some t) :
    Keeps s ((s.setCp { s.cp with notices := rest, transmitter := .free }).freeSlot t) where
  domains := by
    rintro ⟨h1, h2, h3, h4, h5⟩
    exact ⟨h1, h2, h3, fun c hc => h4 c (List.mem_filter.1 hc).1, h5⟩
  notices hw := by
    obtain ⟨⟨h1, h2, h3⟩, ⟨h4, h5, h6⟩, ⟨h7, h8⟩, h9, h10⟩ := (noticesWf_iff s).1 hw
    rw [hn] at h1 h2 h7 h8
    rw [List.filterMap_cons, ht] at h7 h8
    obtain ⟨hnot, h7⟩ := List.nodup_cons.1 h7
    have find (k : Ticket) (c : Cmd) (h : s.te.table.find? (fun c => c.ticket == k) = some c) (hk : k ≠ t) :
        (s.te.table.filter fun c => c.ticket != t).find? (fun c => c.ticket == k) = some c := by
      rw [List.find?_filter, ← h]
      refine List.find?_congr fun x _ => ?_ 
      by_cases e : x.ticket = k <;> simp [e, hk]
    obtain ⟨c, hf, hp⟩ := h8 t (by simp)
    have head : ∀ x ∈ rest, x.number = none ∧ isStart x = false := by simpa using h2
    refine (noticesWf_iff _).2 ⟨⟨?_, ?_, ?_⟩, ⟨(List.length_filter_le _ _).trans h4,
      h5.sublist (List.filter_sublist.map _), fun w hw => ?_⟩, ⟨h7, fun k hk => ?_⟩, h9, fun h => ?_⟩
    · rw [List.countP_cons] at h1
      show rest.countP isWaitingEvent ≤ 1
      omega
    · exact fun x hx => head x (List.mem_of_mem_tail hx)
    · show Transmitter.free = .notice ↔ ∃ x, rest.head? = some x ∧ x.number ≠ none
      simp only [reduceCtorEq, false_iff, not_exists, not_and, not_not]
      exact fun x hx => (head x (List.mem_of_mem_head? hx)).1
    · obtain ⟨x, hx, hph⟩ := h6 w hw
      refine ⟨x, find _ _ hx ?_, hph⟩
      rintro rfl
      cases hf.symm.trans hx
      exact hph.2.2 hp
    · obtain ⟨x, hx, hph⟩ := h8 k (List.mem_cons_of_mem _ hk)
      exact ⟨x, find _ _ hx fun e => hnot (e ▸ hk), hph⟩
    · have := (h10 h).1
      simp [hn] at this
  capacity := by
    rintro ⟨h1, h2, h3, h4, h5⟩
    exact ⟨h1, h2, h3, (List.length_filter_le _ _).trans h4, h5⟩

theorem noticeSent_keeps (s : State) : RowKeeps s (execNoticeSent s) := by
  refine onEvent_keeps s _ fun hi => ?_
  split
  · next q rest ht hn =>
    have plain : Keeps s (s.setCp { s.cp with notices := rest, transmitter := .free }) ∨
        ∃ t, completionTicket q = some t := by
      cases hc : completionTicket q with
      | some t => exact .inr ⟨t, rfl⟩
      | none =>
        refine .inl (setCp_keeps s _ ?_ ?_ ?_ (by exact id) (by exact id))
        · rintro ⟨h1, h2, h3⟩
          rw [hn] at h1 h2
          have head : ∀ x ∈ rest, x.number = none ∧ isStart x = false := by simpa using h2
          refine ⟨?_, fun x hx => head x (List.mem_of_mem_tail hx), ?_⟩
          · rw [List.countP_cons] at h1
            show rest.countP isWaitingEvent ≤ 1
            omega
          · show Transmitter.free = .notice ↔ ∃ x, rest.head? = some x ∧ x.number ≠ none
            simp only [reduceCtorEq, false_iff, not_exists, not_and, not_not]
            exact fun x hx => (head x (List.mem_of_mem_head? hx)).1
        · simp [hn, hc]
        · simp [hn]
    have k : Keeps s ((s.setCp { s.cp with notices := rest, transmitter := .free }).noticeHandsOn q.notice) := by
      unfold State.noticeHandsOn
      split
      · next t c st d p e =>
        exact (freeSlot_keeps s q rest hn t (by simp [completionTicket, e])).trans (tryConfig_keeps _)
      · next hno =>
        rcases plain with k | ⟨t, h⟩
        · exact k
        · unfold completionTicket at h
          split at h
          · next e => exact absurd e (hno _ _ _ _ _)
          · cases h
    refine (k.trans (arbitrate_keeps _)).kept_of_suspended (by simp) (by simp) fun hw hm => ?_
    have same (t : Ticket) : ((s.setCp { s.cp with notices := rest, transmitter := .free }).freeSlot t).tryConfig.mc.mode =
        .suspended := by
      unfold State.tryConfig
      split
      · next hp => exact absurd hp.1 (pending_ne_config hw hm)
      · exact hm
    simp only [State.arbitrate_frame]
    unfold State.noticeHandsOn
    split
    · exact same _
    · exact hm
  · exact Kept.refl s

end Sys2Proof.Machine

namespace Sys2Proof.Machine

open Sys2Proof.Safety

/-! ## The request links -/

theorem countIntegrity_keeps (s : State) (p : Port) : Keeps s (s.countIntegrity p) :=
  (updatePort_keeps s p _ id).trans (setFlag_keeps _ _)

theorem refuseUnentered_keeps (s : State) (p : Port) (t : ReqTag) (op : Opcode) (reason : Reason) :
    Keeps s (s.refuseUnentered p t op reason) := by
  unfold State.refuseUnentered
  split
  · next h =>
    refine updatePort_keeps s p _ ?_
    rintro ⟨h1, h2, h3, h4, -, h6⟩
    have h : ((s.port p).sendList.filter SendItem.isRefusal).length < 8 := h
    refine ⟨h1, h2, h3, h4, ?_, by simpa [List.filter_append, SendItem.isAck] using h6⟩
    rw [List.filter_append, List.length_append]
    simp only [List.filter_cons, SendItem.isRefusal, if_true, List.filter_nil, List.length_cons, List.length_nil]
    omega
  · exact countIntegrity_keeps s p

/-- A request that is admitted has a place in the table, and its tag is new there. -/
theorem admission_eq_none {s : State} {p : Port} {t : ReqTag} (h : s.admission p t = none) :
    (s.port p).table.length < (s.port p).tagLimit ∧ (s.port p).entry t = none := by
  unfold State.admission at h
  dsimp only at h
  split at h
  · cases h
  · next h1 =>
    split at h
    · cases h
    · next h2 => exact ⟨Nat.not_le.1 h1, by simpa using h2⟩

theorem entry_eq_none {r : PortRec} {t : ReqTag} : r.entry t = none ↔ t ∉ r.table.map Entry.tag := by
  simp [PortRec.entry]

theorem takeIn_keeps (s : State) (p : Port) (t : ReqTag) (d : DomainId) (op : Opcode) (n : LineNo) (data : List Byte) :
    Keeps s (s.takeIn p t d op n data) := by
  unfold State.takeIn
  split
  · refine Keeps.trans ?_ (refuseUnentered_keeps _ p t op _)
    split
    · exact countIntegrity_keeps s p
    · exact Keeps.refl s
  · next h =>
    obtain ⟨hl, ht⟩ := admission_eq_none h
    refine (updatePort_keeps s p _ ?_).trans (takeRequest_keeps _ p t)
    rintro ⟨h1, h2, h3, h4, h5⟩
    refine ⟨h1, h2, by simp; omega, ?_, h5⟩
    simp only [List.map_append, List.map_cons, List.map_nil]
    refine List.nodup_append.2 ⟨h4, by simp, fun a ha b hb e => ?_⟩
    have hat : a = t := e.trans (List.mem_singleton.1 hb)
    exact entry_eq_none.1 ht (hat ▸ ha)

theorem requestArrives_kept (s : State) (p : Port) (t : ReqTag) (d : DomainId) (op : Opcode) (n : LineNo)
    (data : List Byte) : Kept s (s.requestArrives p t d op n data) := by
  unfold State.requestArrives
  split
  · refine ((updatePort_keeps s p PortRec.restartTimer id).trans (takeIn_keeps _ p t d op n data)).kept_of_same ?_ ?_ <;>
      unfold State.takeIn <;> (repeat' split) <;> simp
  · exact Kept.refl s

theorem requestRead_keeps (p : Port) (tag : Byte) (domain : BitVec 16) (line : BitVec 40) (s : State) :
    RowKeeps s (execRequestRead p tag domain line s) := onEvent_keeps s _ fun _ => requestArrives_kept s _ _ _ _ _ _

theorem requestWrite_keeps (p : Port) (tag : Byte) (domain : BitVec 16) (line : BitVec 40) (data : List Byte) (s : State) :
    RowKeeps s (execRequestWrite p tag domain line data s) := by
  refine onEvent_keeps s _ fun _ => ?_
  split
  · exact requestArrives_kept s _ _ _ _ _ _
  · exact Kept.refl s

theorem portWf_announced {r : PortRec} (n : Nat) (b : Bool) (h : portWf r) : portWf (r.announced n b) := by
  unfold PortRec.announced
  split
  · exact h
  · exact ⟨le_max_left _ _, max_le (by omega) (min_le_right _ _), h.2.2⟩

/-- A waiting ANNOUNCE_ACK whose content is replaced stays one, and is no refusal. -/
theorem replaceAck_refusals (r : PortRec) (l : List SendItem) :
    (l.map fun i => if i.isAck then r.ackNow else i).filter SendItem.isRefusal = l.filter SendItem.isRefusal := by
  induction l with
  | nil => rfl
  | cons i l ih => cases i <;> simp only [List.map_cons, List.filter_cons, ih] <;> rfl

theorem replaceAck_acks (r : PortRec) (l : List SendItem) :
    ((l.map fun i => if i.isAck then r.ackNow else i).filter SendItem.isAck).length =
      (l.filter SendItem.isAck).length := by
  induction l with
  | nil => rfl
  | cons i l ih =>
    simp only [List.map_cons, List.filter_cons]
    cases i with
    | ack => exact congrArg Nat.succ ih
    | response => exact ih
    | refusal => exact ih

/-- At most one ANNOUNCE_ACK waits in the send list: another takes its place, or is owed (R140). -/
theorem portWf_placeAck {r : PortRec} (h : portWf r) : portWf r.placeAck := by
  obtain ⟨h1, h2, h3, h4, h5, h6⟩ := h
  have ack (p : PortRec) : p.ackNow.isAck = true ∧ p.ackNow.isRefusal = false := ⟨rfl, rfl⟩
  unfold PortRec.placeAck
  split
  · exact ⟨h1, h2, h3, h4, by simp [ack], by simp [ack]⟩
  · next head rest hs =>
    split
    · exact ⟨h1, h2, h3, h4, h5, h6⟩
    · next hh =>
      rw [hs] at h5 h6
      split
      · refine ⟨h1, h2, h3, h4, ?_, ?_⟩
        · simpa [List.filter_cons, replaceAck_refusals] using h5
        · simpa [List.filter_cons, hh, replaceAck_acks] using h6
      · next hr =>
        have none_waits : rest.filter SendItem.isAck = [] := by simpa using hr
        refine ⟨h1, h2, h3, h4, ?_, ?_⟩
        · simpa [List.filter_append, List.filter_cons, ack] using h5
        · simp [List.filter_append, ack, hh, none_waits]

theorem announce_keeps (p : Port) (n b : Byte) (s : State) : RowKeeps s (execAnnounce p n b s) := by
  refine onEvent_keeps s _ fun _ => ?_
  unfold State.announce
  split
  · exact Kept.refl s
  · exact ((updatePort_keeps s p (fun r => ({ r.announced n.toNat (b.getLsbD 0) with link := .up }).restartTimer.placeAck)
      fun h => portWf_placeAck (r := ({ (s.port p).announced n.toNat (b.getLsbD 0) with link := .up }).restartTimer)
        (portWf_announced n.toNat (b.getLsbD 0) h)).trans
      (setFlag_keeps _ _)).kept_of_same (by simp) (by simp)
  · exact (updatePort_keeps s p (fun r => (r.announced n.toNat (b.getLsbD 0)).restartTimer.placeAck)
      fun h => portWf_placeAck (r := ((s.port p).announced n.toNat (b.getLsbD 0)).restartTimer)
        (portWf_announced n.toNat (b.getLsbD 0) h)).kept_of_same
      (by simp) (by simp)

theorem idle_keeps (p : Port) (s : State) : RowKeeps s (execIdle p s) := by
  refine onEvent_keeps s _ fun _ => ?_
  split
  · exact (updatePort_keeps s p PortRec.restartTimer id).kept_of_same (by simp) (by simp)
  · exact Kept.refl s

theorem badLinkFrame_keeps (p : Port) (bytes : List Byte) (s : State) : RowKeeps s (execBadLinkFrame p bytes s) := by
  refine onEvent_keeps s _ fun _ => ?_
  split
  · exact (countIntegrity_keeps s p).kept_of_same (by simp) (by simp)
  · exact Kept.refl s

theorem linkTimeout_keeps (p : Port) (s : State) : RowKeeps s (execLinkTimeout p s) := by
  refine onEvent_keeps s _ fun _ => ?_
  split
  · exact ((goDown_keeps s p .down).kept_of_same (by simp) (by simp)).trans (settleMode_kept _)
  · exact Kept.refl s

/-- The frame that has been sent leaves the send list; an acknowledgement that is owed follows one that was sent. -/
theorem portWf_frameSent {r : PortRec} {item : SendItem} {rest : List SendItem} (hs : r.sendList = item :: rest)
    (h : portWf r) : portWf (r.frameSent item rest) := by
  obtain ⟨h1, h2, h3, h4, h5, h6⟩ := h
  rw [hs, List.filter_cons] at h5 h6
  have h5 : (rest.filter SendItem.isRefusal).length ≤ 8 := by
    split at h5
    · simp at h5; omega
    · exact h5
  unfold PortRec.frameSent
  dsimp only
  split
  · next ha =>
    rw [Bool.and_eq_true] at ha
    rw [if_pos ha.1] at h6
    refine ⟨h1, h2, h3, h4, ?_, ?_⟩
    · simpa [List.filter_append, PortRec.ackNow, SendItem.isRefusal] using h5
    · simp at h6
      have : rest.filter SendItem.isAck = [] := by simpa using h6
      rw [List.filter_append, this]
      exact le_rfl
  · refine ⟨h1, h2, h3, h4, h5, ?_⟩
    split at h6
    · simp only [List.length_cons] at h6
      show (rest.filter SendItem.isAck).length ≤ 1
      omega
    · exact h6

theorem frameSent_keeps (s : State) (p : Port) : Keeps s (s.frameSent p) := by
  unfold State.frameSent
  split
  · exact Keeps.refl s
  · next item rest hs =>
    have k := updatePort_keeps s p (fun r => r.frameSent item rest) (portWf_frameSent hs)
    dsimp only
    split
    · exact k.trans (removeEntry_keeps _ p _)
    · exact k

theorem linkFrameSent_keeps (p : Port) (s : State) : RowKeeps s (execLinkFrameSent p s) := by
  refine onEvent_keeps s _ fun _ => ?_
  split
  · exact ((frameSent_keeps s p).kept_of_same (by simp) (by simp)).trans (settleMode_kept _)
  · exact Kept.refl s

/-! ## MI's completions -/

theorem dataPoison_keeps (s : State) (p : Port) (e : Entry) (o : MemOutcome) : Keeps s (s.dataPoison p e o) := by
  unfold State.dataPoison
  split
  · exact Keeps.refl s
  · exact (logRecord_keeps s _).trans (setFlag_keeps _ _)

theorem operationDone_keeps (s : State) (p : Port) (e : Entry) (o : MemOutcome) : Keeps s (s.operationDone p e o) := by
  have k : Keeps s ((s.setDram (s.dram.served e o)).dataPoison p e o) := by
    refine (setDram_keeps s _ fun h => ?_).trans (dataPoison_keeps _ p e o)
    unfold Dram.served
    split
    · exact h
    · exact memoryWf_complete _ _ _ _ h
  unfold State.operationDone
  dsimp only
  split
  · exact k.trans (removeEntry_keeps _ _ _)
  · exact k.trans (respond_keeps _ _ _ fun r => servedResponse r.poison e.op (s.dram.read (lineAddress e.lineNo) 64) o)

theorem memoryOpComplete_keeps (p : Port) (t : ReqTag) (o : MemOutcome) (s : State) :
    RowKeeps s (execMemoryOpComplete p t o s) := by
  refine onEvent_keeps s _ fun _ => ?_
  split
  · next e _ =>
    split
    · refine ((operationDone_keeps s p e o).kept_of_same ?_ ?_).trans (settleMode_kept _) <;>
        unfold State.operationDone State.dataPoison <;> dsimp only <;> (repeat' split) <;> simp
    · exact Kept.refl s
  · exact Kept.refl s

theorem fillComplete_keeps (j : Nat) (r : ReadOutcome) (s : State) : RowKeeps s (execFillComplete j r s) := by
  refine onEvent_keeps s _ fun _ => ?_
  split
  · next f c hf _ =>
    split
    · exact ((setDram_keeps s _ (memoryWf_decay _ _ _)).trans (completeFill_keeps _ f _ _ (fill_eq_some hf).1)).kept_settle
    · exact Kept.refl s
  · exact Kept.refl s

theorem takeTagWrite_length {j : Nat} {ws rest : List TagWrite} {w : TagWrite} (h : takeTagWrite j ws = some (w, rest)) :
    ws.length = rest.length + 1 := by
  induction ws generalizing w rest with
  | nil => cases h
  | cons x ws ih =>
    unfold takeTagWrite at h
    split at h
    · cases h
      rfl
    · obtain ⟨⟨w', rest'⟩, h', e⟩ := Option.map_eq_some_iff.1 h
      cases e
      simp [ih h']

/-- A write that leaves the write list may let a fill of its line issue its read. -/
theorem writeLeaves_cacheKeeps (tc : TagCache) (j : Nat) (ws : List TagWrite) (h : ws.length ≤ tc.writes.length) :
    CacheKeeps tc ({ tc with writes := ws }.readAfterWrite j) := by
  have k : CacheKeeps tc { tc with writes := ws } := { order := id, fills := id, writes := h.trans }
  unfold TagCache.readAfterWrite
  split
  · exact k
  · exact k.trans (mapFills_cacheKeeps _ _ (fun x => by split <;> rfl) (fun x => by split <;> rfl))

theorem writeThroughComplete_keeps (j : Nat) (o : MemOutcome) (s : State) :
    RowKeeps s (execWriteThroughComplete j o s) := by
  refine onEvent_keeps s _ fun _ => ?_
  split
  · next w rest c hw _ =>
    have hl := takeTagWrite_length hw
    exact (((setDram_keeps s _ (memoryWf_writeTags _ c w o)).trans
      (setTc_keeps _ _ (writeLeaves_cacheKeeps _ j rest (by simp; omega)))).trans (takeOldestHeld_keeps _)).kept_settle
  · exact Kept.refl s

theorem persistWriteComplete_keeps (a : Nat) (o : MemOutcome) (s : State) :
    RowKeeps s (execPersistWriteComplete a o s) := by
  refine onEvent_keeps s _ fun _ => ?_
  split
  · exact ((setDram_keeps s _ fun h => memoryWf_complete _ a _ o (by exact h)).trans (settleChannels_keeps _)).kept_of_same
      (by simp) (by simp)
  · exact Kept.refl s

/-! ## The engine's rows -/

/-- In a table of distinct tickets a command is found by its own. -/
theorem find_ticket_of_mem {l : List Cmd} {c : Cmd} (hd : (l.map Cmd.ticket).Nodup) (hc : c ∈ l) :
    l.find? (fun x => x.ticket == c.ticket) = some c := by
  induction l with
  | nil => cases hc
  | cons x l ih =>
    rw [List.map_cons, List.nodup_cons] at hd
    rcases List.mem_cons.1 hc with rfl | hc
    · simp
    · have hne : x.ticket ≠ c.ticket := fun e => hd.1 (e ▸ List.mem_map_of_mem hc)
      rw [List.find?_cons_of_neg (by simpa using hne)]
      exact ih hd.2 hc

theorem commandStart_keeps (s : State) : RowKeeps s (execCommandStart s) := by
  refine onEvent_keeps s _ fun _ => ?_
  split
  · next c hcur hq =>
    split
    · have hc : c ∈ s.te.table := List.mem_of_find?_eq_some hq
      have hp : c.phase = .queued := by simpa using List.find?_some hq
      have found (k : Ticket) := find_map_ticket (f := fun x : Cmd => { x with phase := .verify }) (l := s.te.table)
        (fun _ => rfl) c.ticket k
      have tickets := map_ite_eq (f := fun x : Cmd => { x with phase := .verify }) (g := Cmd.ticket) (fun _ => rfl) c.ticket
        s.te.table
      refine (setTe_keeps s { s.te with
        table := s.te.table.map fun x => if x.ticket = c.ticket then { x with phase := .verify } else x
        current := some (newWork c.ticket c.command.start) } tickets
        (map_ite_eq (fun _ => by rfl) _ _) ?_ ?_ ?_ ?_).kept_of_same (by rfl) (by rfl)
      · rintro ⟨h1, h2, -⟩
        refine ⟨by simpa using h1, tickets.symm ▸ h2, fun w hw => ?_⟩
        cases hw
        refine ⟨{ c with phase := .verify }, (found _).trans ?_, by simp⟩
        have e : s.te.table.find? (fun x => x.ticket == (newWork c.ticket c.command.start).ticket) = some c :=
          find_ticket_of_mem h2 hc
        rw [e, Option.map_some, if_pos rfl]
      · intro hn k x hx hph
        obtain ⟨-, ⟨-, h2, -⟩, -⟩ := (noticesWf_iff s).1 hn
        have hk : x.ticket = k := by simpa using List.find?_some hx
        have e : s.te.table.find? (fun x => x.ticket == k) = some x := hx
        refine ⟨x, (found k).trans ?_, hph⟩
        rw [e, Option.map_some, if_neg]
        intro ht
        rw [← hk, ht, find_ticket_of_mem h2 hc] at e
        cases e
        simp [hp] at hph
      · intro h
        rw [h] at hc
        cases hc
      · rintro - - - w hw
        cases hw
        simp [newWork]
    · exact Kept.refl s
  · exact Kept.refl s

theorem onPhase_keeps (s : State) (phase : Phase) (kind : Command → Bool) (act : Work → Command → State → State)
    (h : ∀ w c, s.te.current = some w → s.cmd w.ticket = some c → Keeps s (act w c.command s)) :
    RowKeeps s (s.onPhase phase kind act) := by
  refine onEvent_keeps s _ fun _ => ?_
  split
  · next w c e =>
    split
    · obtain ⟨hw, hc⟩ := currentCmd_eq_some e
      exact (h w c hw hc).kept_settle
    · exact Kept.refl s
  · exact Kept.refl s

theorem tagUnit_keeps (s : State) (phase : Phase) (kind : Command → Bool) : RowKeeps s (s.onPhase phase kind tagUnit) :=
  onPhase_keeps s _ _ _ fun _ _ _ _ => engineTry_keeps s

theorem verifyUnit_keeps (s : State) (phase : Phase) (kind : Command → Bool) :
    RowKeeps s (s.onPhase phase kind verifyUnit) := by
  refine onPhase_keeps s _ _ _ fun w c hw _ => ?_
  unfold verifyUnit
  split
  · exact beginVerify_keeps s w _ ⟨w, hw, rfl⟩
  · split
    · exact Keeps.refl s
    · exact engineTry_keeps s

theorem handoffUnit_keeps (s : State) (phase : Phase) (kind : Command → Bool) :
    RowKeeps s (s.onPhase phase kind handoffUnit) := by
  refine onPhase_keeps s _ _ _ fun w c _ _ => ?_
  unfold handoffUnit
  split
  · exact Keeps.refl s
  · split
    · exact openRun_keeps s w
    · exact engineTry_keeps s

theorem formatUnit_keeps (s : State) (phase : Phase) (kind : Command → Bool) :
    RowKeeps s (s.onPhase phase kind formatUnit) := by
  refine onPhase_keeps s _ _ _ fun w c _ _ => ?_
  unfold formatUnit
  split
  · exact Keeps.refl s
  · split
    · exact openRun_keeps s w
    · exact engineTry_keeps s

theorem expireDrain_keeps (s : State) (w : Work) (c : Command) (h : holds s w.ticket) : Keeps s (s.expireDrain w c) := by
  have k := updateWork_keeps_of_same s (fun w => { w with snapshot := [], timer := none, timedOut := true, cursor := c.start })
    (fun _ => rfl) (fun _ => by simp)
  unfold State.expireDrain
  dsimp only
  split
  · exact k.trans (notify_keeps_of_holds _ _ _ (holds_updateWork h _ fun _ _ => rfl))
  · exact k

theorem drainTimeout_keeps (s : State) : RowKeeps s (execDrainTimeout s) := by
  refine onPhase_keeps s _ _ _ fun w c hw _ => ?_
  unfold drainUnit
  split
  · exact engineTry_keeps s
  · split
    · exact expireDrain_keeps s w _ ⟨w, hw, rfl⟩
    · exact Keeps.refl s

theorem retireMark_keeps (s : State) : RowKeeps s (execRetireMark s) := by
  refine onEvent_keeps s _ fun _ => ?_
  split
  · next w c e =>
    obtain ⟨hw, -⟩ := currentCmd_eq_some e
    split
    · split
      · exact ((enterMark_keeps s _ _ ⟨w, hw, rfl⟩).trans (engineTry_keeps _)).kept_settle
      · exact (engineTry_keeps s).kept_settle
      · exact Kept.refl s
    · exact Kept.refl s
  · exact Kept.refl s

theorem formatVerify_keeps (s : State) : RowKeeps s (execFormatVerify s) := by
  refine onPhase_keeps s _ _ _ fun w c hw _ => ?_
  split
  · exact enterMark_keeps s _ _ ⟨w, hw, rfl⟩
  · exact Keeps.refl s

theorem initialDomains_keeps (s : State) (t : Nat) : Keeps s (s.setDomains (initialDomains t)) :=
  setDomains_keeps s _ fun ⟨_, _, _, h4, h5⟩ => by
    have hd (d : DomainId) : (s.setDomains (initialDomains t)).domain d =
        if d = 0 then { state := .opened, quota := t, held := 0, score := 0, latch := false } else closedDomain :=
      domain_initial t d
    refine ⟨fun d => ?_, by rw [hd]; rfl, by rw [hd]; rfl, h4, h5⟩
    rw [hd]
    split <;> simp [scoreWf, closedDomain]

theorem writeFixedParts_keeps (s : State) (c : PoolCode) : Keeps s (s.writeFixedParts c) := by
  have k1 : Keeps s (((s.setDomains (initialDomains (tenantGranules (some c)))).setShares []).setMc
      { s.mc with countsStale := false }) :=
    ((initialDomains_keeps s _).trans (setShares_keeps _ _)).trans (setMc_keeps_of_same _ _ (by constructor <;> rfl))
  have header (s : State) (k : PoolCode) : Keeps s (if k = c then s else s.persistHeader k false) := by
    split
    · exact Keeps.refl s
    · exact persistHeader_keeps s k false
  exact (((k1.trans (persistHeader_keeps _ c false)).trans (Keeps.foldl header _ _)).trans
    (Keeps.foldl persistDomainLine_keeps _ _)).trans (Keeps.foldl persistShareLine_keeps _ _)

theorem writeFixedParts_current (s : State) (c : PoolCode) : (s.writeFixedParts c).te = s.te := by
  have header (s : State) (k : PoolCode) : (if k = c then s else s.persistHeader k false).te = s.te := by
    split <;> simp
  simp [State.writeFixedParts, foldl_te, header]

theorem formatMark_keeps (s : State) : RowKeeps s (execFormatMark s) := by
  refine onPhase_keeps s _ _ _ fun w _ hw _ => ?_
  split
  · next c _ =>
    refine (writeFixedParts_keeps s c).trans (updateCmd_keeps_of_holds _ _ _ ⟨w, ?_, rfl⟩ (by simp))
    rw [writeFixedParts_current, hw]
  · exact Keeps.refl s

/-! ## The scrubber's rows, ticks and the return from self-refresh -/

theorem pacingTimerExpiry_keeps (s : State) : RowKeeps s (execPacingTimerExpiry s) := by
  refine onEvent_keeps s _ fun _ => ?_
  split
  · exact (setPacing_keeps s none).kept_scrubSettle
  · exact Kept.refl s

theorem scrubWriteComplete_keeps (line : Nat) (o : MemOutcome) (s : State) :
    RowKeeps s (execScrubWriteComplete line o s) := by
  refine onEvent_keeps s _ fun _ => ?_
  split
  · next w hw =>
    split
    · next hc =>
      refine ((setDram_keeps s _ (memoryWf_complete _ _ _ _)).trans (setSu_keeps _ _ (by exact id) ?_)).kept_settle
      intro h y hy
      cases hy
      have hlt : (w.inFlight.filter fun k => k != line).length < w.inFlight.length :=
        List.length_filter_lt_length_iff_exists.2 ⟨line, by simpa using hc, by simp⟩
      have := h w hw
      simp only [WriteGranule.completes]
      omega
    · exact Kept.refl s
  · exact Kept.refl s

/-- The table after a decay tick. -/
theorem decayed_domain (s : State) (d : DomainId) :
    smapGet closedDomain (smapUpdateBelow closedDomain Config.domainCount decayed s.domains) d.toNat =
      decayed d.toNat (s.domain d) := by
  rw [smapGet_updateBelow, if_pos (by simp [Config.domainCount, d.isLt])]
  rfl

theorem scoreWf_decayed (n : Nat) {r : DomainRec} (h : scoreWf r) : scoreWf (decayed n r) := by
  unfold decayed
  split
  · next hc =>
    obtain ⟨ha, hb⟩ := h
    have hl : r.latch = false := hc.2.2
    exact ⟨by simp only; omega, by simp only [hl]; simp; omega⟩
  · exact h

theorem decayTick_setDomains_keeps (s : State) :
    Keeps s (s.setDomains (smapUpdateBelow closedDomain Config.domainCount decayed s.domains)) := by
  refine setDomains_keeps s _ ?_
  rintro ⟨h1, h2, h3, h4, h5⟩
  have zero : decayed (0 : DomainId).toNat (s.domain 0) = s.domain 0 := by simp [decayed]
  simp only [domainsWf, State.domain, State.setDomains_domains, State.setDomains_te, State.setDomains_mc, decayed_domain]
  exact ⟨fun d => scoreWf_decayed _ (h1 d), zero.symm ▸ h2, zero.symm ▸ h3, h4, h5⟩

theorem decayTick_keeps (s : State) : RowKeeps s (execDecayTick s) := by
  refine onEvent_keeps s _ fun _ => ?_
  split
  · exact ((decayTick_setDomains_keeps s).trans (setMc_keeps_of_same _ _ (by constructor <;> rfl))).kept_of_same
      (by simp) (by simp)
  · exact Kept.refl s

theorem timestampTick_keeps (s : State) : RowKeeps s (execTimestampTick s) :=
  onEvent_keeps s _ fun _ => (setMc_keeps_of_same s _ (by constructor <;> rfl)).kept_of_same (by rfl) (by rfl)

theorem selfRefreshExit_keeps (s : State) : RowKeeps s (execSelfRefreshExit s) := by
  refine onEvent_keeps s _ fun _ => ?_
  split
  · next h => exact (resume_keeps s h.1).kept_scrubSettle
  · exact Kept.refl s

/-! ## Recovery's rows -/

/-- Recovery leaves the scrubber alone, and the mode is not SUSPENDED. -/
theorem Keeps.kept_of_recovery {s t : State} (k : Keeps s t) (h : s.mc.recovery ≠ none) (hs : t.su = s.su) : Kept s t where
  toKeeps := k
  whole hw := by
    refine (k.kept_of_suspended (by rw [hs]) (by rw [hs]) fun _ hm => ?_).whole hw
    have := (hw.1.2 (.inr h)).1
    rw [this] at hm
    cases hm

theorem headerRead_keeps (s : State) (c : PoolCode) (r : ReadOutcome) (h : s.mc.recovery ≠ none) :
    Keeps s (s.headerRead c r) := by
  have k := setDram_keeps s _ (memoryWf_decay s.dram (headerAddress c) r)
  unfold State.headerRead
  dsimp only
  split
  · exact k.trans (setMc_keeps_of_recovery _ (.domains 0) _ (by rfl) (by rfl) (by rfl) (by rfl) h (by rfl)
      (by simp))
  · split
    · next c' _ =>
      exact k.trans (setMc_keeps_of_recovery _ (.header c') _ (by rfl) (by rfl) (by rfl) (by rfl) h (by rfl) (by simp))
    · exact k.trans (endRecovery_keeps _ 0 0 0 h)

theorem headerReadComplete_keeps (r : ReadOutcome) (s : State) : RowKeeps s (execHeaderReadComplete r s) := by
  refine onEvent_keeps s _ fun _ => ?_
  split
  · next c hc =>
    split
    · exact (headerRead_keeps s c r (by simp [hc])).kept_of_recovery (by simp [hc]) (by simp)
    · exact Kept.refl s
  · exact Kept.refl s

/-- A latch that is loaded comes with score 256 (R38). -/
theorem scoreWf_loadedDomain (p : Option PersistedDomain) : scoreWf (loadedDomain p) := by
  unfold loadedDomain
  split
  · next p => cases h : p.latch <;> simp [scoreWf]
  · simp [scoreWf]

theorem loadDomain_keeps (c : PoolCode) (r : ReadOutcome) (s : State) (n : Nat) (h : n < 1024) :
    Keeps s (State.loadDomain c r s n) := by
  unfold State.loadDomain
  dsimp only
  split
  · exact setDomain_keeps s _ _ (fun _ => by simp [scoreWf]) fun _ _ => ⟨rfl, rfl⟩
  · next h0 =>
    have hd : BitVec.ofNat 10 n ≠ 0 := fun e => h0 (by simpa [Nat.mod_eq_of_lt h] using congrArg BitVec.toNat e)
    have k := setDomain_keeps s (BitVec.ofNat 10 n)
      (loadedDomain ((s.dram.record (domainAddress c n) 32 r).bind (PersistedDomain.ofStored n)))
      (fun _ => scoreWf_loadedDomain _) fun _ e => absurd e hd
    split
    · exact k.trans (setMc_keeps_of_same _ _ (by constructor <;> rfl))
    · exact k

/-- What MC holds, but for the quotas that are to be set, stays as a record is loaded. -/
@[simp] theorem loadDomain_mc (c : PoolCode) (r : ReadOutcome) (s : State) (n : Nat) :
    (State.loadDomain c r s n).mc.pendingTarget = s.mc.pendingTarget ∧
      (State.loadDomain c r s n).mc.suspendOrigin = s.mc.suspendOrigin := by
  constructor <;> unfold State.loadDomain <;> dsimp only <;> (repeat' split) <;> simp

theorem domainRead_keeps (s : State) (c : PoolCode) (k : Nat) (r : ReadOutcome) (h : s.mc.recovery = some (.domains k)) :
    Keeps s (s.domainRead c k r) := by
  by_cases hk : k < 512
  · refine ((setDram_keeps s _ (memoryWf_decay s.dram (domainLineAddress c k) r)).trans
      (setMc_keeps_of_recovery _ _ _ (by rfl) (by rfl) (by rfl) (by rfl) (by simp [h]) (by rfl) fun n => ?_)).trans
        ((loadDomain_keeps c r _ (2 * k) (by omega)).trans (loadDomain_keeps c r _ (2 * k + 1) (by omega)))
    split
    · next hk =>
      intro e
      cases e
      exact hk
    · simp
  · have hrec : (s.domainRead c k r).mc.recovery ≠ none := by simp [State.domainRead]
    have hp : (s.domainRead c k r).mc.pendingTarget = s.mc.pendingTarget := by simp [State.domainRead]
    have ho : (s.domainRead c k r).mc.suspendOrigin = s.mc.suspendOrigin := by simp [State.domainRead]
    exact
      { memory := by simpa [State.domainRead] using memoryWf_decay s.dram (domainLineAddress c k) r
        domains := fun hd => absurd (hd.2.2.2.2 k h) hk
        notices := by simp [noticesWf, recoveryWf, State.cmd, hrec, hp, h]
        writes := by simp [writeWf, recoveryWf, modeWf, hrec, hp, ho, h] }

theorem domainRecordRead_keeps (r : ReadOutcome) (s : State) : RowKeeps s (execDomainRecordRead r s) := by
  refine onEvent_keeps s _ fun _ => ?_
  split
  · next k c hk _ =>
    split
    · exact (domainRead_keeps s c k r hk).kept_of_recovery (by simp [hk]) (by simp)
    · exact Kept.refl s
  · exact Kept.refl s

theorem shareRead_keeps (s : State) (c : PoolCode) (k : Nat) (r : ReadOutcome) (h : s.mc.recovery ≠ none) :
    Keeps s (s.shareRead c k r) := by
  have k3 := ((setDram_keeps s _ (memoryWf_decay s.dram (shareLineAddress c k) r)).trans
      (setMc_keeps_of_recovery _ (if k + 1 < Config.shareLines then .shares (k + 1) else .walk newWalk)
        { s.mc with recovery := some (if k + 1 < Config.shareLines then .shares (k + 1) else .walk newWalk) }
        (by rfl) (by rfl) (by rfl) (by rfl) h (by rfl) fun n => by split <;> simp)).trans
      (Keeps.foldl (f := State.loadShare c r) (fun s n => setShares_keeps s _) [4 * k, 4 * k + 1, 4 * k + 2, 4 * k + 3] _)
  have written (u : State) (b : Bool) (ku : Keeps s u) : Keeps s (if b then u.persistShareLine k else u) := by
    split
    · exact ku.trans (persistShareLine_keeps u k)
    · exact ku
  exact written _ _ k3

theorem shareRecordRead_keeps (r : ReadOutcome) (s : State) : RowKeeps s (execShareRecordRead r s) := by
  refine onEvent_keeps s _ fun _ => ?_
  split
  · next k c hk _ =>
    split
    · exact (shareRead_keeps s c k r (by simp [hk])).kept_of_recovery (by simp [hk]) (by simp)
    · exact Kept.refl s
  · exact Kept.refl s

theorem walkStep_keeps (s : State) : RowKeeps s (execWalkStep s) := by
  refine onEvent_keeps s _ fun _ => ?_
  split
  · next w hw =>
    split
    · exact Kept.refl s
    · exact (walkTry_keeps s ⟨w, hw⟩).kept_settle
  · exact Kept.refl s

/-! ## Every command -/

theorem exec_keeps (c : Instr) (s : State) : RowKeeps s (exec c s) := by
  cases c with
  | controlFrame bytes => exact controlFrame_keeps s bytes
  | gapTimeout => exact gapTimeout_keeps s
  | badKind => exact badKind_keeps s
  | assign => exact onMessage_keeps s _ _ fun h f => acceptance_kept h _ (noRetire0_checkAssign s f)
  | reclaim => exact onMessage_keeps s _ _ fun h f => acceptance_kept h _ (noRetire0_checkReclaim s f)
  | shareRange =>
    exact onMessage_keeps s _ _ fun h f => acceptance_kept h _ (noRetire0_checkShare s f _ (by simp [Command.code]))
  | unshareRange =>
    exact onMessage_keeps s _ _ fun h f => acceptance_kept h _ (noRetire0_checkShare s f _ (by simp [Command.code]))
  | retire => exact onMessage_keeps s _ _ fun h f => acceptance_kept h _ (noRetire0_checkRetire s f)
  | recount => exact onMessage_keeps s _ _ fun h _ => acceptance_kept h _ (noRetire0_ok _ (by simp [Command.code]))
  | revive => exact revive_keeps s
  | format => exact format_keeps s
  | cancel => exact cancel_keeps s
  | ticketStatus => exact ticketStatus_keeps s
  | domainOpen => exact domainOpen_keeps s
  | domainQuota => exact domainQuota_keeps s
  | domainClose => exact domainClose_keeps s
  | domainClearScore => exact domainClearScore_keeps s
  | domainStatus => exact domainStatus_keeps s
  | shareCreate => exact shareCreate_keeps s
  | shareDelete => exact shareDelete_keeps s
  | shareStatus => exact shareStatus_keeps s
  | tagRead => exact tagRead_keeps s
  | survey => exact survey_keeps s
  | logRead => exact logRead_keeps s
  | logControl => exact logControl_keeps s
  | eventEnable => exact eventEnable_keeps s
  | eventClear => exact eventClear_keeps s
  | portSet => exact portSet_keeps s
  | portStatus => exact portStatus_keeps s
  | portClear => exact portClear_keeps s
  | modeRequest => exact modeRequest_keeps s
  | settings => exact settings_keeps s
  | partStatus => exact partStatus_keeps s
  | reset => exact reset_keeps s
  | replySent => exact replySent_keeps s
  | noticeSent => exact noticeSent_keeps s
  | requestRead p t d n => exact requestRead_keeps p t d n s
  | requestWrite p t d n data => exact requestWrite_keeps p t d n data s
  | announce p n b => exact announce_keeps p n b s
  | idle p => exact idle_keeps p s
  | badLinkFrame p bytes => exact badLinkFrame_keeps p bytes s
  | linkTimeout p => exact linkTimeout_keeps p s
  | linkFrameSent p => exact linkFrameSent_keeps p s
  | memoryOpComplete p t o => exact memoryOpComplete_keeps p t o s
  | fillComplete j r => exact fillComplete_keeps j r s
  | writeThroughComplete j o => exact writeThroughComplete_keeps j o s
  | commandStart => exact commandStart_keeps s
  | assignVerify => exact verifyUnit_keeps s _ _
  | assignApply => exact tagUnit_keeps s _ _
  | reclaimVerify => exact tagUnit_keeps s _ _
  | reclaimMark => exact tagUnit_keeps s _ _
  | drainTimeout => exact drainTimeout_keeps s
  | handoff => exact handoffUnit_keeps s .handoff fun c => c.isReclaim || c.isRevive
  | retireMark => exact retireMark_keeps s
  | retireHandoff => exact handoffUnit_keeps s _ _
  | shareRangeVerify => exact verifyUnit_keeps s _ _
  | shareRangeApply => exact tagUnit_keeps s _ _
  | unshareRangeVerify => exact verifyUnit_keeps s _ _
  | unshareRangeApply => exact tagUnit_keeps s _ _
  | reviveVerify => exact tagUnit_keeps s _ _
  | recountSweep => exact tagUnit_keeps s _ _
  | formatVerify => exact formatVerify_keeps s
  | formatMark => exact formatMark_keeps s
  | formatHandoff => exact formatUnit_keeps s _ _
  | persistWriteComplete a o => exact persistWriteComplete_keeps a o s
  | pacingTimerExpiry => exact pacingTimerExpiry_keeps s
  | scrubWriteComplete line o => exact scrubWriteComplete_keeps line o s
  | decayTick => exact decayTick_keeps s
  | timestampTick => exact timestampTick_keeps s
  | selfRefreshExit => exact selfRefreshExit_keeps s
  | powerOn => exact powerOn_keeps s
  | powerOnEnd => exact powerOnEnd_keeps s
  | resetLine => exact resetLine_keeps s
  | resetLineEnd => exact resetLineEnd_keeps s
  | headerReadComplete r => exact headerReadComplete_keeps r s
  | domainRecordRead r => exact domainRecordRead_keeps r s
  | shareRecordRead r => exact shareRecordRead_keeps r s
  | walkStep => exact walkStep_keeps s

end Sys2Proof.Machine

namespace Sys2Proof.Machine

open Sys2Proof.Safety

/-! ## Every step -/

/-- A condition that every row keeps and that does not look at the queue is kept by every step. -/
theorem step_keeps {P : State → Prop} (hk : ∀ {s t : State}, Kept s t → P s → P t)
    (hq : ∀ (s : State) (q : List Instr), P s → P (s.setPending q)) {s t : State} (h : P s) (ht : step s = .next t) : P t := by
  unfold step at ht
  split at ht
  · cases ht
    exact h
  · next c rest _ =>
    obtain ⟨u, hu, k⟩ := exec_keeps c (s.setPending rest)
    rw [hu] at ht
    cases ht
    exact hk k (hq s rest h)

/-- Settles O54. -/
theorem everyStepKeepsMemoryCanonical : Obligations.EveryStepKeepsMemoryCanonical := fun _ _ =>
  step_keeps (P := fun s => memoryWf s.dram.mem = true) (fun k => k.memory) fun _ _ => id

/-- Settles O55. -/
theorem everyStepKeepsScoresInBounds : Obligations.EveryStepKeepsScoresInBounds := fun _ _ =>
  step_keeps (fun k => k.domains) fun _ _ => id

/-- Settles O56. -/
theorem everyStepKeepsCapacities : Obligations.EveryStepKeepsCapacities := fun _ _ =>
  step_keeps (fun k => k.capacity) fun _ _ => id

/-- Settles O57. -/
theorem everyStepKeepsNoticesInOrder : Obligations.EveryStepKeepsNoticesInOrder := fun _ _ =>
  step_keeps (fun k => k.notices) fun _ _ => id

/-- Settles O58. -/
theorem everyStepKeepsCacheInOrder : Obligations.EveryStepKeepsCacheInOrder := fun _ _ =>
  step_keeps (P := fun s => cacheWf s.tc) (fun k => k.cache) fun _ _ => id

/-- Settles O59. -/
theorem everyStepKeepsScrubberInOrder : Obligations.EveryStepKeepsScrubberInOrder := fun _ _ =>
  step_keeps (fun k => k.whole) fun _ _ => id

/-- Settles O2. -/
theorem everyCommandAnswers : Obligations.EveryCommandAnswers := fun c s => by
  obtain ⟨t, ht, k⟩ := exec_keeps c s
  exact ⟨t, ht, k.pending⟩

/-- Settles O1. -/
theorem stepTakesFrontCommand : Obligations.StepTakesFrontCommand :=
  ⟨fun s c rest h => by simp [step, h], fun s h => by simp [step, h]⟩

/-- Settles O60: the reset state is the end of a power-on reset, whose blocks are in order whatever the part was. -/
theorem resetMeetsEveryCondition : Obligations.ResetMeetsEveryCondition := by
  have hd (d : DomainId) : State.reset.domain d =
      if d = 0 then { state := .opened, quota := 0, held := 0, score := 0, latch := false } else closedDomain :=
    domain_initial 0 d
  have hrec : recoveryWf State.reset := by simp [recoveryWf, State.reset]
  refine ⟨rfl, ⟨fun d => ?_, by rw [hd]; rfl, by rw [hd]; rfl, by simp [State.reset, resetEngine], by simp [State.reset]⟩, ?_,
    (noticesWf_iff _).2 ⟨?_, ?_, ?_, hrec, ?_⟩, cacheWf_resetCache, hrec, ?_, ?_⟩
  · rw [hd]
    split <;> simp [scoreWf, closedDomain]
  · simp [withinCapacity, State.reset, resetControl, ControlPort.placesUsed, resetLog, resetEngine, resetScrubber,
      resetCache, portWf_resetPort]
  · simp [queueWf, State.reset, resetControl, isWaitingEvent]
  · simp [commandsWf, State.reset, resetEngine]
  · simp [completionsWf, State.reset, resetControl, completionTicket, List.filterMap_cons]
  · simp [stillWf, State.reset]
  · simp [modeWf, State.reset]
  · simp [State.reset, resetScrubber]

end Sys2Proof.Machine

namespace Sys2Proof.Machine

open Sys2Proof.Safety

/-! # Which requests are served

A request becomes FORWARDED where CU serves it, and nowhere else. Two relations between states say so: `NoneServed`, that
every FORWARDED entry was one before; and `Serves`, that any other is of a tenant granule and the mode ENFORCE or MONITOR. -/

/-- Every FORWARDED entry was one before. -/
def NoneServed (s t : State) : Prop :=
  ∀ p, ∀ e ∈ (t.port p).table, e.stage = .forwarded →
    ∃ old ∈ (s.port p).table, old.tag = e.tag ∧ old.lineNo = e.lineNo ∧ old.stage = .forwarded

theorem NoneServed.refl (s : State) : NoneServed s s := fun _ e he hf => ⟨e, he, rfl, rfl, hf⟩

theorem NoneServed.trans {s t u : State} (h : NoneServed s t) (k : NoneServed t u) : NoneServed s u := fun p e he hf => by
  obtain ⟨x, hx, ht, hn, hxf⟩ := k p e he hf
  obtain ⟨y, hy, ht', hn', hyf⟩ := h p x hx hxf
  exact ⟨y, hy, ht'.trans ht, hn'.trans hn, hyf⟩

theorem NoneServed.of_ports {s t : State} (h : ∀ p, t.port p = s.port p) : NoneServed s t := fun p e he hf => by
  rw [h] at he
  exact ⟨e, he, rfl, rfl, hf⟩

/-- The two ports are as before. -/
theorem port_of_frame {s t : State} (h : t.portA = s.portA ∧ t.portB = s.portB) (p : Port) : t.port p = s.port p := by
  cases p
  · exact h.1
  · exact h.2

theorem NoneServed.of_frame {s t : State} (ha : t.portA = s.portA) (hb : t.portB = s.portB) : NoneServed s t :=
  .of_ports (port_of_frame ⟨ha, hb⟩)

/-- What follows leaves the ports alone. -/
theorem NoneServed.same {s t u : State} (h : NoneServed s t) (ha : u.portA = t.portA) (hb : u.portB = t.portB) :
    NoneServed s u := h.trans (.of_frame ha hb)

theorem setFlag_noneServed (s : State) (f : EventFlag) : NoneServed s (s.setFlag f) := .of_frame (by simp) (by simp)

theorem answer_noneServed (s : State) (st : Status) (rs : List Byte) : NoneServed s (s.answer st rs) :=
  .of_frame (by simp) (by simp)

theorem NoneServed.foldl {β : Type} {f : State → β → State} (h : ∀ s b, NoneServed s (f s b)) (l : List β) (s : State) :
    NoneServed s (l.foldl f s) := by
  induction l generalizing s with
  | nil => exact .refl s
  | cons b l ih => exact (h s b).trans (ih _)

theorem updatePort_port (s : State) (p q : Port) (f : PortRec → PortRec) :
    (s.updatePort p f).port q = if q = p then f (s.port p) else s.port q := by
  cases p <;> cases q <;> rfl

/-- A change of one port's record that makes no entry FORWARDED. -/
theorem updatePort_noneServed (s : State) (p : Port) (f : PortRec → PortRec)
    (h : ∀ e ∈ (f (s.port p)).table, e.stage = .forwarded →
      ∃ old ∈ (s.port p).table, old.tag = e.tag ∧ old.lineNo = e.lineNo ∧ old.stage = .forwarded) :
    NoneServed s (s.updatePort p f) := fun q e he hf => by
  rw [updatePort_port] at he
  split at he
  · next hq =>
    subst hq
    exact h e he hf
  · exact ⟨e, he, rfl, rfl, hf⟩

theorem updatePort_noneServed_of_table (s : State) (p : Port) (f : PortRec → PortRec)
    (h : (f (s.port p)).table = (s.port p).table) : NoneServed s (s.updatePort p f) :=
  updatePort_noneServed s p f fun e he hf => ⟨e, h ▸ he, rfl, rfl, hf⟩

theorem removeEntry_noneServed (s : State) (p : Port) (t : ReqTag) : NoneServed s (s.removeEntry p t) :=
  (updatePort_noneServed s p (fun r => { r with table := r.table.filter fun e => e.tag != t }) fun e he hf =>
    ⟨e, (List.mem_filter.1 he).1, rfl, rfl, hf⟩).trans (.of_frame (by simp [State.removeEntry]) (by simp [State.removeEntry]))

/-- The response of an entry leaves its stage. -/
theorem respond_noneServed (s : State) (p : Port) (t : ReqTag) (f : PortRec → Response) :
    NoneServed s (s.updatePort p fun r => r.respond t (f r)) :=
  updatePort_noneServed s p _ fun e he hf => by
    obtain ⟨x, hx, rfl⟩ := List.mem_map.1 he
    refine ⟨x, hx, ?_⟩
    split <;> simp_all

theorem goDown_noneServed (s : State) (p : Port) (d : LinkState) : NoneServed s (s.goDown p d) := by
  unfold State.goDown
  refine NoneServed.trans (t := (s.port p).answeredTags.foldl (fun s t => s.removeEntry p t)
    (s.updatePort p fun r => r.goneDown d)) ?_ (.of_frame (by simp) (by simp))
  refine (updatePort_noneServed s p _ fun e he hf => ?_).trans
    (NoneServed.foldl (fun s t => removeEntry_noneServed s p t) _ _)
  obtain ⟨x, hx, rfl⟩ := List.mem_map.1 he
  exact ⟨x, hx, rfl, rfl, hf⟩

/-! ## Rows that serve nothing -/

/-- A row that makes no entry FORWARDED. -/
def RowServesNone (s : State) (o : Host.Outcome State Fault Refusal) : Prop := ∀ t, o = .next t → NoneServed s t

theorem onMessage_servesNone (s : State) (kind : Byte) (act : List Byte → State) (h : ∀ f, NoneServed s (act f)) :
    RowServesNone s (s.onMessage kind act) := by
  rintro t ht
  cases ht
  split
  · split
    · exact h _
    · exact .of_frame (by simp) (by simp)
  · exact .refl s

theorem onEvent_servesNone (s : State) (f : State → State) (h : NoneServed s (f s)) : RowServesNone s (s.onEvent f) := by
  rintro t ht
  cases ht
  split
  · exact .refl s
  · exact h

theorem onPhase_servesNone (s : State) (phase : Phase) (kind : Command → Bool) (act : Work → Command → State → State)
    (ha : ∀ w c, (act w c s).portA = s.portA) (hb : ∀ w c, (act w c s).portB = s.portB) :
    RowServesNone s (s.onPhase phase kind act) := by
  refine onEvent_servesNone s _ ?_
  split
  · split
    · exact .of_frame (by simp [ha]) (by simp [hb])
    · exact .refl s
  · exact .refl s

theorem resetBlocks_noneServed (s : State) (x : ModeController) : NoneServed s (s.resetBlocks x) := fun p e he _ => by
  cases p <;> cases he

theorem onDomain_servesNone (s : State) (kind : Byte) (act : List Byte → DomainId → State)
    (h : ∀ f d, NoneServed s (act f d)) : RowServesNone s (s.onMessage kind fun f => s.onDomain f (act f)) := by
  refine onMessage_servesNone s _ _ fun f => ?_
  unfold State.onDomain
  (repeat' split) <;> first | exact h _ _ | exact .of_frame (by simp) (by simp)

theorem acceptance_servesNone (s : State) (kind : Byte) (c : List Byte → Except Status Command) :
    RowServesNone s (s.onMessage kind fun f => s.acceptance (c f)) :=
  onMessage_servesNone s _ _ fun _ => .of_frame (by simp) (by simp)

theorem setOnePort_noneServed (s : State) (f : List Byte) (p : Port) : NoneServed s (s.setOnePort f p) := by
  have table (r : PortRec) : ((((r.setAperture f).setWatch f).setFreeze f).setTimeout f).table = r.table := by
    unfold PortRec.setTimeout PortRec.setFreeze PortRec.setWatch PortRec.setAperture
    (repeat' split) <;> rfl
  refine NoneServed.trans ?_ (updatePort_noneServed_of_table _ p _ (table _))
  unfold State.setEnable
  split
  · exact (updatePort_noneServed_of_table s p _ (by rfl)).trans (setFlag_noneServed _ _)
  · split
    · dsimp only
      split
      · exact (updatePort_noneServed_of_table s p _ (by rfl)).trans (goDown_noneServed _ _ _)
      · exact ((updatePort_noneServed_of_table s p _ (by rfl)).trans (updatePort_noneServed_of_table _ p _ (by rfl))).trans (setFlag_noneServed _ _)
    · exact .refl s

theorem portSet_servesNone (s : State) : RowServesNone s (execPortSet s) := by
  refine onMessage_servesNone s _ _ fun f => ?_
  split
  · exact .of_frame (by simp) (by simp)
  · split
    · exact .of_frame (by simp) (by simp)
    · next ps _ =>
      split
      · exact .of_frame (by simp) (by simp)
      · exact (NoneServed.foldl (fun s p => setOnePort_noneServed s f p) ps s).same (by simp) (by simp)

theorem setPool_noneServed (s : State) (c : Option PoolCode) : NoneServed s (s.setPool c) := by
  have trim (s : State) (p : Port) (t : Nat) : NoneServed s (s.updatePort p fun p => p.trimAperture t) :=
    updatePort_noneServed_of_table s p _ (by unfold PortRec.trimAperture; split <;> rfl)
  unfold State.setPool State.setQuota0
  refine ((NoneServed.of_frame ?_ ?_).trans (trim _ .a _)).trans (trim _ .b _) <;> split <;> simp

theorem settings_servesNone (s : State) : RowServesNone s (execSettings s) := by
  refine onMessage_servesNone s _ _ fun f => ?_
  split
  · exact answer_noneServed s _ _
  · split
    · exact .of_frame (by simp) (by simp)
    · split
      · exact answer_noneServed s _ _
      · split
        · exact answer_noneServed s _ _
        · next code _ => exact (setPool_noneServed s code).same (by simp) (by simp)

theorem portClear_servesNone (s : State) : RowServesNone s (execPortClear s) := by
  refine onMessage_servesNone s _ _ fun f => ?_
  split
  · exact answer_noneServed s _ _
  · split
    · exact answer_noneServed s _ _
    · split
      · exact (updatePort_noneServed_of_table s _ _ (by rfl)).trans (answer_noneServed _ _ _)
      · exact answer_noneServed s _ _

theorem announce_servesNone (p : Port) (n b : Byte) (s : State) : RowServesNone s (execAnnounce p n b s) := by
  have table (r : PortRec) : r.placeAck.table = r.table := by
    unfold PortRec.placeAck
    (repeat' split) <;> rfl
  have announced (r : PortRec) (n : Nat) (b : Bool) : (r.announced n b).table = r.table := by
    unfold PortRec.announced
    split <;> rfl
  refine onEvent_servesNone s _ ?_
  unfold State.announce
  split
  · exact .refl s
  · exact (updatePort_noneServed_of_table s p _ ((table ({ (s.port p).announced n.toNat (b.getLsbD 0) with
      link := .up }).restartTimer).trans (announced (s.port p) n.toNat (b.getLsbD 0)))).trans (setFlag_noneServed _ _)
  · exact updatePort_noneServed_of_table s p _
      ((table ((s.port p).announced n.toNat (b.getLsbD 0)).restartTimer).trans (announced (s.port p) n.toNat (b.getLsbD 0)))

theorem badLinkFrame_servesNone (p : Port) (bytes : List Byte) (s : State) :
    RowServesNone s (execBadLinkFrame p bytes s) := by
  refine onEvent_servesNone s _ ?_
  split
  · exact (updatePort_noneServed_of_table s p _ (by rfl)).trans (setFlag_noneServed _ _)
  · exact .refl s

theorem linkFrameSent_servesNone (p : Port) (s : State) : RowServesNone s (execLinkFrameSent p s) := by
  refine onEvent_servesNone s _ ?_
  split
  · refine NoneServed.trans ?_ (.of_frame (by simp) (by simp) : NoneServed (s.frameSent p) _)
    unfold State.frameSent
    split
    · exact .refl s
    · next item rest _ =>
      have k : NoneServed s (s.updatePort p fun r => r.frameSent item rest) :=
        updatePort_noneServed_of_table s p _ (by unfold PortRec.frameSent; dsimp only; split <;> rfl)
      dsimp only
      split
      · exact k.trans (removeEntry_noneServed _ _ _)
      · exact k
  · exact .refl s

theorem memoryOpComplete_servesNone (p : Port) (t : ReqTag) (o : MemOutcome) (s : State) :
    RowServesNone s (execMemoryOpComplete p t o s) := by
  refine onEvent_servesNone s _ ?_
  split
  · next e _ =>
    split
    · refine NoneServed.trans ?_ (.of_frame (by simp) (by simp) : NoneServed (s.operationDone p e o) _)
      have k : NoneServed s ((s.setDram (s.dram.served e o)).dataPoison p e o) := .of_frame (by simp) (by simp)
      unfold State.operationDone
      dsimp only
      split
      · exact k.trans (removeEntry_noneServed _ _ _)
      · exact k.trans (respond_noneServed _ _ _ fun r => servedResponse r.poison e.op (s.dram.read (lineAddress e.lineNo) 64) o)
    · exact .refl s
  · exact .refl s

end Sys2Proof.Machine

namespace Sys2Proof.Machine

open Sys2Proof.Safety

/-! ## Rows that may serve -/

/-- The mode is one in which requests are served. -/
def serving (s : State) : Prop := s.mc.mode = .enforce ∨ s.mc.mode = .monitor

/-- The tags of each port's table are distinct. -/
def tagsDistinct (s : State) : Prop := ∀ q, ((s.port q).table.map Entry.tag).Nodup

/-- Every FORWARDED entry was one before, or addresses a tenant granule and the mode is ENFORCE or MONITOR. -/
def TenantsServed (s t : State) : Prop :=
  ∀ p, ∀ e ∈ (t.port p).table, e.stage = .forwarded →
    (∃ old ∈ (s.port p).table, old.tag = e.tag ∧ old.lineNo = e.lineNo ∧ old.stage = .forwarded) ∨
      serving s ∧ granuleOf e.lineNo < s.tenants

/-- An operation that may serve: the mode does not become one in which requests are served, the pool stays, and only
tenant granules are served. -/
structure Serves (s t : State) : Prop where
  mode : serving t → serving s
  pool : t.mc.poolCode = s.mc.poolCode
  distinct : tagsDistinct s → tagsDistinct t
  served : tagsDistinct s → TenantsServed s t

theorem NoneServed.tenants {s t : State} (h : NoneServed s t) : TenantsServed s t := fun p e he hf =>
  .inl (h p e he hf)

theorem Serves.trans {s t u : State} (h : Serves s t) (k : Serves t u) : Serves s u where
  mode := h.mode ∘ k.mode
  pool := k.pool.trans h.pool
  distinct := k.distinct ∘ h.distinct
  served hd p e he hf := by
    rcases k.served (h.distinct hd) p e he hf with ⟨x, hx, ht, hn, hxf⟩ | ⟨hs, hg⟩
    · rcases h.served hd p x hx hxf with ⟨y, hy, ht', hn', hyf⟩ | ⟨hs, hg⟩
      · exact .inl ⟨y, hy, ht'.trans ht, hn'.trans hn, hyf⟩
      · exact .inr ⟨hs, hn ▸ hg⟩
    · refine .inr ⟨h.mode hs, ?_⟩
      rwa [State.tenants, ← h.pool]

/-- An operation that leaves the ports alone. -/
theorem Serves.of_frame {s t : State} (ha : t.portA = s.portA) (hb : t.portB = s.portB) (hm : serving t → serving s)
    (hp : t.mc.poolCode = s.mc.poolCode) : Serves s t where
  mode := hm
  pool := hp
  distinct hd q := port_of_frame ⟨ha, hb⟩ q ▸ hd q
  served _ := (NoneServed.of_frame ha hb).tenants

theorem Serves.refl (s : State) : Serves s s := .of_frame rfl rfl id rfl

/-- What follows leaves the ports, the mode and the pool alone. -/
theorem Serves.same {s t u : State} (h : Serves s t) (ha : u.portA = t.portA) (hb : u.portB = t.portB)
    (hm : u.mc.mode = t.mc.mode) (hp : u.mc.poolCode = t.mc.poolCode) : Serves s u :=
  h.trans (.of_frame ha hb (by rw [serving, serving, hm]; exact id) hp)

theorem Serves.foldl {β : Type} {f : State → β → State} (h : ∀ s b, Serves s (f s b)) (l : List β) (s : State) :
    Serves s (l.foldl f s) := by
  induction l generalizing s with
  | nil => exact .refl s
  | cons b l ih => exact (h s b).trans (ih _)

/-- A change of one port's table. -/
theorem updatePort_serves (s : State) (p : Port) (f : PortRec → PortRec)
    (hd : ((s.port p).table.map Entry.tag).Nodup → ((f (s.port p)).table.map Entry.tag).Nodup)
    (h : ((s.port p).table.map Entry.tag).Nodup → ∀ e ∈ (f (s.port p)).table, e.stage = .forwarded →
      (∃ old ∈ (s.port p).table, old.tag = e.tag ∧ old.lineNo = e.lineNo ∧ old.stage = .forwarded) ∨
        serving s ∧ granuleOf e.lineNo < s.tenants) : Serves s (s.updatePort p f) where
  mode := by simp [serving]
  pool := by simp
  distinct ht q := by
    rw [updatePort_port]
    split
    · exact hd (ht p)
    · exact ht q
  served ht q e he hf := by
    rw [updatePort_port] at he
    split at he
    · next hq =>
      subst hq
      exact h (ht q) e he hf
    · exact .inl ⟨e, he, rfl, rfl, hf⟩

theorem removeEntry_serves (s : State) (p : Port) (t : ReqTag) : Serves s (s.removeEntry p t) :=
  (updatePort_serves s p (fun r => { r with table := r.table.filter fun e => e.tag != t })
    (fun h => h.sublist (List.filter_sublist.map _))
    fun _ e he hf => .inl ⟨e, (List.mem_filter.1 he).1, rfl, rfl, hf⟩).trans
    (.of_frame (by simp [State.removeEntry]) (by simp [State.removeEntry]) (by simp [serving, State.removeEntry])
      (by simp [State.removeEntry]))

theorem refuseEntry_serves (s : State) (p : Port) (e : Entry) (reason : Reason) : Serves s (s.refuseEntry p e reason) := by
  unfold State.refuseEntry
  split
  · exact removeEntry_serves s p _
  · refine updatePort_serves s p _ (fun h => ?_) fun _ x hx hf => .inl ?_
    · have tags := updateEntry_tags (s.port p) e.tag (fun x => { x with
        response := some { outcome := refusedOutcome (s.port p).poison e.op, reason := reason, data := [] }, data := [] })
        fun _ => rfl
      exact tags.symm ▸ h
    · exact respond_noneServed s p e.tag
        (fun r => { outcome := refusedOutcome r.poison e.op, reason := reason, data := [] }) p x
        (by rw [updatePort_port, if_pos rfl]; exact hx) hf

/-- In a table of distinct tags an entry is found by its own. -/
theorem entry_eq_of_mem {r : PortRec} {e x : Entry} (hd : (r.table.map Entry.tag).Nodup) (he : r.entry e.tag = some e)
    (hx : x ∈ r.table) (ht : x.tag = e.tag) : x = e :=
  List.inj_on_of_nodup_map hd hx (List.mem_of_find?_eq_some he) ht

theorem serveEntry_serves (s : State) (p : Port) (e : Entry) (h : (s.port p).entry e.tag = some e) (hs : serving s)
    (hg : granuleOf e.lineNo < s.tenants) : Serves s (s.serveEntry p e) := by
  have tags := updateEntry_tags (s.port p) e.tag (fun e => { e with stage := .forwarded }) fun _ => rfl
  refine updatePort_serves s p _ (fun h => tags.symm ▸ h) fun hd x hx hf => ?_
  obtain ⟨y, hy, rfl⟩ := List.mem_map.1 hx
  by_cases ht : y.tag = e.tag
  · obtain rfl := entry_eq_of_mem hd h hy ht
    exact .inr ⟨hs, by simpa using hg⟩
  · simp only [ht, if_false] at hf ⊢
    exact .inl ⟨y, hy, rfl, rfl, hf⟩

/-- Only a request to a tenant granule is ruled to be served, and only in ENFORCE or MONITOR (R57, R67). -/
theorem decideRequest_served {s : State} {e : Entry} {tag : Option TagRec} {r : Ruling}
    (h : s.decideRequest e tag = .ruled r) (hr : r.served = true) : serving s ∧ granuleOf e.lineNo < s.tenants := by
  unfold State.decideRequest at h
  dsimp only at h
  split at h
  · cases h
  · next hm =>
    have hs : serving s := by
      by_contra hn
      exact hm (by simpa [serving, not_or] using hn)
    refine ⟨hs, ?_⟩
    split at h
    · cases h
      cases hr
    · split at h
      · split at h
        · cases h
          cases hr
        · split at h
          · cases h
            cases hr
          · next hg => exact Nat.not_le.1 hg
      · split at h
        · cases h
          cases hr
        · next hg => exact Nat.not_le.1 hg

theorem applyRuling_serves (s : State) (p : Port) (e : Entry) (r : Ruling) (h : (s.port p).entry e.tag = some e)
    (hr : r.served = true → serving s ∧ granuleOf e.lineNo < s.tenants) : Serves s (s.applyRuling p e r) := by
  have k : Serves s (s.ruleEffects p e r) := .of_frame (by simp) (by simp) (by simp [serving]) (by simp)
  have hport : (s.ruleEffects p e r).port p = s.port p := port_of_frame ⟨by simp, by simp⟩ p
  unfold State.applyRuling
  dsimp only
  split
  · next hsv =>
    obtain ⟨hs, hg⟩ := hr hsv
    exact k.trans (serveEntry_serves _ p e (hport ▸ h) (by simpa [serving] using hs) (by simpa [State.tenants] using hg))
  · exact k.trans (refuseEntry_serves _ _ _ _)

theorem decideWithTag_serves (s : State) (p : Port) (e : Entry) (line : TagLine) (h : (s.port p).entry e.tag = some e) :
    Serves s (s.decideWithTag p e line) := by
  unfold State.decideWithTag
  split
  · next r hd => exact applyRuling_serves s p e r h fun hr => decideRequest_served hd hr
  · exact refuseEntry_serves s p e _
  · exact .refl s

theorem lookupRequest_serves (s : State) (p : Port) (e : Entry) (h : (s.port p).entry e.tag = some e) :
    Serves s (s.lookupRequest p e) := by
  have k (tc : TagCache) : Serves s (s.setTc tc) := .of_frame rfl rfl id rfl
  unfold State.lookupRequest State.lookup
  split
  · exact (k _).trans (decideWithTag_serves _ p e _ (by cases p <;> exact h))
  · exact k _

/-- An entry that is found has the tag it is found by. -/
theorem entry_tag {r : PortRec} {t : ReqTag} {e : Entry} (h : r.entry t = some e) : e.tag = t := by
  simpa using List.find?_some h

theorem takeRequest_serves (s : State) (p : Port) (t : ReqTag) : Serves s (s.takeRequest p t) := by
  unfold State.takeRequest
  split
  · exact .refl s
  · next e he =>
    have hself : (s.port p).entry e.tag = some e := by rw [entry_tag he, he]
    split
    · next r hd => exact applyRuling_serves s p e r hself fun hr => decideRequest_served hd hr
    · exact refuseEntry_serves s p e _
    · exact lookupRequest_serves s p e hself

theorem retakeRequest_serves (s : State) (p : Port) (t : ReqTag) : Serves s (s.retakeRequest p t) := by
  unfold State.retakeRequest
  split
  · exact .refl s
  · next e he => exact lookupRequest_serves s p e (by rw [entry_tag he, he])

/-! ### What the engine's units leave alone -/

/-- A drain timeout goes on from a granule that it has taken or passed over (R106). -/
def State.timeoutNext (s : State) (w : Work) (c : Command) : State :=
  let s' := s.updateWork fun w => { w with cursor := w.cursor + 1 }
  if c.stop s.tenants ≤ w.cursor + 1 then s'.notify w.ticket .drainTimeout else s'

theorem State.timeoutAct_of_draining (s : State) (w : Work) (c : Command) {r : TagRec} {o : DomainId}
    (h : r.tag = .draining o w.ticket) : s.timeoutAct w c r =
      s.change .engine w.cursor true { r with tag := .poisoned (some o) .drainTimeout }
        (fun s => (s.creditPoisoned w.ticket).timeoutNext w c) id State.engineWaits := by
  simp only [State.timeoutAct, h, if_true]
  rfl

theorem State.timeoutAct_of_other (s : State) (w : Work) (c : Command) {r : TagRec}
    (h : ∀ o, r.tag ≠ .draining o w.ticket) : s.timeoutAct w c r = s.timeoutNext w c := by
  unfold State.timeoutAct
  split
  · next o t e =>
    refine if_neg fun ht => h o ?_
    rw [e, ht]
  · rfl

@[simp] theorem State.timeoutNext_frame (s : State) (w : Work) (c : Command) :
    (s.timeoutNext w c).su = s.su ∧ (s.timeoutNext w c).vl = s.vl ∧ (s.timeoutNext w c).eu = s.eu ∧
    (s.timeoutNext w c).mc.mode = s.mc.mode ∧ (s.timeoutNext w c).mc.poolCode = s.mc.poolCode ∧
    (s.timeoutNext w c).mc.inReset = s.mc.inReset ∧ (s.timeoutNext w c).cp.executing = s.cp.executing ∧
    (s.timeoutNext w c).portA = s.portA ∧ (s.timeoutNext w c).portB = s.portB ∧
    (s.timeoutNext w c).pending = s.pending := by
  unfold State.timeoutNext
  dsimp only
  split <;> simp

@[simp] theorem State.timeoutAct_frame (s : State) (w : Work) (c : Command) (r : TagRec) :
    (s.timeoutAct w c r).su = s.su ∧ (s.timeoutAct w c r).vl = s.vl ∧ (s.timeoutAct w c r).eu = s.eu ∧
    (s.timeoutAct w c r).mc.mode = s.mc.mode ∧ (s.timeoutAct w c r).mc.poolCode = s.mc.poolCode ∧
    (s.timeoutAct w c r).mc.inReset = s.mc.inReset ∧ (s.timeoutAct w c r).cp.executing = s.cp.executing ∧
    (s.timeoutAct w c r).portA = s.portA ∧ (s.timeoutAct w c r).portB = s.portB ∧
    (s.timeoutAct w c r).pending = s.pending := by
  by_cases h : ∃ o, r.tag = .draining o w.ticket
  · obtain ⟨o, h⟩ := h
    rw [State.timeoutAct_of_draining s w c h]
    simp
  · rw [State.timeoutAct_of_other s w c (not_exists.1 h)]
    simp

@[simp] theorem State.engineAct_frame (line : TagLine) (s : State) :
    (s.engineAct line).su.write = s.su.write ∧ (s.engineAct line).vl = s.vl ∧ (s.engineAct line).eu = s.eu ∧
    (s.engineAct line).mc.mode = s.mc.mode ∧ (s.engineAct line).mc.poolCode = s.mc.poolCode ∧
    (s.engineAct line).mc.inReset = s.mc.inReset ∧ (s.engineAct line).cp.executing = s.cp.executing ∧
    (s.engineAct line).portA = s.portA ∧ (s.engineAct line).portB = s.portB ∧ (s.engineAct line).pending = s.pending := by
  unfold State.engineAct
  split
  · simp
  · dsimp only
    split <;> simp

@[simp] theorem State.engineTry_frame (s : State) :
    s.engineTry.su.write = s.su.write ∧ s.engineTry.vl = s.vl ∧ s.engineTry.eu = s.eu ∧
    s.engineTry.mc.mode = s.mc.mode ∧ s.engineTry.mc.poolCode = s.mc.poolCode ∧
    s.engineTry.mc.inReset = s.mc.inReset ∧ s.engineTry.cp.executing = s.cp.executing ∧
    s.engineTry.portA = s.portA ∧ s.engineTry.portB = s.portB ∧ s.engineTry.pending = s.pending := by
  unfold State.engineTry
  split
  · simp
  · split <;> simp

@[simp] theorem State.engineRetry_frame (s : State) :
    s.engineRetry.su.write = s.su.write ∧ s.engineRetry.vl = s.vl ∧ s.engineRetry.eu = s.eu ∧
    s.engineRetry.mc.mode = s.mc.mode ∧ s.engineRetry.mc.poolCode = s.mc.poolCode ∧
    s.engineRetry.mc.inReset = s.mc.inReset ∧ s.engineRetry.cp.executing = s.cp.executing ∧
    s.engineRetry.portA = s.portA ∧ s.engineRetry.portB = s.portB ∧ s.engineRetry.pending = s.pending := by
  and_intros <;> unfold State.engineRetry <;> simp

/-! ### Waiting parties, fills and held changes -/

/-- The end of a pass may end recovery; the mode is then CONFIG. -/
theorem endPass_serving (s : State) : serving s.endPass → serving s := by
  unfold State.endPass
  dsimp only
  split
  · simp [serving]
  · simp [serving, State.finishWalk, State.endRecovery]

theorem lineDone_serving (s : State) (line : TagLine) : serving (s.lineDone line) → serving s := by
  unfold State.lineDone
  dsimp only
  split
  · exact fun h => by simpa [serving] using endPass_serving _ h
  · simp [serving]

@[simp] theorem requeue_mode (s : State) (g : Nat) (r : TagRec) (o : Option DomainId) :
    (s.requeue g r o).1.mc.mode = s.mc.mode := by
  unfold State.requeue
  dsimp only
  (repeat' split) <;> simp

@[simp] theorem walkTag_mode (s : State) (g : Nat) (r : TagRec) : (s.walkTag g r).1.mc.mode = s.mc.mode := by
  unfold State.walkTag
  dsimp only
  (repeat' split) <;> simp

theorem walkGranules_serving (l : List Nat) (line : TagLine) (s : State) :
    serving (State.walkGranules line l s) → serving s := by
  induction l generalizing line s with
  | nil => exact lineDone_serving s line
  | cons g gs ih =>
    have hm := walkTag_mode s g (line.get (g % 4))
    unfold State.walkGranules
    split <;> (rename_i heq; rw [heq] at hm; dsimp only at hm)
    · exact fun h => by simpa [serving, hm] using ih _ _ h
    · simp [serving, hm]

theorem walkRetry_serving (s : State) : serving s.walkRetry → serving s := by
  unfold State.walkRetry State.walkTry State.lookup
  split
  · exact fun h => by simpa [serving] using walkGranules_serving _ _ _ h
  · simp [serving, State.walkWaits]

theorem retake_serves (s : State) (x : Party) : Serves s (s.retake x) := by
  unfold State.retake
  split
  · exact retakeRequest_serves s _ _
  · exact .of_frame (by simp) (by simp) (by simp [serving]) (by simp)
  · exact .of_frame (by simp) (by simp) (by simp [serving]) (by simp)
  · exact .of_frame (by simp) (by simp) (by simp [serving]) (by simp)
  · split
    · exact .of_frame (by simp) (by simp) (walkRetry_serving s) (by simp)
    · exact .refl s

theorem setDram_serves (s : State) (d : Dram) : Serves s (s.setDram d) := .of_frame rfl rfl id rfl

theorem setTc_serves (s : State) (tc : TagCache) : Serves s (s.setTc tc) := .of_frame rfl rfl id rfl

theorem stalledOne_serves (s : State) (x : Party × Nat) : Serves s (s.stalledOne x) := by
  unfold State.stalledOne
  split
  · exact (setTc_serves s _).trans (retake_serves _ _)
  · exact .refl s

theorem finishFill_serves (s : State) (f : Fill) (recs : TagLine) (write : Bool) (lost : List Nat) :
    Serves s (s.finishFill f recs write lost) := by
  unfold State.finishFill
  dsimp only
  refine Serves.trans ?_ (Serves.foldl stalledOne_serves _ _)
  refine Serves.trans ?_ (Serves.foldl retake_serves _ _)
  split <;> exact .of_frame (by simp) (by simp) (by simp [serving]) (by simp)

theorem completeFill_serves (s : State) (f : Fill) (read : TagLine) (lost : List Nat) :
    Serves s (s.completeFill f read lost) := by
  unfold State.completeFill
  dsimp only
  split
  · exact finishFill_serves _ _ _ _ _
  · exact .of_frame rfl rfl id rfl

theorem takeHeld_serves (s : State) (h : Held) : Serves s (s.takeHeld h) := by
  unfold State.takeHeld
  split
  · exact retake_serves s _
  · exact .of_frame (by simp) (by simp) (by simp [serving]) (by simp)
  · split
    · exact completeFill_serves _ _ _ _
    · exact .refl s

theorem takeOldestHeld_serves (s : State) : Serves s s.takeOldestHeld := by
  unfold State.takeOldestHeld
  split
  · exact .refl s
  · exact (setTc_serves s _).trans (takeHeld_serves _ _)

/-- The end of a row may let SUSPENDED take effect, and no other mode. -/
theorem settleMode_serving (s : State) : serving s.settleMode → serving s := by
  unfold State.settleMode State.settleChannels State.trySuspend
  (repeat' split) <;> simp [serving]

theorem settle_serves (s : State) : Serves s s.settle := by
  refine .of_frame (by simp) (by simp) (fun h => ?_) (by simp)
  have := settleMode_serving _ h
  simpa [serving] using this

/-- A row that serves tenant granules alone. -/
def RowServesTenants (s : State) (o : Host.Outcome State Fault Refusal) : Prop :=
  tagsDistinct s → ∀ t, o = .next t → TenantsServed s t

theorem RowServesNone.tenants {s : State} {o : Host.Outcome State Fault Refusal} (h : RowServesNone s o) :
    RowServesTenants s o := fun _ t ht => (h t ht).tenants

theorem onEvent_serves (s : State) (f : State → State) (h : Serves s (f s)) : RowServesTenants s (s.onEvent f) := by
  rintro hd t ht
  cases ht
  split
  · exact (Serves.refl s).served hd
  · exact h.served hd

theorem requestArrives_serves (s : State) (p : Port) (t : ReqTag) (d : DomainId) (op : Opcode) (n : LineNo)
    (data : List Byte) : Serves s (s.requestArrives p t d op n data) := by
  have unchanged (s : State) (f : PortRec → PortRec) (hf : (f (s.port p)).table = (s.port p).table) :
      Serves s (s.updatePort p f) :=
    updatePort_serves s p f (fun h => hf.symm ▸ h) fun _ e he hs => .inl ⟨e, hf ▸ he, rfl, rfl, hs⟩
  have counted (s : State) : Serves s (s.countIntegrity p) :=
    (unchanged s (fun r => { r with integrity := satInc Config.maxIntegrity r.integrity }) rfl).same (by simp [State.countIntegrity])
      (by simp [State.countIntegrity]) (by simp) (by simp)
  unfold State.requestArrives
  split
  · refine (unchanged s PortRec.restartTimer rfl).trans ?_
    generalize s.updatePort p PortRec.restartTimer = s
    unfold State.takeIn
    split
    · next reason counts _ =>
      refine Serves.trans (t := if counts then s.countIntegrity p else s) ?_ ?_
      · split
        · exact counted s
        · exact .refl s
      · generalize (if counts then s.countIntegrity p else s) = s
        unfold State.refuseUnentered
        split
        · exact unchanged _ _ (by rfl)
        · exact counted _
    · next h =>
      obtain ⟨-, ht⟩ := admission_eq_none h
      refine (updatePort_serves s p _ (fun hd => ?_) fun _ e he hf => ?_).trans (takeRequest_serves _ p t)
      · simp only [List.map_append, List.map_cons, List.map_nil]
        refine List.nodup_append.2 ⟨hd, by simp, fun a ha b hb e => ?_⟩
        have hat : a = t := e.trans (List.mem_singleton.1 hb)
        exact entry_eq_none.1 ht (hat ▸ ha)
      · rcases List.mem_append.1 he with he | he
        · exact .inl ⟨e, he, rfl, rfl, hf⟩
        · rw [List.mem_singleton.1 he] at hf
          cases hf
  · exact .refl s

theorem fillComplete_serves (j : Nat) (r : ReadOutcome) (s : State) : RowServesTenants s (execFillComplete j r s) := by
  refine onEvent_serves s _ ?_
  split
  · split
    · exact ((setDram_serves s _).trans (completeFill_serves _ _ _ _)).trans
        (settle_serves _)
    · exact .refl s
  · exact .refl s

theorem writeThroughComplete_serves (j : Nat) (o : MemOutcome) (s : State) :
    RowServesTenants s (execWriteThroughComplete j o s) := by
  refine onEvent_serves s _ ?_
  split
  · next w rest c _ _ =>
    exact (((setDram_serves s (s.dram.writeTags c w o)).trans (setTc_serves _ _)).trans
      (takeOldestHeld_serves _)).trans (settle_serves _)
  · exact .refl s

/-! ## Every command -/

theorem onEvent_servesNone_of_frame (s : State) (f : State → State) (ha : (f s).portA = s.portA)
    (hb : (f s).portB = s.portB) : RowServesNone s (s.onEvent f) := onEvent_servesNone s f (.of_frame ha hb)

theorem onMessage_servesNone_of_frame (s : State) (k : Byte) (act : List Byte → State)
    (ha : ∀ f, (act f).portA = s.portA) (hb : ∀ f, (act f).portB = s.portB) : RowServesNone s (s.onMessage k act) :=
  onMessage_servesNone s k act fun f => .of_frame (ha f) (hb f)

theorem verifyUnit_servesNone (s : State) (ph : Phase) (kind : Command → Bool) :
    RowServesNone s (s.onPhase ph kind verifyUnit) :=
  onPhase_servesNone s _ _ _ (fun w c => by unfold verifyUnit; (repeat' split) <;> simp)
    (fun w c => by unfold verifyUnit; (repeat' split) <;> simp)

theorem tagUnit_servesNone (s : State) (ph : Phase) (kind : Command → Bool) :
    RowServesNone s (s.onPhase ph kind tagUnit) :=
  onPhase_servesNone s _ _ _ (fun _ _ => by simp [tagUnit]) (fun _ _ => by simp [tagUnit])

theorem handoffUnit_servesNone (s : State) (ph : Phase) (kind : Command → Bool) :
    RowServesNone s (s.onPhase ph kind handoffUnit) :=
  onPhase_servesNone s _ _ _ (fun w c => by unfold handoffUnit; (repeat' split) <;> simp)
    (fun w c => by unfold handoffUnit; (repeat' split) <;> simp)

theorem controlFrame_servesNone (bytes : List Byte) (s : State) : RowServesNone s (execControlFrame bytes s) := by
  unfold execControlFrame
  refine onEvent_servesNone_of_frame s _ ?_ ?_ <;> simp

theorem gapTimeout_servesNone (s : State) : RowServesNone s (execGapTimeout s) := by
  unfold execGapTimeout
  refine onEvent_servesNone_of_frame s _ ?_ ?_ <;> (repeat' split) <;> simp

theorem badKind_servesNone (s : State) : RowServesNone s (execBadKind s) := by
  intro t ht
  cases ht
  split
  · exact answer_noneServed _ _ _
  · exact .refl s

theorem format_servesNone (s : State) : RowServesNone s (execFormat s) := by
  unfold execFormat
  refine onMessage_servesNone_of_frame s _ _ (fun _ => ?_) fun _ => ?_ <;> (repeat' split) <;> simp

theorem cancel_servesNone (s : State) : RowServesNone s (execCancel s) := by
  unfold execCancel
  refine onMessage_servesNone_of_frame s _ _ (fun _ => ?_) fun _ => ?_ <;> dsimp only <;> (repeat' split) <;> simp

theorem ticketStatus_servesNone (s : State) : RowServesNone s (execTicketStatus s) := by
  unfold execTicketStatus
  refine onMessage_servesNone_of_frame s _ _ (fun _ => ?_) fun _ => ?_ <;> (repeat' split) <;> simp

theorem domainOpen_servesNone (s : State) : RowServesNone s (execDomainOpen s) := by
  unfold execDomainOpen
  dsimp only
  exact onDomain_servesNone s _ _ fun _ _ => by (repeat' split) <;> exact .of_frame (by simp) (by simp)

theorem domainQuota_servesNone (s : State) : RowServesNone s (execDomainQuota s) := by
  unfold execDomainQuota
  dsimp only
  exact onDomain_servesNone s _ _ fun _ _ => by (repeat' split) <;> exact .of_frame (by simp) (by simp)

theorem domainClose_servesNone (s : State) : RowServesNone s (execDomainClose s) := by
  unfold execDomainClose
  exact onDomain_servesNone s _ _ fun _ _ => by (repeat' split) <;> exact .of_frame (by simp) (by simp)

theorem domainClearScore_servesNone (s : State) : RowServesNone s (execDomainClearScore s) := by
  unfold execDomainClearScore
  exact onDomain_servesNone s _ _ fun _ _ => by (repeat' split) <;> exact .of_frame (by simp) (by simp)

theorem domainStatus_servesNone (s : State) : RowServesNone s (execDomainStatus s) := by
  unfold execDomainStatus
  refine onMessage_servesNone_of_frame s _ _ (fun _ => ?_) fun _ => ?_ <;> (repeat' split) <;> simp

theorem shareCreate_servesNone (s : State) : RowServesNone s (execShareCreate s) := by
  unfold execShareCreate
  refine onMessage_servesNone_of_frame s _ _ (fun _ => ?_) fun _ => ?_ <;> (repeat' split) <;> simp

theorem shareDelete_servesNone (s : State) : RowServesNone s (execShareDelete s) := by
  unfold execShareDelete
  refine onMessage_servesNone_of_frame s _ _ (fun _ => ?_) fun _ => ?_ <;> (repeat' split) <;> simp

theorem shareStatus_servesNone (s : State) : RowServesNone s (execShareStatus s) := by
  unfold execShareStatus
  refine onMessage_servesNone_of_frame s _ _ (fun _ => ?_) fun _ => ?_ <;> (repeat' split) <;> simp

theorem tagRead_servesNone (s : State) : RowServesNone s (execTagRead s) := by
  unfold execTagRead
  refine onMessage_servesNone_of_frame s _ _ (fun _ => ?_) fun _ => ?_ <;> dsimp only <;> (repeat' split) <;> simp

theorem survey_servesNone (s : State) : RowServesNone s (execSurvey s) := by
  unfold execSurvey
  refine onMessage_servesNone_of_frame s _ _ (fun _ => ?_) fun _ => ?_ <;> (repeat' split) <;> simp

theorem logRead_servesNone (s : State) : RowServesNone s (execLogRead s) := by
  unfold execLogRead
  refine onMessage_servesNone_of_frame s _ _ (fun _ => ?_) fun _ => ?_ <;> dsimp only <;> (repeat' split) <;> simp

theorem logControl_servesNone (s : State) : RowServesNone s (execLogControl s) := by
  unfold execLogControl
  refine onMessage_servesNone_of_frame s _ _ (fun _ => ?_) fun _ => ?_ <;> (repeat' split) <;> simp

theorem eventEnable_servesNone (s : State) : RowServesNone s (execEventEnable s) := by
  unfold execEventEnable
  refine onMessage_servesNone_of_frame s _ _ (fun _ => ?_) fun _ => ?_ <;> (repeat' split) <;> simp

theorem eventClear_servesNone (s : State) : RowServesNone s (execEventClear s) := by
  unfold execEventClear
  refine onMessage_servesNone_of_frame s _ _ (fun _ => ?_) fun _ => ?_ <;> (repeat' split) <;> simp

theorem portStatus_servesNone (s : State) : RowServesNone s (execPortStatus s) := by
  unfold execPortStatus
  refine onMessage_servesNone_of_frame s _ _ (fun _ => ?_) fun _ => ?_ <;> (repeat' split) <;> simp

theorem modeRequest_servesNone (s : State) : RowServesNone s (execModeRequest s) := by
  unfold execModeRequest
  refine onMessage_servesNone_of_frame s _ _ (fun _ => ?_) fun _ => ?_ <;> (repeat' split) <;> simp

theorem partStatus_servesNone (s : State) : RowServesNone s (execPartStatus s) := by
  unfold execPartStatus
  refine onMessage_servesNone_of_frame s _ _ (fun _ => ?_) fun _ => ?_ <;> simp

theorem reset_servesNone (s : State) : RowServesNone s (execReset s) := by
  unfold execReset
  refine onMessage_servesNone_of_frame s _ _ (fun _ => ?_) fun _ => ?_ <;> simp

theorem replySent_servesNone (s : State) : RowServesNone s (execReplySent s) := by
  refine onEvent_servesNone s _ ?_
  split
  · split
    · exact (resetBlocks_noneServed s _).same rfl rfl
    · exact .of_frame (by simp) (by simp)
  · exact .refl s

theorem noticeSent_servesNone (s : State) : RowServesNone s (execNoticeSent s) := by
  unfold execNoticeSent
  refine onEvent_servesNone_of_frame s _ ?_ ?_ <;> (repeat' split) <;> simp

theorem idle_servesNone (p : Port) (s : State) : RowServesNone s (execIdle p s) := by
  refine onEvent_servesNone s _ ?_
  split
  · exact updatePort_noneServed_of_table s p _ (by rfl)
  · exact .refl s

theorem linkTimeout_servesNone (p : Port) (s : State) : RowServesNone s (execLinkTimeout p s) := by
  refine onEvent_servesNone s _ ?_
  split
  · exact (goDown_noneServed s p .down).same (by simp) (by simp)
  · exact .refl s

theorem commandStart_servesNone (s : State) : RowServesNone s (execCommandStart s) := by
  unfold execCommandStart
  refine onEvent_servesNone_of_frame s _ ?_ ?_ <;> (repeat' split) <;> simp

theorem drainTimeout_servesNone (s : State) : RowServesNone s (execDrainTimeout s) := by
  unfold execDrainTimeout
  refine onPhase_servesNone s _ _ _ (fun _ _ => ?_) fun _ _ => ?_ <;> unfold drainUnit <;> (repeat' split) <;> simp

theorem retireMark_servesNone (s : State) : RowServesNone s (execRetireMark s) := by
  unfold execRetireMark
  refine onEvent_servesNone_of_frame s _ ?_ ?_ <;> (repeat' split) <;> simp

theorem formatVerify_servesNone (s : State) : RowServesNone s (execFormatVerify s) := by
  unfold execFormatVerify
  refine onPhase_servesNone s _ _ _ (fun _ _ => ?_) fun _ _ => ?_ <;> (repeat' split) <;> simp

theorem formatMark_servesNone (s : State) : RowServesNone s (execFormatMark s) := by
  have header (s : State) (c k : PoolCode) : (if k = c then s else s.persistHeader k false).portA = s.portA ∧
      (if k = c then s else s.persistHeader k false).portB = s.portB := by split <;> simp
  exact onPhase_servesNone s _ _ _ (fun _ _ => by split <;> simp [State.writeFixedParts, header])
    (fun _ _ => by split <;> simp [State.writeFixedParts, header])

theorem formatHandoff_servesNone (s : State) : RowServesNone s (execFormatHandoff s) := by
  unfold execFormatHandoff
  refine onPhase_servesNone s _ _ _ (fun _ _ => ?_) fun _ _ => ?_ <;> unfold formatUnit <;> (repeat' split) <;> simp

theorem persistWriteComplete_servesNone (a : Nat) (o : MemOutcome) (s : State) : RowServesNone s (execPersistWriteComplete a o s) := by
  unfold execPersistWriteComplete
  refine onEvent_servesNone_of_frame s _ ?_ ?_ <;> (repeat' split) <;> simp

theorem pacingTimerExpiry_servesNone (s : State) : RowServesNone s (execPacingTimerExpiry s) := by
  unfold execPacingTimerExpiry
  refine onEvent_servesNone_of_frame s _ ?_ ?_ <;> (repeat' split) <;> simp

theorem scrubWriteComplete_servesNone (line : Nat) (o : MemOutcome) (s : State) : RowServesNone s (execScrubWriteComplete line o s) := by
  unfold execScrubWriteComplete
  refine onEvent_servesNone_of_frame s _ ?_ ?_ <;> (repeat' split) <;> simp

theorem decayTick_servesNone (s : State) : RowServesNone s (execDecayTick s) := by
  unfold execDecayTick
  refine onEvent_servesNone_of_frame s _ ?_ ?_ <;> (repeat' split) <;> simp

theorem timestampTick_servesNone (s : State) : RowServesNone s (execTimestampTick s) :=
  onEvent_servesNone_of_frame s _ rfl rfl

theorem selfRefreshExit_servesNone (s : State) : RowServesNone s (execSelfRefreshExit s) := by
  unfold execSelfRefreshExit
  refine onEvent_servesNone_of_frame s _ ?_ ?_ <;> (repeat' split) <;> simp

theorem powerOn_servesNone (s : State) : RowServesNone s (execPowerOn s) := by
  intro t ht
  cases ht
  exact (resetBlocks_noneServed s (resetMode .config .powerOn s.mc.resetLow)).same rfl rfl

theorem powerOnEnd_servesNone (s : State) : RowServesNone s (execPowerOnEnd s) := by
  intro t ht
  cases ht
  split
  · exact .of_frame (by simp) (by simp)
  · exact .refl s

theorem resetLine_servesNone (s : State) : RowServesNone s (execResetLine s) := by
  intro t ht
  cases ht
  split
  · exact .refl s
  · split
    · exact .of_frame rfl rfl
    · exact resetBlocks_noneServed s _

theorem resetLineEnd_servesNone (s : State) : RowServesNone s (execResetLineEnd s) := by
  intro t ht
  cases ht
  split
  · dsimp only
    split <;> exact .of_frame rfl rfl
  · exact .refl s

theorem headerReadComplete_servesNone (r : ReadOutcome) (s : State) : RowServesNone s (execHeaderReadComplete r s) := by
  unfold execHeaderReadComplete
  refine onEvent_servesNone_of_frame s _ ?_ ?_ <;> (repeat' split) <;> simp

theorem domainRecordRead_servesNone (r : ReadOutcome) (s : State) : RowServesNone s (execDomainRecordRead r s) := by
  unfold execDomainRecordRead
  refine onEvent_servesNone_of_frame s _ ?_ ?_ <;> (repeat' split) <;> simp

theorem shareRecordRead_servesNone (r : ReadOutcome) (s : State) : RowServesNone s (execShareRecordRead r s) := by
  unfold execShareRecordRead
  refine onEvent_servesNone_of_frame s _ ?_ ?_ <;> (repeat' split) <;> simp

theorem walkStep_servesNone (s : State) : RowServesNone s (execWalkStep s) := by
  unfold execWalkStep
  refine onEvent_servesNone_of_frame s _ ?_ ?_ <;> (repeat' split) <;> simp

theorem exec_servesTenants (c : Instr) (s : State) : RowServesTenants s (exec c s) := by
  cases c with
  | controlFrame bytes => exact (controlFrame_servesNone bytes s).tenants
  | gapTimeout => exact (gapTimeout_servesNone s).tenants
  | badKind => exact (badKind_servesNone s).tenants
  | assign => exact (acceptance_servesNone s _ fun f => s.checkAssign f).tenants
  | reclaim => exact (acceptance_servesNone s _ fun f => s.checkReclaim f).tenants
  | shareRange => exact (acceptance_servesNone s 0x12 fun f => s.checkShare f .shareRange).tenants
  | unshareRange => exact (acceptance_servesNone s 0x13 fun f => s.checkShare f .unshareRange).tenants
  | retire => exact (acceptance_servesNone s _ fun f => s.checkRetire f).tenants
  | recount => exact (acceptance_servesNone s 0x15 fun _ => .ok .recount).tenants
  | revive =>
    exact (acceptance_servesNone s 0x16 fun f =>
      s.checkRange (param32 f 0) (param32 f 4) (.ok (.revive (param32 f 0) (param32 f 4)))).tenants
  | format => exact (format_servesNone s).tenants
  | cancel => exact (cancel_servesNone s).tenants
  | ticketStatus => exact (ticketStatus_servesNone s).tenants
  | domainOpen => exact (domainOpen_servesNone s).tenants
  | domainQuota => exact (domainQuota_servesNone s).tenants
  | domainClose => exact (domainClose_servesNone s).tenants
  | domainClearScore => exact (domainClearScore_servesNone s).tenants
  | domainStatus => exact (domainStatus_servesNone s).tenants
  | shareCreate => exact (shareCreate_servesNone s).tenants
  | shareDelete => exact (shareDelete_servesNone s).tenants
  | shareStatus => exact (shareStatus_servesNone s).tenants
  | tagRead => exact (tagRead_servesNone s).tenants
  | survey => exact (survey_servesNone s).tenants
  | logRead => exact (logRead_servesNone s).tenants
  | logControl => exact (logControl_servesNone s).tenants
  | eventEnable => exact (eventEnable_servesNone s).tenants
  | eventClear => exact (eventClear_servesNone s).tenants
  | portSet => exact (portSet_servesNone s).tenants
  | portStatus => exact (portStatus_servesNone s).tenants
  | portClear => exact (portClear_servesNone s).tenants
  | modeRequest => exact (modeRequest_servesNone s).tenants
  | settings => exact (settings_servesNone s).tenants
  | partStatus => exact (partStatus_servesNone s).tenants
  | reset => exact (reset_servesNone s).tenants
  | replySent => exact (replySent_servesNone s).tenants
  | noticeSent => exact (noticeSent_servesNone s).tenants
  | requestRead p t d n => exact onEvent_serves s _ (requestArrives_serves s _ _ _ _ _ _)
  | requestWrite p t d n data =>
    refine onEvent_serves s _ ?_
    split
    · exact requestArrives_serves s _ _ _ _ _ _
    · exact .refl s
  | announce p n b => exact (announce_servesNone p n b s).tenants
  | idle p => exact (idle_servesNone p s).tenants
  | badLinkFrame p bytes => exact (badLinkFrame_servesNone p bytes s).tenants
  | linkTimeout p => exact (linkTimeout_servesNone p s).tenants
  | linkFrameSent p => exact (linkFrameSent_servesNone p s).tenants
  | memoryOpComplete p t o => exact (memoryOpComplete_servesNone p t o s).tenants
  | fillComplete j r => exact fillComplete_serves j r s
  | writeThroughComplete j o => exact writeThroughComplete_serves j o s
  | commandStart => exact (commandStart_servesNone s).tenants
  | assignVerify => exact (verifyUnit_servesNone s _ _).tenants
  | assignApply => exact (tagUnit_servesNone s _ _).tenants
  | reclaimVerify => exact (tagUnit_servesNone s _ _).tenants
  | reclaimMark => exact (tagUnit_servesNone s _ _).tenants
  | drainTimeout => exact (drainTimeout_servesNone s).tenants
  | handoff => exact (handoffUnit_servesNone s .handoff fun c => c.isReclaim || c.isRevive).tenants
  | retireMark => exact (retireMark_servesNone s).tenants
  | retireHandoff => exact (handoffUnit_servesNone s _ _).tenants
  | shareRangeVerify => exact (verifyUnit_servesNone s _ _).tenants
  | shareRangeApply => exact (tagUnit_servesNone s _ _).tenants
  | unshareRangeVerify => exact (verifyUnit_servesNone s _ _).tenants
  | unshareRangeApply => exact (tagUnit_servesNone s _ _).tenants
  | reviveVerify => exact (tagUnit_servesNone s _ _).tenants
  | recountSweep => exact (tagUnit_servesNone s _ _).tenants
  | formatVerify => exact (formatVerify_servesNone s).tenants
  | formatMark => exact (formatMark_servesNone s).tenants
  | formatHandoff => exact (formatHandoff_servesNone s).tenants
  | persistWriteComplete a o => exact (persistWriteComplete_servesNone a o s).tenants
  | pacingTimerExpiry => exact (pacingTimerExpiry_servesNone s).tenants
  | scrubWriteComplete line o => exact (scrubWriteComplete_servesNone line o s).tenants
  | decayTick => exact (decayTick_servesNone s).tenants
  | timestampTick => exact (timestampTick_servesNone s).tenants
  | selfRefreshExit => exact (selfRefreshExit_servesNone s).tenants
  | powerOn => exact (powerOn_servesNone s).tenants
  | powerOnEnd => exact (powerOnEnd_servesNone s).tenants
  | resetLine => exact (resetLine_servesNone s).tenants
  | resetLineEnd => exact (resetLineEnd_servesNone s).tenants
  | headerReadComplete r => exact (headerReadComplete_servesNone r s).tenants
  | domainRecordRead r => exact (domainRecordRead_servesNone r s).tenants
  | shareRecordRead r => exact (shareRecordRead_servesNone r s).tenants
  | walkStep => exact (walkStep_servesNone s).tenants

/-- Settles O22. -/
theorem onlyTenantGranulesServed : Obligations.OnlyTenantGranulesServed := by
  intro c s t p e hd ht he hf
  have := exec_servesTenants c s hd t ht p e he hf
  have hg : granuleOf e.lineNo = 64 * e.lineNo.toNat / 4096 := by rw [granuleOf, lineAddress]
  rwa [hg] at this

end Sys2Proof.Machine

namespace Sys2Proof.Machine

open Sys2Proof.Safety

/-! # The resets -/

/-- The blocks that any reset brings to their values, around the values of MC. -/
theorem resetValues_resetBlocks (s : State) (mode : Mode) (c : ResetCause) (low : Bool) :
    ResetValues (s.resetBlocks (resetMode mode c low)) := by
  have hd (d : DomainId) : (s.resetBlocks (resetMode mode c low)).domain d =
      { state := if d = 0 then .opened else .closed, quota := 0, held := 0, score := 0, latch := false } := by
    refine (domain_initial 0 d).trans ?_
    split <;> rfl
  refine ⟨rfl, rfl, rfl, rfl, rfl, rfl, rfl, by simp [Events.alertLow, State.resetBlocks, resetEvents],
    ⟨rfl, rfl, rfl, rfl, rfl, rfl, rfl, rfl, rfl⟩,
    ⟨rfl, rfl, rfl, rfl, fun _ => rfl⟩, ⟨rfl, rfl, rfl⟩, ⟨rfl, rfl, rfl, rfl⟩, ⟨rfl, rfl⟩,
    ⟨rfl, rfl, rfl, rfl, rfl, rfl, rfl, rfl, rfl, rfl⟩, hd, fun _ => rfl, fun p => ?_⟩
  cases p <;> exact ⟨rfl, rfl, rfl, rfl, rfl, rfl, rfl, rfl, rfl, rfl, rfl, rfl, rfl, rfl, rfl, rfl, rfl⟩

/-- Settles O3: the three kinds of reset bring the same values, and MC's around them. -/
theorem resetsBringResetValues : Obligations.ResetsBringResetValues := by
  refine ⟨fun s => ⟨_, rfl, resetValues_resetBlocks s _ _ _, rfl⟩, fun s hl hi => ?_, fun s hl hi => ?_,
    fun s r rest hi ht hr hw hk hs => ?_⟩
  · exact ⟨s.warmReset .resetLine true, by simp [exec, execResetLine, hl, hi], resetValues_resetBlocks s _ _ _,
      fun _ => rfl, rfl, rfl, rfl⟩
  · simp [exec, execResetLine, hl, hi]
  · refine ⟨(s.warmReset .soft s.mc.resetLow).warmResetEnds, ?_,
      resetValues_resetBlocks s .recovering .soft s.mc.resetLow, fun _ => rfl, rfl, rfl,
      rfl, rfl⟩
    simp [exec, execReplySent, State.onEvent, State.held, hi, ht, hr, hw, Reply.isReset, hk, hs]

/-- Settles O4: whatever the part was, its blocks have their reset values, and the START notice is begun. -/
theorem powerOnLeadsToReset : Obligations.PowerOnLeadsToReset := by
  intro s hl
  refine ⟨s.powerOn, rfl, ?_⟩
  have h : s.powerOn.mc.inReset = some .powerOn ∧ s.powerOn.mc.resetLow = false := ⟨rfl, hl⟩
  simp only [exec, execPowerOnEnd, h, and_self, if_true]
  simp [State.powerOnEnds, placeNotice_eq, noticed, begins, State.powerOn, State.resetBlocks, State.setDram, State.setMc,
    State.setCp, State.reset, resetMode, resetControl, hl]

end Sys2Proof.Machine

namespace Sys2Proof.Machine

open Sys2Proof.Safety

/-! # Stored records read back -/

@[simp] theorem crcBytes_length (bs : List Byte) : (crcBytes bs).length = 2 := beBytes_length 2 _

/-- Bytes closed with their check carry it. -/
theorem checkMatches_withCheck {n : Nat} {bs : List Byte} (h : bs.length + 2 = n) : checkMatches n (withCheck bs) = true := by
  subst h
  simp [checkMatches, withCheck]

theorem checkMatches_of_ne {n : Nat} {bs : List Byte} (h : bs.drop (n - 2) ≠ crcBytes (bs.take (n - 2))) :
    checkMatches n bs = false := by
  simp [checkMatches, h]

/-! ## Tags -/

/-- A stored tag record with its two wide fields apart. -/
theorem TagRec.stored_eq (r : TagRec) : ∃ crc, r.stored =
    [0, 0, 0, 0, r.tag.kind.code, r.tag.presence] ++ (beBytes 2 (r.tag.owner.getD 0).toNat ++
      ([(r.tag.rights.getD .ro).code, r.tag.share.getD 0] ++ (beBytes 2 (r.tag.ticket.getD 0).toNat ++
        ([(r.tag.cause.getD .scrubFail).code, r.generation] ++ crc)))) :=
  ⟨_, by simp only [TagRec.stored, withCheck, TagRec.fieldBytes, List.append_assoc]; rfl⟩

theorem presence_owner (t : Tag) : t.presence.getLsbD 0 = t.owner.isSome := by
  simp only [Tag.presence]
  cases t.owner.isSome <;> cases t.rights.isSome <;> cases t.share.isSome <;> cases t.ticket.isSome <;>
    cases t.cause.isSome <;> rfl

theorem presence_ticket (t : Tag) : t.presence.getLsbD 3 = t.ticket.isSome := by
  simp only [Tag.presence]
  cases t.owner.isSome <;> cases t.rights.isSome <;> cases t.share.isSome <;> cases t.ticket.isSome <;>
    cases t.cause.isSome <;> rfl

theorem rightsOf_code (r : Rights) : rightsOf r.code = some r := by cases r <;> rfl

theorem causeOf_code (c : Cause) : causeOf c.code = some c := by cases c <;> rfl

/-- The fields of a stored tag record give its tag. -/
theorem tagOfFields_stored (r : TagRec) : tagOfFields r.stored = some r.tag := by
  obtain ⟨crc, hs⟩ := r.stored_eq
  have ho : field r.stored 6 2 = (r.tag.owner.getD 0).toNat :=
    (field_at _ _ hs rfl).trans (Nat.mod_eq_of_lt (lt_trans (r.tag.owner.getD 0).isLt (by decide)))
  have ht : field r.stored 10 2 = (r.tag.ticket.getD 0).toNat := by
    refine (field_at ([0, 0, 0, 0, r.tag.kind.code, r.tag.presence] ++ (beBytes 2 (r.tag.owner.getD 0).toNat ++
      [(r.tag.rights.getD .ro).code, r.tag.share.getD 0])) ([(r.tag.cause.getD .scrubFail).code, r.generation] ++ crc)
      (hs.trans ?_) rfl).trans (Nat.mod_eq_of_lt (r.tag.ticket.getD 0).isLt)
    simp only [List.append_assoc]
  have h4 : byteAt r.stored 4 = r.tag.kind.code := by rw [hs]; rfl
  have h5 : byteAt r.stored 5 = r.tag.presence := by rw [hs]; rfl
  have h8 : byteAt r.stored 8 = (r.tag.rights.getD .ro).code := by rw [hs]; rfl
  have h9 : byteAt r.stored 9 = r.tag.share.getD 0 := by rw [hs]; rfl
  have h12 : byteAt r.stored 12 = (r.tag.cause.getD .scrubFail).code := by rw [hs]; rfl
  have owner (o : Option DomainId) : (if o.isSome = true then some (o.getD 0) else none) = o := by cases o <;> rfl
  have ticket (o : Option Ticket) : (if o.isSome = true then some (o.getD 0) else none) = o := by cases o <;> rfl
  simp only [tagOfFields, ho, ht, h4, h5, h8, h9, h12, presence_owner, presence_ticket, BitVec.ofNat_toNat,
    BitVec.setWidth_eq, owner, ticket, rightsOf_code, causeOf_code]
  cases r.tag <;> rfl

theorem TagRec.ofStored_stored (r : TagRec) : TagRec.ofStored r.stored = some r := by
  obtain ⟨crc, hs⟩ := r.stored_eq
  have h13 : byteAt r.stored 13 = r.generation := by rw [hs]; rfl
  have hc : checkMatches 16 r.stored = true := checkMatches_withCheck (by simp [TagRec.fieldBytes])
  simp [TagRec.ofStored, hc, tagOfFields_stored, h13]

@[simp] theorem TagRec.stored_length (r : TagRec) : r.stored.length = 16 := by
  simp [TagRec.stored, withCheck, TagRec.fieldBytes]

/-! ## Domains, shares and headers -/

theorem storedDomain_length (d : Nat) (r : DomainRec) : (storedDomain d r).length = 32 := by
  simp [storedDomain, withCheck]

theorem ofStored_storedDomain (d : DomainId) (r : DomainRec) (hq : r.quota < 2 ^ 32) :
    PersistedDomain.ofStored d.toNat (storedDomain d.toNat r) =
      some { state := r.state, quota := r.quota, latch := r.latch } := by
  have hs : ∃ post, storedDomain d.toNat r = [] ++ (beBytes 2 d.toNat ++ ([r.state.code] ++ (beBytes 4 r.quota ++
      ([boolByte r.latch] ++ post)))) := ⟨_, by simp only [storedDomain, withCheck, List.append_assoc]; rfl⟩
  obtain ⟨post, hs⟩ := hs
  have hd : field (storedDomain d.toNat r) 0 2 = d.toNat :=
    (field_at _ _ hs rfl).trans (Nat.mod_eq_of_lt (lt_trans d.isLt (by decide)))
  have hquota : field (storedDomain d.toNat r) 3 4 = r.quota := by
    refine (field_at (beBytes 2 d.toNat ++ [r.state.code]) ([boolByte r.latch] ++ post) (hs.trans ?_) rfl).trans
      (Nat.mod_eq_of_lt hq)
    simp only [List.nil_append, List.append_assoc]
  have h2 : byteAt (storedDomain d.toNat r) 2 = r.state.code := by rw [hs]; rfl
  have h7 : byteAt (storedDomain d.toNat r) 7 = boolByte r.latch := by rw [hs]; rfl
  have hl : (boolByte r.latch).getLsbD 0 = r.latch := by cases r.latch <;> rfl
  have hc : checkMatches 32 (storedDomain d.toNat r) = true := checkMatches_withCheck (by simp)
  simp only [PersistedDomain.ofStored, hc, hd, hquota, h2, h7, hl, and_self, if_true]
  cases r.state <;> rfl

theorem storedShare_length (i : Nat) (e : ShareEntry) : (storedShare i e).length = 16 := by
  simp [storedShare, withCheck]

theorem checkMatches_storedShare (i : Nat) (e : ShareEntry) : checkMatches 16 (storedShare i e) = true :=
  checkMatches_withCheck (by simp)

theorem byteAt_storedShare (i : ShareIx) (e : ShareEntry) :
    byteAt (storedShare i.toNat e) 0 = i ∧ byteAt (storedShare i.toNat e) 1 = boolByte e.inUse := by
  simp [storedShare, withCheck, byteAt]

theorem ofStored_storedShare (i : ShareIx) (e : ShareEntry) (hu : e.inUse = true) :
    ShareEntry.ofStored i.toNat (storedShare i.toNat e) = some { e with refcount := 0 } := by
  have hs : ∃ post, storedShare i.toNat e = [BitVec.ofNat 8 i.toNat, boolByte e.inUse] ++ (beBytes 2 e.owner.toNat ++
      (beBytes 2 e.pattern.toNat ++ (beBytes 2 e.mask.toNat ++ ([e.rights.code] ++ post)))) :=
    ⟨_, by simp only [storedShare, withCheck, List.append_assoc]; rfl⟩
  obtain ⟨post, hs⟩ := hs
  have small (x : DomainId) : x.toNat % 256 ^ 2 = x.toNat := Nat.mod_eq_of_lt (lt_trans x.isLt (by decide))
  have h2 : field (storedShare i.toNat e) 2 2 = e.owner.toNat := (field_at _ _ hs rfl).trans (small _)
  have h4 : field (storedShare i.toNat e) 4 2 = e.pattern.toNat :=
    (field_at ([BitVec.ofNat 8 i.toNat, boolByte e.inUse] ++ beBytes 2 e.owner.toNat)
      (beBytes 2 e.mask.toNat ++ ([e.rights.code] ++ post)) (hs.trans (by simp only [List.append_assoc])) rfl).trans (small _)
  have h6 : field (storedShare i.toNat e) 6 2 = e.mask.toNat :=
    (field_at ([BitVec.ofNat 8 i.toNat, boolByte e.inUse] ++ (beBytes 2 e.owner.toNat ++ beBytes 2 e.pattern.toNat))
      ([e.rights.code] ++ post) (hs.trans (by simp only [List.append_assoc])) rfl).trans (small _)
  have h8 : byteAt (storedShare i.toNat e) 8 = e.rights.code := by rw [hs]; rfl
  obtain ⟨h0, h1⟩ := byteAt_storedShare i e
  have one : (boolByte true).toNat = 1 := rfl
  simp only [ShareEntry.ofStored, checkMatches_storedShare, h0, h1, hu, one, h2, h4, h6, h8, rightsOf_code, and_self, if_true,
    Option.map_some, BitVec.ofNat_toNat, BitVec.setWidth_eq]
  rw [if_pos ⟨e.owner.isLt, e.pattern.isLt, e.mask.isLt⟩, ← hu]

theorem ofStored_storedShare_free (i : ShareIx) :
    ShareEntry.ofStored i.toNat (storedShare i.toNat freeEntry) = some freeEntry := by
  obtain ⟨h0, h1⟩ := byteAt_storedShare i freeEntry
  have zero : (boolByte freeEntry.inUse).toNat = 0 := rfl
  simp only [ShareEntry.ofStored, checkMatches_storedShare, h0, h1, zero, and_self, if_true]

theorem poolCode_byte_beq : ∀ c k : PoolCode, (BitVec.ofNat 8 c.val == BitVec.ofNat 8 k.val) = decide (k = c) := by
  decide

theorem headerValidFor_storedHeader (c k : PoolCode) (complete : Bool) :
    headerValidFor k (storedHeader c complete) = true ↔ k = c ∧ complete = true := by
  have hc : checkMatches 64 (storedHeader c complete) = true := checkMatches_withCheck (by simp)
  have h0 : byteAt (storedHeader c complete) 0 = BitVec.ofNat 8 c.val := rfl
  have h1 : byteAt (storedHeader c complete) 1 = boolByte complete := rfl
  have flag : (boolByte complete == 1) = complete := by cases complete <;> rfl
  rw [headerValidFor, hc, h0, h1, poolCode_byte_beq, flag]
  simp

/-- Settles O42. -/
theorem storedRecordsReadBack : Obligations.StoredRecordsReadBack := by
  refine ⟨fun r => ⟨r.stored_length, r.ofStored_stored⟩,
    fun d r hq => ⟨storedDomain_length _ _, ofStored_storedDomain d r hq⟩,
    fun i e hu => ⟨storedShare_length _ _, ofStored_storedShare i e hu⟩, ofStored_storedShare_free,
    fun c k b => ⟨by simp [storedHeader, withCheck], headerValidFor_storedHeader c k b⟩, fun bs _ h => ?_,
    fun bs _ h n => ?_, fun bs _ h c => ?_⟩
  · have := checkMatches_of_ne (n := 16) h
    exact ⟨by simp [TagRec.ofStored, this], fun i => by simp [ShareEntry.ofStored, this]⟩
  · simp [PersistedDomain.ofStored, checkMatches_of_ne (n := 32) h]
  · simp [headerValidFor, checkMatches_of_ne (n := 64) h]

end Sys2Proof.Machine

namespace Sys2Proof.Machine

open Sys2Proof.Safety

/-! # Storing a log record -/

theorem flagsSet_trans {s t u : State} {fs gs : List EventFlag} (h : FlagsSet s t fs) (k : FlagsSet t u gs) :
    FlagsSet s u (fs ++ gs) :=
  ⟨k.1.trans h.1, fun f => by simp [k.2 f, h.2 f, Bool.or_assoc]⟩

theorem flagsSet_refl (s : State) : FlagsSet s s [] := ⟨rfl, fun f => by simp⟩

theorem flagsSet_setFlagIf (s : State) (b : Bool) (f : EventFlag) :
    FlagsSet s (s.setFlagIf b f) (if b then [f] else []) := by
  cases b
  · exact flagsSet_refl s
  · exact flagsSet_setFlag s f

theorem onlyChanges_refl (s : State) : OnlyChanges [] s s := ⟨rfl, fun b _ => by cases b <;> rfl⟩

theorem onlyChanges_setFlagIf (s : State) (b : Bool) (f : EventFlag) : OnlyChanges [.eu, .cp] s (s.setFlagIf b f) := by
  cases b
  · exact onlyChanges_mono (onlyChanges_refl s) (by simp)
  · exact onlyChanges_setFlag s f

/-- The record that a hand-over makes of an event (R157, R159). -/
def State.stamped (s : State) (e : LogEvent) : LogRec := { event := e, timestamp := s.mc.timestamp, superseded := 0 }

@[simp] theorem State.logRecord_log (s : State) (e : LogEvent) : (s.logRecord e).vl = s.vl.store (s.stamped e) := by
  simp [State.logRecord, State.stamped]

/-- The log that was FROZEN stays so, and no other becomes so. -/
theorem Log.store_settings (l : Log) (r : LogRec) : (l.store r).hold = l.hold ∧ (l.store r).frozen = l.frozen := by
  unfold Log.store
  split
  · exact ⟨rfl, rfl⟩
  · split
    · split <;> exact ⟨rfl, rfl⟩
    · exact ⟨rfl, rfl⟩

theorem Log.store_frozen {l : Log} (h : l.frozen = true) (r : LogRec) :
    l.store r = { l with missed := satInc Config.max16 l.missed } := by
  simp [Log.store, h]

theorem Log.store_full {l : Log} {old : List LogRec} {newest : LogRec} (h : l.frozen = false)
    (hr : l.records = old ++ [newest]) (hf : l.overflow = true ∨ 32 ≤ l.records.length) (r : LogRec) :
    l.store r = { l with
      overflow := true, records := old ++ [{ r with superseded := satInc Config.max16 newest.superseded }] } := by
  simp only [Log.store, h, Bool.false_eq_true, if_false]
  rw [show l.records.getLast? = some newest by simp [hr]]
  dsimp only
  rw [if_pos (show l.overflow = true ∨ Config.logCapacity ≤ l.records.length from hf), hr, List.dropLast_concat]

theorem Log.store_room {l : Log} (h : l.frozen = false) (hl : l.records.length < 32)
    (ho : l.overflow = false ∨ l.records = []) (r : LogRec) :
    l.store r = { l with
      overflow := l.overflow || decide (l.records.length = 31), records := l.records ++ [r] } := by
  rcases hr : l.records.getLast? with _ | newest
  · have hn : l.records = [] := List.getLast?_eq_none_iff.1 hr
    simp [Log.store, h, hn]
  · have hn : l.records ≠ [] := by rintro h0; simp [h0] at hr
    have hov : l.overflow = false := ho.resolve_right hn
    have h31 : 31 ≤ l.records.length ↔ l.records.length = 31 := by omega
    simp [Log.store, h, hr, hov, Config.logCapacity, hl, h31]

theorem onlyChanges_logRecord (s : State) (e : LogEvent) : OnlyChanges [.vl, .eu, .cp] s (s.logRecord e) :=
  onlyChanges_mono (onlyChanges_trans (onlyChanges_trans (onlyChanges_setVl s _) (onlyChanges_setFlagIf _ _ _))
    (onlyChanges_setFlagIf _ _ _)) (by simp)

/-- Storing a record sets LOG_OVERFLOW with OVERFLOW and LOG_NONEMPTY with the first unread record, and no other flag
(R159). -/
theorem flagsSet_logRecord (s : State) (e : LogEvent) : FlagsSet s (s.logRecord e) (storingFlags s (s.logRecord e)) := by
  have h := flagsSet_trans (flagsSet_setFlagIf (s.setVl (s.vl.store (s.stamped e)))
    ((s.vl.store (s.stamped e)).overflow && !s.vl.overflow) .logOverflow)
    (flagsSet_setFlagIf _ (s.vl.records.isEmpty && !s.vl.frozen) .logNonempty)
  have hn : (if (s.vl.records.isEmpty && !s.vl.frozen) = true then [EventFlag.logNonempty] else []) =
      if s.vl.frozen = false ∧ s.vl.records = [] then [.logNonempty] else [] := by
    simp [and_comm]
  rw [hn] at h
  rw [storingFlags, State.logRecord_log]
  exact flagsSet_of_eu_eq (State.setVl_eu s _) h

theorem logRecord_of_frozen {s : State} (h : s.vl.frozen = true) (e : LogEvent) :
    s.logRecord e = s.setVl { s.vl with missed := satInc Config.max16 s.vl.missed } := by
  simp [State.logRecord, State.setFlagIf, Log.store_frozen h, h]

/-- Settles O30: the four cases of a hand-over, with the flags by what becomes of OVERFLOW and of the empty log. -/
theorem logStoresRecord : Obligations.LogStoresRecord := by
  intro s e
  obtain ⟨hhold, hfrozen⟩ := s.vl.store_settings (s.stamped e)
  rw [← s.logRecord_log e] at hhold hfrozen
  have hflags := flagsSet_logRecord s e
  refine ⟨onlyChanges_logRecord s e, hhold, hfrozen, fun hf => ?_, fun old newest hf hr hfull => ?_,
    fun hf hl ho => ?_⟩
  · rw [logRecord_of_frozen hf]
    exact ⟨State.setVl_vl .., by simp, by simp⟩
  · have hl := Log.store_full hf hr (hfull.imp_right fun h => h.2.ge) (s.stamped e)
    rw [storingFlags, State.logRecord_log, hl, hr] at hflags
    refine ⟨(s.logRecord_log e).trans hl, ?_⟩
    cases hv : s.vl.overflow <;> simpa [hv] using hflags
  · have hl := Log.store_room hf hl ho (s.stamped e)
    rw [storingFlags, State.logRecord_log, hl] at hflags
    rw [State.logRecord_log, hl]
    refine ⟨rfl, rfl, rfl, ?_⟩
    have hv : s.vl.records.length = 31 → s.vl.overflow = false := fun h =>
      ho.resolve_right fun h0 => by simp [h0] at h
    by_cases h31 : s.vl.records.length = 31
    · simpa [h31, hv h31, hf] using hflags
    · simpa [h31, hf] using hflags

end Sys2Proof.Machine

namespace Sys2Proof.Machine

open Sys2Proof.Safety

/-! # The decision order -/

theorem granules_mul : ∀ c : PoolCode, granules (some c) * 4096 = poolBytes c := by decide

theorem unbacked_iff (code : Option PoolCode) (a : Nat) :
    unbacked code a = true ↔ code = none ∨ granules code * 4096 ≤ a := by
  cases code with
  | none => simp [unbacked]
  | some c => simp [unbacked, granules_mul]

theorem standing_quarantined_iff (r : DomainRec) : r.standing = .quarantined ↔ 256 ≤ r.score := by
  unfold DomainRec.standing standingOf
  split_ifs <;> simp <;> omega

theorem standing_restricted_iff {r : DomainRec} (h : ¬ 256 ≤ r.score) : r.standing = .restricted ↔ 128 ≤ r.score := by
  unfold DomainRec.standing standingOf
  split_ifs <;> simp <;> omega

/-- Steps 11 to 17 of R54, as `enforceStep` has them. -/
def enforceTagStep (s : State) (e : Entry) (tag : Tag) : Reason × Bool × Bool :=
  if tag.kind = .poisoned then (.poisoned, false, true)
  else if tag.kind = .draining ∨ tag.kind = .scrubbing then (.reclaiming, tag.owner ≠ some e.domain, true)
  else if tag.kind = .free then (.freeGranule, true, true)
  else if s.applicableRights e.domain tag = none then (.notOwner, true, true)
  else if e.op = .write ∧ s.applicableRights e.domain tag = some .ro then (.writeDenied, true, true)
  else if e.op = .write ∧ 128 ≤ (s.domain e.domain).score then (.restricted, true, true)
  else (.none, false, false)

/-- Steps 11 to 15 and 17 in MONITOR, as `monitorStep` has them. -/
def monitorTagStep (s : State) (e : Entry) (tag : Tag) : Reason × Bool × Bool × Bool :=
  if tag.kind = .poisoned then (.poisoned, false, true, false)
  else if tag.kind = .draining ∨ tag.kind = .scrubbing then (.reclaiming, tag.owner ≠ some e.domain, true, false)
  else if tag.kind = .free then (.freeGranule, true, true, false)
  else if s.applicableRights e.domain tag = none then (.notOwner, true, true, true)
  else if e.op = .write ∧ s.applicableRights e.domain tag = some .ro then (.writeDenied, true, true, true)
  else (.none, false, false, true)

/-- The steps of a held tag, in either mode, by the rights that apply. -/
theorem tagSteps_held (s : State) (monitor : Bool) (e : Entry) {t : Tag} (h : t.kind = .owned ∨ t.kind = .shared) :
    s.tagSteps monitor e t =
      if s.applicableRights e.domain t = none then refusal .notOwner true monitor (.state t.kind)
      else if e.op = .write ∧ s.applicableRights e.domain t = some .ro then
        refusal .writeDenied true monitor (.state t.kind)
      else if monitor = false ∧ e.op = .write ∧ (s.domain e.domain).standing = .restricted then
        refusal .restricted true false (.state t.kind)
      else servedRuling (.state t.kind) := by
  have held : s.tagSteps monitor e t =
      match s.applicableRights e.domain t with
      | none => refusal .notOwner true monitor (.state t.kind)
      | some rights =>
        if e.op = .write ∧ rights = .ro then refusal .writeDenied true monitor (.state t.kind)
        else if monitor = false ∧ e.op = .write ∧ (s.domain e.domain).standing = .restricted then
          refusal .restricted true false (.state t.kind)
        else servedRuling (.state t.kind) := by
    cases t <;> simp_all [Tag.kind] <;> rfl
  rw [held]
  cases s.applicableRights e.domain t <;> simp

theorem domain_bne (d o : DomainId) : (d != o) = decide (some o ≠ some d) := by
  rw [Bool.eq_iff_iff, bne_iff_ne, decide_eq_true_iff, ne_eq, ne_eq, Option.some_inj, eq_comm]

theorem owner_bne (o : Option DomainId) (d : DomainId) : (o != some d) = decide (o ≠ some d) := by
  rw [Bool.eq_iff_iff, bne_iff_ne, decide_eq_true_iff]

/-- The verdict of a step of ENFORCE: it serves where there is no reason to refuse. -/
def enforceVerdict (x : Reason × Bool × Bool) (seen : TagSeen) : Verdict :=
  .ruled { reason := x.1, scored := x.2.1, logged := x.2.2, served := decide (x.1 = .none), seen := seen }

/-- The verdict of a step of MONITOR. -/
def monitorVerdict (x : Reason × Bool × Bool × Bool) (seen : TagSeen) : Verdict :=
  .ruled { reason := x.1, scored := x.2.1, logged := x.2.2.1, served := x.2.2.2, seen := seen }

theorem held_kind {t : Tag} (h : t.kind = .owned ∨ t.kind = .shared) :
    t.kind ≠ .poisoned ∧ ¬ (t.kind = .draining ∨ t.kind = .scrubbing) ∧ t.kind ≠ .free := by
  rcases h with h | h <;> simp [h]

theorem tagSteps_enforce_held {s : State} {e : Entry} (hq : ¬ 256 ≤ (s.domain e.domain).score) {t : Tag}
    (h : t.kind = .owned ∨ t.kind = .shared) :
    s.tagSteps false e t = enforceVerdict (enforceTagStep s e t) (.state t.kind) := by
  obtain ⟨hp, hd, hf⟩ := held_kind h
  rw [tagSteps_held s false e h, enforceTagStep, if_neg hp, if_neg hd, if_neg hf]
  simp only [true_and, standing_restricted_iff hq, apply_ite (fun x => enforceVerdict x (.state t.kind))]
  rfl

theorem tagSteps_enforce {s : State} {e : Entry} (hq : ¬ 256 ≤ (s.domain e.domain).score) (t : Tag) :
    s.tagSteps false e t = enforceVerdict (enforceTagStep s e t) (.state t.kind) := by
  cases t with
  | free => rfl
  | owned o r => exact tagSteps_enforce_held hq (.inl rfl)
  | shared o r i => exact tagSteps_enforce_held hq (.inr rfl)
  | draining o k =>
    have h : s.tagSteps false e (.draining o k) = refusal .reclaiming (e.domain != o) false (.state .draining) := rfl
    rw [h, domain_bne]; rfl
  | scrubbing o k =>
    have h : s.tagSteps false e (.scrubbing o k) = refusal .reclaiming (o != some e.domain) false (.state .scrubbing) := rfl
    rw [h, owner_bne]; rfl
  | poisoned o c => rfl

theorem tagSteps_monitor_held (s : State) (e : Entry) {t : Tag} (h : t.kind = .owned ∨ t.kind = .shared) :
    s.tagSteps true e t = monitorVerdict (monitorTagStep s e t) (.state t.kind) := by
  obtain ⟨hp, hd, hf⟩ := held_kind h
  rw [tagSteps_held s true e h, monitorTagStep, if_neg hp, if_neg hd, if_neg hf]
  simp only [Bool.true_eq_false, false_and, if_false, apply_ite (fun x => monitorVerdict x (.state t.kind))]
  rfl

theorem tagSteps_monitor (s : State) (e : Entry) (t : Tag) :
    s.tagSteps true e t = monitorVerdict (monitorTagStep s e t) (.state t.kind) := by
  cases t with
  | free => rfl
  | owned o r => exact tagSteps_monitor_held s e (.inl rfl)
  | shared o r i => exact tagSteps_monitor_held s e (.inr rfl)
  | draining o k =>
    have h : s.tagSteps true e (.draining o k) = refusal .reclaiming (e.domain != o) false (.state .draining) := rfl
    rw [h, domain_bne]; rfl
  | scrubbing o k =>
    have h : s.tagSteps true e (.scrubbing o k) = refusal .reclaiming (o != some e.domain) false (.state .scrubbing) := rfl
    rw [h, owner_bne]; rfl
  | poisoned o c => rfl

/-! ## The steps before the tag -/

theorem decideRequest_enforce {s : State} (hm : s.mc.mode = .enforce) (e : Entry) (read : Option TagRec) :
    s.decideRequest e read =
      if s.mc.poolCode = none ∨ granules s.mc.poolCode * 4096 ≤ 64 * e.lineNo.toNat then
        enforceVerdict (.unbacked, false, false) .unread
      else if (s.domain e.domain).state = .closed then enforceVerdict (.unknownDomain, false, true) .unread
      else if (s.domain e.domain).state = .retiring then enforceVerdict (.retiring, false, true) .unread
      else if (s.domain e.domain).score ≥ 256 then enforceVerdict (.quarantined, false, true) .unread
      else if e.outside = true then enforceVerdict (.outsideAperture, true, true) .unread
      else if s.tenants ≤ granuleOf e.lineNo then enforceVerdict (.privateRegion, true, true) .privateRegion
      else
        match read with
        | none => .needTag
        | some r => enforceVerdict (enforceTagStep s e r.tag) (.state r.tag.kind) := by
  have hq : ((s.domain e.domain).standing == .quarantined) = decide ((s.domain e.domain).score ≥ 256) := by
    rw [Bool.eq_iff_iff, beq_iff_eq, standing_quarantined_iff, decide_eq_true_iff]
  simp only [State.decideRequest, hm, unbacked_iff, earlyStep, hq, lineAddress, ne_eq, reduceCtorEq, not_true, not_false_eq_true, false_and, if_false,
    decide_false, Bool.not_false, Bool.true_and, decide_eq_true_eq, if_true]
  split_ifs <;> try rfl
  next hs _ _ =>
    cases read with
    | none => rfl
    | some r => exact tagSteps_enforce hs r.tag

/-- Whether MONITOR serves what ENFORCE refuses at one of its early steps: the tag is held (R67). -/
def heldTag (t : Tag) : Bool := t.kind = .owned || t.kind = .shared

theorem isHeld_eq (t : Tag) : t.isHeld = heldTag t := by cases t <;> rfl

/-- In MONITOR a step below T rules once the tag has been read. -/
def monitorTagged (x : Tag → Reason × Bool × Bool × Bool) (read : Option TagRec) : Verdict :=
  match read with
  | none => .needTag
  | some r => monitorVerdict (x r.tag) (.state r.tag.kind)

theorem decideRequest_monitor {s : State} (hm : s.mc.mode = .monitor) (e : Entry) (read : Option TagRec) :
    s.decideRequest e read =
      if s.mc.poolCode = none ∨ granules s.mc.poolCode * 4096 ≤ 64 * e.lineNo.toNat then
        monitorVerdict (.unbacked, false, false, false) .unread
      else if s.tenants ≤ granuleOf e.lineNo then
        if (s.domain e.domain).state = .closed then monitorVerdict (.unknownDomain, false, true, false) .privateRegion
        else if (s.domain e.domain).state = .retiring then monitorVerdict (.retiring, false, true, false) .privateRegion
        else if e.outside = true then monitorVerdict (.outsideAperture, true, true, false) .privateRegion
        else monitorVerdict (.privateRegion, true, true, false) .privateRegion
      else if (s.domain e.domain).state = .closed then
        monitorTagged (fun t => (.unknownDomain, false, true, heldTag t)) read
      else if (s.domain e.domain).state = .retiring then
        monitorTagged (fun t => (.retiring, false, true, heldTag t)) read
      else if e.outside = true then monitorTagged (fun t => (.outsideAperture, true, true, heldTag t)) read
      else monitorTagged (monitorTagStep s e) read := by
  simp only [State.decideRequest, hm, unbacked_iff, earlyStep, lineAddress, ne_eq, reduceCtorEq, not_true,
    not_false_eq_true, and_false, if_false, decide_true, Bool.not_true, Bool.false_and, Bool.false_eq_true]
  split_ifs <;> try rfl
  rotate_left 3
  · cases read with
    | none => rfl
    | some r => exact tagSteps_monitor s e r.tag
  all_goals
    cases read with
    | none => rfl
    | some r => rw [monitorTagged, ← isHeld_eq]; rfl

theorem decideRequest_other {s : State} (he : s.mc.mode ≠ .enforce) (hm : s.mc.mode ≠ .monitor) (e : Entry)
    (read : Option TagRec) : s.decideRequest e read = .notReady := by
  simp [State.decideRequest, he, hm]

/-- The reasons of the steps before the tag (R57 to R60). -/
def earlyReasons : List Reason :=
  [.unbacked, .unknownDomain, .retiring, .quarantined, .outsideAperture, .privateRegion]

theorem enforceTagStep_late (s : State) (e : Entry) (t : Tag) : (enforceTagStep s e t).1 ∉ earlyReasons := by
  unfold enforceTagStep
  split_ifs <;> simp [earlyReasons]

theorem monitorTagStep_late (s : State) (e : Entry) (t : Tag) : (monitorTagStep s e t).1 ∉ earlyReasons := by
  unfold monitorTagStep
  split_ifs <;> simp [earlyReasons]

/-- The order of ENFORCE with its steps of the tag apart. -/
theorem enforceStep_eq (s : State) (e : Entry) (t : Tag) :
    enforceStep s e t =
      if s.mc.poolCode = none ∨ granules s.mc.poolCode * 4096 ≤ 64 * e.lineNo.toNat then (.unbacked, false, false)
      else if (s.domain e.domain).state = .closed then (.unknownDomain, false, true)
      else if (s.domain e.domain).state = .retiring then (.retiring, false, true)
      else if (s.domain e.domain).score ≥ 256 then (.quarantined, false, true)
      else if e.outside = true then (.outsideAperture, true, true)
      else if s.tenants ≤ granuleOf e.lineNo then (.privateRegion, true, true)
      else enforceTagStep s e t := rfl

/-- The order of MONITOR with its steps of the tag apart. -/
theorem monitorStep_eq (s : State) (e : Entry) (t : Tag) :
    monitorStep s e t =
      if s.mc.poolCode = none ∨ granules s.mc.poolCode * 4096 ≤ 64 * e.lineNo.toNat then
        (.unbacked, false, false, false)
      else if (s.domain e.domain).state = .closed then
        (.unknownDomain, false, true, decide (granuleOf e.lineNo < s.tenants) && heldTag t)
      else if (s.domain e.domain).state = .retiring then
        (.retiring, false, true, decide (granuleOf e.lineNo < s.tenants) && heldTag t)
      else if e.outside = true then (.outsideAperture, true, true, decide (granuleOf e.lineNo < s.tenants) && heldTag t)
      else if s.tenants ≤ granuleOf e.lineNo then (.privateRegion, true, true, false)
      else monitorTagStep s e t := rfl

/-- The tag state seen at a step of ENFORCE, by its reason (R66). -/
def enforceSeen (x : Reason × Bool × Bool) (t : Tag) : TagSeen :=
  if x.1 = .privateRegion then .privateRegion
  else if x.1 = .unbacked ∨ x.1 = .unknownDomain ∨ x.1 = .retiring ∨ x.1 = .quarantined ∨ x.1 = .outsideAperture then
    .unread
  else .state t.kind

theorem enforceSeen_of_late {x : Reason × Bool × Bool} (h : x.1 ∉ earlyReasons) (t : Tag) :
    enforceSeen x t = .state t.kind := by
  simp only [earlyReasons, List.mem_cons, List.not_mem_nil, or_false, not_or] at h
  simp [enforceSeen, h]

theorem decideRequest_enforce_tagged {s : State} (hm : s.mc.mode = .enforce) (e : Entry) (r : TagRec) :
    s.decideRequest e (some r) = enforceVerdict (enforceStep s e r.tag) (enforceSeen (enforceStep s e r.tag) r.tag) := by
  rw [decideRequest_enforce hm, enforceStep_eq]
  split_ifs <;> try rfl
  rw [enforceSeen_of_late (enforceTagStep_late s e r.tag)]

theorem decideRequest_enforce_untagged {s : State} (hm : s.mc.mode = .enforce) (e : Entry) (r : TagRec) :
    s.decideRequest e none =
      if (enforceStep s e r.tag).1 ∈ earlyReasons then s.decideRequest e (some r) else .needTag := by
  have late := enforceTagStep_late s e r.tag
  rw [decideRequest_enforce hm, decideRequest_enforce hm, enforceStep_eq]
  split_ifs <;> simp_all [earlyReasons]

/-- The tag state seen at a step of MONITOR (R66, R67). -/
def monitorSeen (s : State) (e : Entry) (reason : Reason) (t : Tag) : TagSeen :=
  if reason = .unbacked then .unread
  else if s.tenants ≤ granuleOf e.lineNo then .privateRegion
  else .state t.kind

theorem decideRequest_monitor_tagged {s : State} (hm : s.mc.mode = .monitor) (e : Entry) (r : TagRec) :
    s.decideRequest e (some r) =
      monitorVerdict (monitorStep s e r.tag) (monitorSeen s e (monitorStep s e r.tag).1 r.tag) := by
  have late := monitorTagStep_late s e r.tag
  rw [decideRequest_monitor hm, monitorStep_eq]
  rcases lt_or_ge (granuleOf e.lineNo) s.tenants with hp | hp
  · rw [if_neg (not_le.2 hp), decide_eq_true hp, if_neg (not_le.2 hp)]
    split_ifs <;> simp_all [earlyReasons, monitorSeen, monitorTagged, not_le.2 hp]
  · rw [if_pos hp, decide_eq_false (not_lt.2 hp), if_pos hp]
    split_ifs <;> simp_all [monitorSeen]

theorem decideRequest_monitor_untagged {s : State} (hm : s.mc.mode = .monitor) (e : Entry) (r : TagRec) :
    s.decideRequest e none =
      if (monitorStep s e r.tag).1 = .unbacked ∨ s.tenants ≤ granuleOf e.lineNo then s.decideRequest e (some r)
      else .needTag := by
  have late := monitorTagStep_late s e r.tag
  rw [decideRequest_monitor hm, decideRequest_monitor hm, monitorStep_eq]
  rcases lt_or_ge (granuleOf e.lineNo) s.tenants with hp | hp
  · simp only [not_le.2 hp, if_false, or_false]
    split_ifs <;> simp_all [earlyReasons, monitorTagged]
  · simp only [hp, if_true, or_true]

/-- Settles O19: both orders are the model's decision with its early steps and its steps of the tag written as one list. -/
theorem decisionFollowsOrder : Obligations.DecisionFollowsOrder := by
  intro s e tag
  refine ⟨fun hm => decideRequest_enforce_tagged hm e tag, fun hm => decideRequest_monitor_tagged hm e tag,
    fun hm => decideRequest_enforce_untagged hm e tag, fun hm => decideRequest_monitor_untagged hm e tag,
    fun he hm read => decideRequest_other he hm e read⟩

end Sys2Proof.Machine

namespace Sys2Proof.Machine

open Sys2Proof.Safety

/-! # Handing records to the log -/

theorem flagsSet_congr {s t : State} {fs gs : List EventFlag} (h : FlagsSet s t fs) (hm : ∀ f, f ∈ fs ↔ f ∈ gs) :
    FlagsSet s t gs :=
  ⟨h.1, fun f => by rw [h.2 f, decide_eq_decide.2 (hm f)]⟩

theorem mem_storingFlags {s t : State} {f : EventFlag} :
    f ∈ storingFlags s t ↔ (f = .logOverflow ∧ t.vl.overflow = true ∧ s.vl.overflow = false) ∨
      (f = .logNonempty ∧ s.vl.frozen = false ∧ s.vl.records = []) := by
  unfold storingFlags
  rw [List.mem_append]
  refine or_congr ?_ ?_
  · split_ifs with h <;> simp_all
  · split_ifs with h <;> simp_all

/-- A log that has taken a record is FROZEN or holds an unread one. -/
def Log.used (l : Log) : Prop := l.frozen = true ∨ l.records ≠ []

theorem Log.store_used (l : Log) (r : LogRec) : (l.store r).used := by
  by_cases h : l.frozen = true
  · rw [Log.store_frozen h]
    exact .inl h
  · refine .inr ?_
    simp only [Log.store, h, Bool.false_eq_true, if_false]
    split
    · split_ifs <;> simp
    · simp

theorem Log.store_overflow {l : Log} (h : l.overflow = true) (r : LogRec) : (l.store r).overflow = true := by
  by_cases hf : l.frozen = true
  · rw [Log.store_frozen hf]
    exact h
  · simp only [Log.store, hf, Bool.false_eq_true, if_false]
    split <;> simp [h]

theorem storeEvent_overflow {l : Log} (h : l.overflow = true) (ts : BitVec 32) (e : LogEvent) :
    (storeEvent ts l e).overflow = true := by
  have hs := Log.store_overflow h { event := e, timestamp := ts, superseded := 0 }
  unfold storeEvent
  split
  · split_ifs <;> exact hs
  · exact hs

theorem storeEvent_used (ts : BitVec 32) (l : Log) (e : LogEvent) : (storeEvent ts l e).used := by
  have hs := l.store_used { event := e, timestamp := ts, superseded := 0 }
  unfold storeEvent
  split
  · split_ifs
    · exact .inl rfl
    · exact hs
  · exact hs

theorem foldl_storeEvent_overflow (ts : BitVec 32) (es : List LogEvent) {l : Log} (h : l.overflow = true) :
    (es.foldl (storeEvent ts) l).overflow = true := by
  induction es generalizing l with
  | nil => exact h
  | cons e es ih => exact ih (storeEvent_overflow h ts e)

theorem foldl_storeEvent_used (ts : BitVec 32) {es : List LogEvent} (h : es ≠ []) (l : Log) :
    (es.foldl (storeEvent ts) l).used := by
  rw [← List.dropLast_append_getLast h, List.foldl_append]
  exact storeEvent_used ts _ _

/-- On the way from `s` to `t` the records of `es` are handed to VL in this order, and the flags of `fs` become set
besides those that storing the records sets. -/
structure HandsOver (s t : State) (es : List LogEvent) (fs : List EventFlag) : Prop where
  log : t.vl = es.foldl (storeEvent s.mc.timestamp) s.vl
  flags : FlagsSet s t (fs ++ if es = [] then [] else storingFlags s t)
  mc : t.mc = s.mc

/-- Of two hand-overs the second sets no LOG_NONEMPTY, and LOG_OVERFLOW where the first has not. -/
theorem mem_storingFlags_trans {s u t : State} {ts : BitVec 32} {es es' : List LogEvent} (hes : es ≠ [])
    (hu : u.vl = es.foldl (storeEvent ts) s.vl) (ht : t.vl = es'.foldl (storeEvent ts) u.vl) (f : EventFlag) :
    f ∈ storingFlags s u ∨ f ∈ storingFlags u t ↔ f ∈ storingFlags s t := by
  have used : ¬ (u.vl.frozen = false ∧ u.vl.records = []) := by
    have h := foldl_storeEvent_used ts hes s.vl
    rw [← hu] at h
    rintro ⟨hf, hr⟩
    exact h.elim (fun hf' => by simp [hf] at hf') (fun hr' => hr' hr)
  have hsu : s.vl.overflow = true → u.vl.overflow = true := fun h => hu ▸ foldl_storeEvent_overflow ts es h
  have hut : u.vl.overflow = true → t.vl.overflow = true := fun h => ht ▸ foldl_storeEvent_overflow ts es' h
  have hov : (u.vl.overflow = true ∧ s.vl.overflow = false) ∨ (t.vl.overflow = true ∧ u.vl.overflow = false) ↔
      t.vl.overflow = true ∧ s.vl.overflow = false := by
    revert hsu hut
    cases s.vl.overflow <;> cases u.vl.overflow <;> cases t.vl.overflow <;> simp
  rw [mem_storingFlags, mem_storingFlags, mem_storingFlags, ← hov, and_or_left, or_right_comm]
  simp only [used, and_false, or_false]

theorem storingFlags_congr {s s' t t' : State} (hs : s'.vl = s.vl) (ht : t'.vl = t.vl) :
    storingFlags s' t' = storingFlags s t := by
  simp only [storingFlags, hs, ht]

theorem HandsOver.trans {s u t : State} {es es' : List LogEvent} {fs fs' : List EventFlag} (h : HandsOver s u es fs)
    (k : HandsOver u t es' fs') : HandsOver s t (es ++ es') (fs ++ fs') where
  log := by rw [List.foldl_append, ← h.log, k.log, h.mc]
  mc := k.mc.trans h.mc
  flags := by
    refine flagsSet_congr (flagsSet_trans h.flags k.flags) fun f => ?_
    rcases eq_or_ne es [] with rfl | hes
    · rw [storingFlags_congr (s := s) (t := t) h.log rfl]
      simp
    · rcases eq_or_ne es' [] with rfl | hes'
      · rw [storingFlags_congr (s := s) (t := t) rfl k.log.symm]
        simp; tauto
      · have hm := mem_storingFlags_trans hes h.log (h.mc ▸ k.log) f
        simp [hes, hes', ← hm]; tauto

theorem HandsOver.refl (s : State) : HandsOver s s [] [] := ⟨rfl, flagsSet_refl s, rfl⟩

theorem handsOver_setFlag (s : State) (f : EventFlag) : HandsOver s (s.setFlag f) [] [f] :=
  ⟨by simp, flagsSet_setFlag s f, by simp⟩

/-- A record that freezes no log. -/
theorem handsOver_logRecord (s : State) {e : LogEvent} (h : ∀ d, e ≠ .standing d .quarantined) :
    HandsOver s (s.logRecord e) [e] [] where
  log := by
    rw [State.logRecord_log]
    unfold storeEvent
    rw [List.foldl_cons, List.foldl_nil]
    split
    · next d => exact absurd rfl (h d)
    · rfl
  flags := flagsSet_logRecord s e
  mc := by simp

/-! ## The effects of a decision -/

/-- The record of an entry to QUARANTINED freezes the log where HOLD is set (R33, R160). -/
theorem handsOver_quarantined (s : State) (d : DomainId) :
    HandsOver s (s.standingRecord d .quarantined) [.standing d .quarantined] [] := by
  have hlog : (s.standingRecord d .quarantined).vl = storeEvent s.mc.timestamp s.vl (.standing d .quarantined) := by
    have hh := (s.vl.store_settings (s.stamped (.standing d .quarantined))).1
    simp only [State.standingRecord, State.logRecord_log, storeEvent, hh]
    split
    · simp [State.stamped, ← hh]
    · exact s.logRecord_log _
  have heu : (s.standingRecord d .quarantined).eu = (s.logRecord (.standing d .quarantined)).eu := by
    simp only [State.standingRecord]
    split <;> simp
  refine ⟨hlog, ?_, by simp⟩
  have hf := flagsSet_logRecord s (.standing d .quarantined)
  refine flagsSet_congr ⟨heu ▸ hf.1, heu ▸ hf.2⟩ fun f => ?_
  have hov : (s.standingRecord d .quarantined).vl.overflow = (s.logRecord (.standing d .quarantined)).vl.overflow := by
    rw [hlog, State.logRecord_log, storeEvent]
    split <;> rfl
  simp [mem_storingFlags, hov]

/-- The STANDING record of a change of standing (R33, R65). -/
def standingEvents (d : DomainId) (new : Standing) : List LogEvent :=
  if new = .restricted ∨ new = .quarantined then [.standing d new] else []

theorem handsOver_standingRecord (s : State) (d : DomainId) (new : Standing) :
    HandsOver s (s.standingRecord d new) (standingEvents d new) [] := by
  cases new with
  | good => exact HandsOver.refl s
  | warned => exact HandsOver.refl s
  | restricted => exact handsOver_logRecord s (by simp)
  | quarantined => exact handsOver_quarantined s d

theorem handsOver_standingChange (s : State) (d : DomainId) (old new : Standing) :
    HandsOver s (s.standingChange d old new) (if new ≠ old then standingEvents d new else [])
      (if new ≠ old then (standingFlag new).toList else []) := by
  unfold State.standingChange
  by_cases h : old = new
  · simpa [h] using HandsOver.refl s
  · have hr := handsOver_standingRecord s d new
    rw [if_neg h, if_pos (Ne.symm h), if_pos (Ne.symm h)]
    dsimp only
    split
    · next f hf =>
      have := hr.trans (handsOver_setFlag _ f)
      simpa [hf] using this
    · next hf => simpa [hf] using hr

theorem State.watch_of_not_watched {s : State} {p : Port} {e : Entry} (h : watched s p e = false) (seen : TagSeen) :
    s.watch p e seen = s := if_neg (by simpa [watched] using h)

theorem handsOver_watch (s : State) (p : Port) (e : Entry) (seen : TagSeen) :
    HandsOver s (s.watch p e seen)
      (if watched s p e then [.watch p e.domain (granuleOf e.lineNo) (lineInGranule e.lineNo) e.op seen] else [])
      (if watched s p e then [.watchHit] else []) := by
  by_cases h : watched s p e = true
  · have hw : (s.port p).watchOn = true ∧ (s.port p).watchGranule = granuleOf e.lineNo := by simpa [watched] using h
    simp only [State.watch, hw, h, and_self, if_true]
    exact (handsOver_logRecord s (by simp)).trans (handsOver_setFlag _ .watchHit)
  · rw [State.watch_of_not_watched (Bool.eq_false_iff.2 h), if_neg h, if_neg h]
    exact HandsOver.refl s

/-- A counted refusal changes the domain table and what is to be written, and hands over nothing. -/
theorem handsOver_countRefusal (s : State) (d : DomainId) : HandsOver s (s.countRefusal d) [] [] :=
  ⟨by simp, flagsSet_of_eu_eq (by simp) (flagsSet_refl _), by simp⟩

theorem HandsOver.ite {s t : State} {b : Bool} {es : List LogEvent} {fs : List EventFlag} (h : HandsOver s t es fs) :
    HandsOver s (if b then t else s) (if b then es else []) (if b then fs else []) := by
  cases b
  · exact HandsOver.refl s
  · exact h

/-- The state with the score of a decision counted (R31, R34). -/
def State.scored (s : State) (e : Entry) (r : Ruling) : State := if counts e r then s.countRefusal e.domain else s

/-- A counted refusal leaves the domain with the standing of its new score. -/
theorem scored_standing {s : State} {e : Entry} {r : Ruling} (h : counts e r = true) :
    ((s.scored e r).domain e.domain).standing = standingAfter s e r := by
  simp [State.scored, h, standingAfter, DomainRec.standing, DomainRec.scoreUp, Config.scoreStep, Config.scoreMax]

theorem standingAfter_of_not_counts {s : State} {e : Entry} {r : Ruling} (h : counts e r = false) :
    standingAfter s e r = (s.domain e.domain).standing := by
  simp [standingAfter, h]

/-- The flags of a change of standing and of a watched granule (R33, R71). -/
def rulingFlags (s : State) (p : Port) (e : Entry) (r : Ruling) : List EventFlag :=
  (if standingAfter s e r ≠ (s.domain e.domain).standing then (standingFlag (standingAfter s e r)).toList else []) ++
    if watched s p e then [.watchHit] else []

/-- The state once the DENY record of a logged ruling is stored (R65). -/
def State.denied (s : State) (p : Port) (e : Entry) (r : Ruling) : State :=
  if r.logged then
    s.logRecord (.deny p e.domain (granuleOf e.lineNo) (lineInGranule e.lineNo) e.op r.reason r.served r.seen)
  else s

/-- The state once a change of standing is stored (R33, R65). -/
def State.restood (s : State) (e : Entry) (r : Ruling) (old new : Standing) : State :=
  if counts e r then s.standingChange e.domain old new else s

theorem State.ruleEffects_eq (s : State) (p : Port) (e : Entry) (r : Ruling) :
    s.ruleEffects p e r = (((s.scored e r).denied p e r).restood e r (s.domain e.domain).standing
      ((s.scored e r).domain e.domain).standing).watch p e r.seen := rfl

@[simp] theorem State.scored_port (s : State) (e : Entry) (r : Ruling) (p : Port) :
    (s.scored e r).port p = s.port p := by
  unfold State.scored
  split <;> cases p <;> simp

@[simp] theorem State.denied_port (s : State) (p q : Port) (e : Entry) (r : Ruling) :
    (s.denied q e r).port p = s.port p := by
  unfold State.denied
  split <;> cases p <;> simp

@[simp] theorem State.restood_port (s : State) (p : Port) (e : Entry) (r : Ruling) (old new : Standing) :
    (s.restood e r old new).port p = s.port p := by
  unfold State.restood
  split <;> cases p <;> simp

theorem handsOver_scored (s : State) (e : Entry) (r : Ruling) : HandsOver s (s.scored e r) [] [] := by
  have h := (handsOver_countRefusal s e.domain).ite (b := counts e r)
  rwa [ite_self, ite_self] at h

theorem handsOver_denied (s : State) (p : Port) (e : Entry) (r : Ruling) :
    HandsOver s (s.denied p e r) (if r.logged then
      [.deny p e.domain (granuleOf e.lineNo) (lineInGranule e.lineNo) e.op r.reason r.served r.seen] else []) [] := by
  have h := (handsOver_logRecord s (e := .deny p e.domain (granuleOf e.lineNo) (lineInGranule e.lineNo) e.op r.reason
    r.served r.seen) (by simp)).ite (b := r.logged)
  rwa [ite_self] at h

/-- The STANDING record and its flag, by the standing that a ruling leaves (R33). -/
theorem handsOver_restood {s u : State} {e : Entry} {r : Ruling} {new : Standing}
    (hn : counts e r = true → new = standingAfter s e r) :
    HandsOver u (u.restood e r (s.domain e.domain).standing new)
      (if standingAfter s e r ≠ (s.domain e.domain).standing ∧
          (standingAfter s e r = .restricted ∨ standingAfter s e r = .quarantined) then
        [.standing e.domain (standingAfter s e r)] else [])
      (if standingAfter s e r ≠ (s.domain e.domain).standing then (standingFlag (standingAfter s e r)).toList else []) := by
  unfold State.restood
  cases hc : counts e r with
  | false =>
    rw [standingAfter_of_not_counts hc]
    simpa using HandsOver.refl u
  | true =>
    have h := handsOver_standingChange u e.domain (s.domain e.domain).standing (standingAfter s e r)
    rw [hn hc]
    by_cases hs : standingAfter s e r = (s.domain e.domain).standing
    · simpa [hs] using h
    · simpa [hs, standingEvents] using h

/-- A decision hands over its records in the order of R65, with the flags of its standing and of the watch. -/
theorem handsOver_ruleEffects (s : State) (p : Port) (e : Entry) (r : Ruling) :
    HandsOver s (s.ruleEffects p e r) (decisionEvents s p e r) (rulingFlags s p e r) := by
  have h := (((handsOver_scored s e r).trans (handsOver_denied _ p e r)).trans
    (handsOver_restood (s := s) (new := ((s.scored e r).domain e.domain).standing) scored_standing)).trans
      (handsOver_watch _ p e r.seen)
  rw [State.ruleEffects_eq]
  simpa [watched, decisionEvents, rulingFlags] using h

theorem ruleEffects_tables (s : State) (p : Port) (e : Entry) (r : Ruling) :
    (s.ruleEffects p e r).domains = (s.scored e r).domains ∧ (s.ruleEffects p e r).dram = (s.scored e r).dram := by
  rw [State.ruleEffects_eq]
  constructor <;> unfold State.restood State.denied <;> split <;> split <;> simp

theorem scored_of_counts {s : State} {e : Entry} {r : Ruling} (h : counts e r = true) :
    s.scored e r = s.countRefusal e.domain := if_pos h

theorem scored_of_not_counts {s : State} {e : Entry} {r : Ruling} (h : counts e r = false) : s.scored e r = s :=
  if_neg (by simp [h])

theorem domain_of_domains {s t : State} (h : t.domains = s.domains) (d : DomainId) : t.domain d = s.domain d := by
  simp [State.domain, h]

theorem countRefusal_of_latch {s : State} {d : DomainId} (h : (s.domain d).scoreUp.latch ≠ (s.domain d).latch) :
    s.countRefusal d = s.writeDomain d (s.domain d).scoreUp := if_pos h

theorem countRefusal_of_same {s : State} {d : DomainId} (h : (s.domain d).scoreUp.latch = (s.domain d).latch) :
    s.countRefusal d = s.setDomain d (s.domain d).scoreUp := if_neg (not_not.2 h)

theorem domainBecomes_countRefusal (s : State) (d : DomainId) :
    DomainBecomes s (s.countRefusal d) d (s.domain d).scoreUp := by
  by_cases h : (s.domain d).scoreUp.latch = (s.domain d).latch
  · rw [countRefusal_of_same h]
    exact domainBecomes_setDomain s d _
  · rw [countRefusal_of_latch h]
    exact domainBecomes_writeDomain s d _

theorem sameBytes_scored (s : State) (e : Entry) (r : Ruling) : SameBytes s (s.scored e r) := by
  cases hc : counts e r with
  | false => rw [scored_of_not_counts hc]; exact fun a => rfl
  | true =>
    rw [scored_of_counts hc]
    by_cases h : (s.domain e.domain).scoreUp.latch = (s.domain e.domain).latch
    · rw [countRefusal_of_same h]
      exact fun a => by simp
    · rw [countRefusal_of_latch h]
      exact sameBytes_writeDomain s e.domain _

theorem domainWrite_of_domains {s t : State} (h : t.domains = s.domains) (c : PoolCode) (d : DomainId) :
    domainWrite t c d = domainWrite s c d := by
  simp [domainWrite, domainLineOf, domain_of_domains h]

theorem issues_of_dram {s t u : State} {ws : List (Nat × List Byte)} (h : u.dram = t.dram) (hi : Issues s t ws) :
    Issues s u ws := by
  simpa only [Issues, SameBytes, h] using hi

/-- The flag of a change of standing, by the new standing (R33). -/
theorem standingFlag_toList (x : Standing) :
    (standingFlag x).toList = match x with
      | .warned => [.domainWarned]
      | .restricted => [.domainRestricted]
      | .quarantined => [.domainQuarantined]
      | _ => [] := by
  cases x <;> rfl

theorem standingAfter_of_counts {s : State} {e : Entry} {r : Ruling} (h : counts e r = true) :
    standingAfter s e r = (s.domain e.domain).scoreUp.standing := if_pos h

theorem standing_flags (s : State) (e : Entry) (r : Ruling) :
    (if counts e r = true ∧ (s.domain e.domain).scoreUp.standing ≠ (s.domain e.domain).standing then
      (standingFlag (s.domain e.domain).scoreUp.standing).toList else []) =
    if standingAfter s e r ≠ (s.domain e.domain).standing then (standingFlag (standingAfter s e r)).toList else [] := by
  cases hc : counts e r with
  | false => simp [standingAfter_of_not_counts hc]
  | true => simp [standingAfter_of_counts hc]

/-- Settles O20: the score is counted first, and what follows hands records over. -/
theorem decisionEffects : Obligations.DecisionEffects := by
  intro s p e r
  obtain ⟨hdom, hdram⟩ := ruleEffects_tables s p e r
  have hands := handsOver_ruleEffects s p e r
  refine ⟨⟨by simp, fun b hb => by cases b <;> simp_all [Block.same]⟩, fun a => hdram ▸ sameBytes_scored s e r a,
    hands.log, ?_, ?_, ?_, fun hl hc hw => ?_⟩
  · cases hc : counts e r with
    | false => rw [if_neg (by simp), hdom, scored_of_not_counts hc]
    | true =>
      rw [if_pos rfl]
      rw [scored_of_counts hc] at hdom
      show DomainBecomes s (s.ruleEffects p e r) e.domain (s.domain e.domain).scoreUp
      simpa only [DomainBecomes, domain_of_domains hdom] using domainBecomes_countRefusal s e.domain
  · split_ifs with h
    · intro c hp
      rw [scored_of_counts h.1, countRefusal_of_latch h.2] at hdom hdram
      rw [domainWrite_of_domains hdom]
      exact issues_of_dram hdram (issues_writeDomain s e.domain _ hp)
    · rw [hdram]
      cases hc : counts e r with
      | false => rw [scored_of_not_counts hc]
      | true =>
        rw [scored_of_counts hc, countRefusal_of_same (not_not.1 fun hn => h ⟨hc, hn⟩)]
        simp
  · rw [ite_not, List.append_assoc]
    refine flagsSet_congr hands.flags fun f => ?_
    have hl := standing_flags s e r
    rw [standingFlag_toList] at hl
    rw [rulingFlags, ← hl, List.append_assoc]
    rfl
  · simp [State.ruleEffects_eq, State.scored, State.denied, State.restood, hc, hl, State.watch_of_not_watched hw]

end Sys2Proof.Machine

namespace Sys2Proof.Machine

open Sys2Proof.Safety

/-! # Requests refused at admission -/

theorem exec_requestRead {s : State} (h : s.mc.inReset = none) (p : Port) (tag : Byte) (domain : BitVec 16)
    (line : BitVec 40) : exec (.requestRead p tag domain line) s =
      .next (s.requestArrives p (tag.setWidth 6) (domain.setWidth 10) .read (line.setWidth 34) []) :=
  onEvent_of_no_reset h _

theorem exec_requestWrite {s : State} (h : s.mc.inReset = none) (p : Port) (tag : Byte) (domain : BitVec 16)
    (line : BitVec 40) {data : List Byte} (hd : data.length = 64) : exec (.requestWrite p tag domain line data) s =
      .next (s.requestArrives p (tag.setWidth 6) (domain.setWidth 10) .write (line.setWidth 34) data) :=
  (onEvent_of_no_reset h _).trans (by rw [if_pos hd]; rfl)

theorem requestArrives_of_not_up {s : State} {p : Port} (h : (s.port p).link ≠ .up) (t : ReqTag) (d : DomainId)
    (op : Opcode) (n : LineNo) (data : List Byte) : s.requestArrives p t d op n data = s := if_neg h

theorem requestArrives_of_up {s : State} {p : Port} (h : (s.port p).link = .up) (t : ReqTag) (d : DomainId)
    (op : Opcode) (n : LineNo) (data : List Byte) :
    s.requestArrives p t d op n data = (s.updatePort p PortRec.restartTimer).takeIn p t d op n data := if_pos h

@[simp] theorem admission_restartTimer (s : State) (p : Port) (t : ReqTag) :
    (s.updatePort p PortRec.restartTimer).admission p t = s.admission p t := by
  simp [State.admission, PortRec.restartTimer, PortRec.entry]

/-- What steps 1 to 3 decide, with what a refusal adds to the integrity count (R54, R145). -/
theorem admission_step (s : State) (p : Port) (t : ReqTag) :
    (if (s.port p).tagLimit ≤ (s.port p).table.length then some (Reason.overlimit, 1)
      else if ((s.port p).table.any fun e => e.tag == t) = true then some (.tagBusy, 1)
      else if s.mc.mode = .config ∨ s.mc.mode = .recovering then some (.notReady, 0)
      else if s.mc.pendingTarget = some .suspended ∨ s.mc.mode = .suspended then some (.suspended, 0)
      else none) = (s.admission p t).map fun x => (x.1, x.2.toNat) := by
  have busy : ((s.port p).entry t).isSome = (s.port p).table.any fun e => e.tag == t := by
    rw [Bool.eq_iff_iff, PortRec.entry, List.find?_isSome, List.any_eq_true]
  simp only [State.admission, busy, apply_ite (Option.map _), Option.map_some, Option.map_none]
  rfl

theorem refusedOutcome_eq (r : PortRec) (op : Opcode) : refusedOutcome r.poison op = refusalOutcome r op := by
  cases op <;> simp [refusedOutcome, refusalOutcome]

/-- The state of a refusal with its count, before its frame is placed (R145). -/
def State.countedIf (s : State) (p : Port) (counted : Bool) : State := if counted then s.countIntegrity p else s

theorem takeIn_of_refused {s : State} {p : Port} {t : ReqTag} {reason : Reason} {counted : Bool}
    (h : s.admission p t = some (reason, counted)) (d : DomainId) (op : Opcode) (n : LineNo) (data : List Byte) :
    s.takeIn p t d op n data = (s.countedIf p counted).refuseUnentered p t op reason := by
  simp only [State.takeIn, h]
  rfl

/-- The unentered refusals that wait on a port (R147). -/
def PortRec.refusalsWaiting (r : PortRec) : Nat := (r.sendList.filter SendItem.isRefusal).length

theorem refuseUnentered_of_room {s : State} {p : Port} (h : (s.port p).refusalsWaiting < 8) (t : ReqTag) (op : Opcode)
    (reason : Reason) : s.refuseUnentered p t op reason = s.updatePort p fun r =>
      { r with sendList := r.sendList ++ [.refusal t (refusalOutcome r op) reason] } := by
  simp only [← refusedOutcome_eq]
  exact if_pos h

theorem refuseUnentered_of_full {s : State} {p : Port} (h : ¬ (s.port p).refusalsWaiting < 8) (t : ReqTag)
    (op : Opcode) (reason : Reason) : s.refuseUnentered p t op reason = s.countIntegrity p := if_neg h

theorem countedIf_port (s : State) (p : Port) (counted : Bool) :
    (s.countedIf p counted).port p = { s.port p with
      integrity := if counted then min ((s.port p).integrity + 1) 255 else (s.port p).integrity } := by
  cases counted
  · rfl
  · exact State.countIntegrity_port s p

theorem onlyChanges_countedIf (s : State) (p : Port) (counted : Bool) :
    OnlyChanges [portBlock p, .eu, .cp] s (s.countedIf p counted) := by
  cases counted
  · exact onlyChanges_mono (onlyChanges_refl s) (by simp)
  · exact onlyChanges_countIntegrity s p

theorem flagsSet_countedIf (s : State) (p : Port) (counted : Bool) :
    FlagsSet s (s.countedIf p counted) (if counted then [.portIntegrity] else []) := by
  cases counted
  · exact flagsSet_refl s
  · exact flagsSet_countIntegrity s p

/-- What the refusal of a request leaves: a place of the send list or a drop, and the integrity count (R145, R148). -/
theorem refused_request (s : State) (p : Port) (k : ReqTag) (op : Opcode) (reason : Reason) (counted : Bool) :
    let r := s.port p
    let room := (r.sendList.filter SendItem.isRefusal).length < 8
    let adds := counted.toNat + if room then 0 else 1
    let u := ((s.updatePort p PortRec.restartTimer).countedIf p counted).refuseUnentered p k op reason
    OnlyChanges [portBlock p, .eu, .cp] s u ∧
      u.port p = { r with
        linkTimer := some r.timeoutCode
        integrity := if adds = 0 then r.integrity else min (r.integrity + adds) 255
        sendList := if room then r.sendList ++ [.refusal k (refusalOutcome r op) reason] else r.sendList } ∧
      if adds = 0 then u.eu = s.eu ∧ u.cp = s.cp else FlagsSet s u [.portIntegrity] := by
  intro r room adds u
  have hport := countedIf_port (s.updatePort p PortRec.restartTimer) p counted
  have hchanges := onlyChanges_trans (onlyChanges_updatePort s p PortRec.restartTimer)
    (onlyChanges_countedIf (s.updatePort p PortRec.restartTimer) p counted)
  have hflags := flagsSet_of_eu_eq (State.updatePort_eu s p PortRec.restartTimer)
    (flagsSet_countedIf (s.updatePort p PortRec.restartTimer) p counted)
  rw [State.updatePort_port] at hport
  by_cases hroom : room
  · have hu : u = ((s.updatePort p PortRec.restartTimer).countedIf p counted).updatePort p fun r =>
        { r with sendList := r.sendList ++ [.refusal k (refusalOutcome r op) reason] } :=
      refuseUnentered_of_room (by rw [hport]; exact hroom) k op reason
    refine ⟨?_, ?_, ?_⟩
    · exact hu ▸ onlyChanges_mono (onlyChanges_trans hchanges (onlyChanges_updatePort _ p _)) (by simp)
    · rw [hu, State.updatePort_port, hport, if_pos hroom]
      cases counted <;> simp [adds, hroom, PortRec.restartTimer, r] <;> rfl
    · rw [hu]
      cases counted with
      | false => simp [adds, hroom, State.countedIf]
      | true =>
        simp only [adds, hroom]
        exact ⟨by simpa using hflags.1, by simpa using hflags.2⟩
  · have hu : u = ((s.updatePort p PortRec.restartTimer).countedIf p counted).countIntegrity p :=
      refuseUnentered_of_full (by rw [hport]; exact hroom) k op reason
    refine ⟨?_, ?_, ?_⟩
    · exact hu ▸ onlyChanges_mono (onlyChanges_trans hchanges (onlyChanges_countIntegrity _ p)) (by simp)
    · rw [hu, State.countIntegrity_port, hport, if_neg hroom]
      cases counted <;> simp [adds, hroom, PortRec.restartTimer, r] <;> omega
    · have h := flagsSet_trans hflags (flagsSet_countIntegrity _ p)
      rw [← hu] at h
      rw [if_neg (by simp [adds, hroom])]
      exact flagsSet_congr h (by cases counted <;> simp)

/-- Settles O23: a request on a link that is not UP is dropped; the steps that refuse one leave its refusal and count. -/
theorem admissionRefusals : Obligations.AdmissionRefusals := by
  intro s p tag domain line data c op hr hc k r step
  obtain ⟨d, n, payload, hexec⟩ : ∃ d n payload, exec c s = .next (s.requestArrives p k d op n payload) := by
    rcases hc with ⟨rfl, rfl⟩ | ⟨rfl, rfl, hd⟩
    · exact ⟨_, _, _, exec_requestRead hr p tag domain line⟩
    · exact ⟨_, _, _, exec_requestWrite hr p tag domain line hd⟩
  refine ⟨fun hup => ?_, fun reason counted hup hstep => ?_⟩
  · rw [hexec, requestArrives_of_not_up hup]
  · have hstep' : (s.admission p k).map (fun x => (x.1, x.2.toNat)) = some (reason, counted) :=
      (admission_step s p k).symm.trans hstep
    obtain ⟨⟨reason', b⟩, hadm, heq⟩ := Option.map_eq_some_iff.1 hstep'
    obtain ⟨rfl, rfl⟩ := Prod.mk.inj heq
    rw [requestArrives_of_up hup, takeIn_of_refused (by simpa using hadm)] at hexec
    exact ⟨_, hexec, refused_request s p k op reason' b⟩

end Sys2Proof.Machine

namespace Sys2Proof.Machine

open Sys2Proof.Safety

/-! # A cached line is looked up -/

/-- The state once a lookup has hit a line: its way is the most recent of its set (R77, R79). -/
def State.recent (s : State) (j : Nat) (line : TagLine) : State :=
  match s.tc.validWay j with
  | some way => s.setTc (s.tc.putValid way j line)
  | none => s

theorem State.recent_eq (s : State) (j : Nat) (line : TagLine) : ∃ tc, s.recent j line = s.setTc tc := by
  unfold State.recent
  split
  · exact ⟨_, rfl⟩
  · exact ⟨s.tc, rfl⟩

@[simp] theorem State.recent_frame (s : State) (j : Nat) (line : TagLine) :
    (s.recent j line).dram = s.dram ∧ (s.recent j line).domains = s.domains ∧ (s.recent j line).shares = s.shares ∧
      (s.recent j line).te = s.te ∧ (s.recent j line).su = s.su ∧ (s.recent j line).vl = s.vl ∧
      (s.recent j line).eu = s.eu ∧ (s.recent j line).mc = s.mc ∧ (s.recent j line).cp = s.cp ∧
      (s.recent j line).portA = s.portA ∧ (s.recent j line).portB = s.portB ∧
      (s.recent j line).pending = s.pending := by
  obtain ⟨tc, h⟩ := s.recent_eq j line
  simp [h]

theorem onlyChanges_recent (s : State) (j : Nat) (line : TagLine) : OnlyChanges [.tc] s (s.recent j line) :=
  ⟨by simp, fun b hb => by cases b <;> simp_all [Block.same]⟩

@[simp] theorem State.recent_port (s : State) (j : Nat) (line : TagLine) (p : Port) :
    (s.recent j line).port p = s.port p := by
  cases p <;> simp

/-- A lookup of a cached line goes on with its records. -/
theorem lookup_of_cached {s : State} {j : Nat} {line : TagLine} (h : Cached s j line) (party : Party)
    (onHit : TagLine → State → State) (onWait : State → State) :
    s.lookup party j onHit onWait = onHit line (s.recent j line) := by
  obtain ⟨hwf, way, hm⟩ := h
  rw [State.lookup, TagCache.lookup_of_hit party hwf hm, State.recent, TagCache.validWay_eq_some hwf hm]

theorem validLine_iff {tc : TagCache} {j : Nat} (hwf : setWf (tc.set j)) (line : TagLine) :
    tc.validLine j = some line ↔ ∃ way, (way, WayState.valid j line) ∈ tc.set j :=
  ⟨TagCache.mem_set_of_validLine, fun ⟨_, h⟩ => TagCache.validLine_eq_some hwf h⟩

theorem set_of_setOf {j k : Nat} (h : Machine.setOf k = Machine.setOf j) (tc : TagCache) : tc.set k = tc.set j := by
  simp [TagCache.set, h]

theorem putValid_set (tc : TagCache) (way j k : Nat) (line : TagLine) :
    (tc.putValid way j line).set k =
      if Machine.setOf k = Machine.setOf j then CacheSet.putRecent (tc.set j) way (.valid j line) else tc.set k :=
  putSet_set tc j k _

/-- The set of a line with its way made the most recent is the set in another order. -/
theorem putRecent_perm {tc : TagCache} {j way : Nat} {line : TagLine} (hwf : setWf (tc.set j))
    (hm : (way, WayState.valid j line) ∈ tc.set j) :
    (CacheSet.putRecent (tc.set j) way (.valid j line)).Perm (tc.set j) := by
  obtain ⟨older, newer, hs⟩ := List.append_of_mem hm
  have hnum := hwf.2.1
  rw [hs] at hnum ⊢
  rw [putRecent_append hnum, List.append_assoc]
  exact List.perm_append_comm.append_left older

theorem onlyRecency_recent {s : State} {j : Nat} {line : TagLine} (h : Cached s j line) :
    OnlyRecency s (s.recent j line) j := by
  obtain ⟨hwf, way, hm⟩ := h
  rw [State.recent, TagCache.validWay_eq_some hwf hm]
  refine ⟨rfl, rfl, rfl, rfl, fun k hk => ?_, ?_⟩
  · rw [State.setTc_tc, putValid_set, if_neg hk]
  · rw [State.setTc_tc, putValid_set, if_pos rfl]
    exact putRecent_perm hwf hm

/-- What only the recency order may have changed holds the same lines. -/
theorem cached_of_onlyRecency {s t : State} {j : Nat} (h : OnlyRecency s t j) {line : TagLine} (hc : Cached s j line) :
    Cached t j line := by
  obtain ⟨-, -, -, -, -, hp⟩ := h
  obtain ⟨hwf, way, hm⟩ := hc
  exact ⟨setWf_of_perm hwf hp, way, hp.mem_iff.2 hm⟩

theorem validLine_of_onlyRecency {s t : State} {j : Nat} (h : OnlyRecency s t j) (hwf : setWf (s.tc.set j)) (k : Nat) :
    t.tc.validLine k = s.tc.validLine k := by
  obtain ⟨-, -, -, -, hne, hp⟩ := h
  by_cases hk : Machine.setOf k = Machine.setOf j
  · have hs := set_of_setOf hk s.tc
    have ht := set_of_setOf hk t.tc
    ext line
    rw [validLine_iff (by rw [ht]; exact setWf_of_perm hwf hp), validLine_iff (by rw [hs]; exact hwf), ht, hs]
    simp only [hp.mem_iff]
  · have hset := hne k hk
    unfold TagCache.set at hset
    rw [TagCache.validLine, TagCache.validLine, hset]

theorem onlyRecency_of_tc {s s' t t' : State} {j : Nat} (hs : s'.tc = s.tc) (ht : t'.tc = t.tc)
    (h : OnlyRecency s t j) : OnlyRecency s' t' j := by
  simpa only [OnlyRecency, hs, ht] using h

theorem cached_of_tc {s t : State} {j : Nat} {line : TagLine} (ht : t.tc = s.tc) (h : Cached s j line) :
    Cached t j line := by
  simpa only [Cached, ht] using h

/-- A lookup of a line that no way holds VALID leaves its party waiting (R79). -/
theorem lookup_of_not_valid {s : State} {j : Nat} (h : ∀ x ∈ s.tc.set j, x.2.isValid j = false) (party : Party)
    (onHit : TagLine → State → State) (onWait : State → State) :
    s.lookup party j onHit onWait = onWait (s.setTc (s.tc.lookup party j).1) := by
  have hnone := s.tc.lookup_snd_eq_none (j := j) party fun way line hm => by simpa [WayState.isValid] using h _ hm
  unfold State.lookup
  split
  · next heq => simp [heq] at hnone
  · next heq => simp [heq]

/-! # Two states that rule alike -/

/-- Two states that hold alike what a decision reads and changes, ports aside. -/
structure RulesAlike (s t : State) : Prop where
  dram : t.dram = s.dram
  domains : t.domains = s.domains
  vl : t.vl = s.vl
  eu : t.eu = s.eu
  mc : t.mc = s.mc
  cp : t.cp = s.cp

theorem RulesAlike.setVl {s t : State} (h : RulesAlike s t) (x : Log) : RulesAlike (s.setVl x) (t.setVl x) := by
  constructor <;> simp [h.dram, h.domains, h.eu, h.mc, h.cp]

theorem RulesAlike.placeNotice {s t : State} (h : RulesAlike s t) (n : Notice) :
    RulesAlike (s.placeNotice n) (t.placeNotice n) := by
  rw [placeNotice_eq, placeNotice_eq]
  constructor <;> simp [h.dram, h.domains, h.vl, h.eu, h.mc, h.cp]

theorem RulesAlike.setEu {s t : State} (h : RulesAlike s t) (x : Events) : RulesAlike (s.setEu x) (t.setEu x) := by
  constructor <;> simp [h.dram, h.domains, h.vl, h.mc, h.cp]

theorem RulesAlike.setFlag {s t : State} (h : RulesAlike s t) (f : EventFlag) :
    RulesAlike (s.setFlag f) (t.setFlag f) := by
  unfold State.setFlag
  rw [h.eu, h.cp]
  split
  · exact h
  · dsimp only
    split
    · exact (h.setEu _).placeNotice _
    · exact h.setEu _

theorem RulesAlike.setFlagIf {s t : State} (h : RulesAlike s t) (b : Bool) (f : EventFlag) :
    RulesAlike (s.setFlagIf b f) (t.setFlagIf b f) := by
  cases b
  · exact h
  · exact h.setFlag f

theorem RulesAlike.logRecord {s t : State} (h : RulesAlike s t) (e : LogEvent) :
    RulesAlike (s.logRecord e) (t.logRecord e) := by
  unfold State.logRecord
  rw [h.vl, h.mc]
  exact ((h.setVl _).setFlagIf _ _).setFlagIf _ _

theorem RulesAlike.domain {s t : State} (h : RulesAlike s t) (d : DomainId) : t.domain d = s.domain d :=
  domain_of_domains h.domains d

theorem RulesAlike.setDomain {s t : State} (h : RulesAlike s t) (d : DomainId) (r : DomainRec) :
    RulesAlike (s.setDomain d r) (t.setDomain d r) := by
  constructor <;> simp [State.setDomain, h.dram, h.domains, h.vl, h.eu, h.mc, h.cp]

theorem RulesAlike.persistDomain {s t : State} (h : RulesAlike s t) (d : DomainId) :
    RulesAlike (s.persistDomain d) (t.persistDomain d) := by
  unfold State.persistDomain State.persistDomainLine
  rw [h.mc]
  split
  · exact h
  · constructor <;> simp [State.domainLine, h.domain, h.dram, h.domains, h.vl, h.eu, h.mc, h.cp]

theorem RulesAlike.countRefusal {s t : State} (h : RulesAlike s t) (d : DomainId) :
    RulesAlike (s.countRefusal d) (t.countRefusal d) := by
  unfold State.countRefusal
  rw [h.domain]
  dsimp only
  split
  · exact (h.setDomain d _).persistDomain d
  · exact h.setDomain d _

theorem RulesAlike.standingChange {s t : State} (h : RulesAlike s t) (d : DomainId) (old new : Standing) :
    RulesAlike (s.standingChange d old new) (t.standingChange d old new) := by
  have hrec : RulesAlike (s.standingRecord d new) (t.standingRecord d new) := by
    cases new with
    | good => exact h
    | warned => exact h
    | restricted => exact h.logRecord _
    | quarantined =>
      have hl := h.logRecord (.standing d .quarantined)
      unfold State.standingRecord
      dsimp only
      rw [hl.vl]
      split
      · exact hl.setVl _
      · exact hl
  unfold State.standingChange
  split
  · exact h
  · dsimp only
    split
    · exact hrec.setFlag _
    · exact hrec

theorem RulesAlike.ite {s t s' t' : State} {b : Bool} (h : RulesAlike s t) (k : RulesAlike s' t') :
    RulesAlike (if b then s else s') (if b then t else t') := by
  cases b
  · exact k
  · exact h

/-- Two states that rule alike, with the same watch entry on the port, still do after the ruling. -/
theorem RulesAlike.ruleEffects {s t : State} (h : RulesAlike s t) {p : Port}
    (hw : (t.port p).watchOn = (s.port p).watchOn ∧ (t.port p).watchGranule = (s.port p).watchGranule) (e : Entry)
    (r : Ruling) : RulesAlike (s.ruleEffects p e r) (t.ruleEffects p e r) := by
  have h1 : RulesAlike (s.scored e r) (t.scored e r) := (h.countRefusal _).ite h
  have h2 : RulesAlike ((s.scored e r).denied p e r) ((t.scored e r).denied p e r) := (h1.logRecord _).ite h1
  have h3 (old new : Standing) : RulesAlike (((s.scored e r).denied p e r).restood e r old new)
      (((t.scored e r).denied p e r).restood e r old new) := (h2.standingChange _ _ _).ite h2
  rw [State.ruleEffects_eq, State.ruleEffects_eq, h.domain, h1.domain]
  unfold State.watch
  simp only [State.restood_port, State.denied_port, State.scored_port, hw.1, hw.2]
  split
  · exact ((h3 _ _).logRecord _).setFlag _
  · exact h3 _ _

end Sys2Proof.Machine

namespace Sys2Proof.Machine

open Sys2Proof.Safety

/-! # Requests decided -/

@[simp] theorem ruleEffects_port (s : State) (p q : Port) (e : Entry) (r : Ruling) :
    (s.ruleEffects p e r).port q = s.port q := by
  cases q <;> simp

/-- What a ruling changes: the tables, the log and the flags by its effects, then the port, and TE of an orphan that is
removed (R64, R68, R72). -/
theorem applyRuling_eq (s : State) (p : Port) (e : Entry) (r : Ruling) :
    s.applyRuling p e r =
      let v := (s.ruleEffects p e r).updatePort p fun x => portDecides x e r.served r.reason
      if r.served = false ∧ e.orphan = true then v.snapshotRemove p e.tag else v := by
  unfold State.applyRuling State.serveEntry State.refuseEntry State.removeEntry
  cases hs : r.served with
  | true => simp [portDecides, PortRec.updateEntry]
  | false =>
    cases ho : e.orphan with
    | true => simp [portDecides, ho]
    | false => simp [portDecides, ho, PortRec.updateEntry, PortRec.respond, refusedOutcome_eq, and_comm]

theorem applyRuling_of_entered {s : State} {p : Port} {e : Entry} (ho : e.orphan = false) (r : Ruling) :
    s.applyRuling p e r = (s.ruleEffects p e r).updatePort p fun x => portDecides x e r.served r.reason := by
  simp [applyRuling_eq, ho]

theorem onlyChanges_ruleEffects (s : State) (p : Port) (e : Entry) (r : Ruling) :
    OnlyChanges [.domains, .dram, .vl, .eu, .cp] s (s.ruleEffects p e r) :=
  ⟨by simp, fun b hb => by cases b <;> simp_all [Block.same]⟩

/-- A ruling on an entry that is no orphan. -/
theorem onlyChanges_applyRuling {s : State} {p : Port} {e : Entry} (ho : e.orphan = false) (r : Ruling) :
    OnlyChanges [portBlock p, .domains, .dram, .vl, .eu, .cp] s (s.applyRuling p e r) := by
  rw [applyRuling_of_entered ho]
  exact onlyChanges_mono (onlyChanges_trans (onlyChanges_ruleEffects s p e r) (onlyChanges_updatePort _ p _)) (by simp)

/-- A ruling is made on the state in which its request was admitted, with its effects as from the state before. -/
theorem applyRuling_alike {s t : State} (h : RulesAlike s t) {p : Port}
    (hw : (t.port p).watchOn = (s.port p).watchOn ∧ (t.port p).watchGranule = (s.port p).watchGranule) {e : Entry}
    (ho : e.orphan = false) (r : Ruling) :
    let u := t.applyRuling p e r
    let v := s.ruleEffects p e r
    u.port p = portDecides (t.port p) e r.served r.reason ∧
      u.domains = v.domains ∧ u.dram = v.dram ∧ u.vl = v.vl ∧ u.eu = v.eu ∧ u.cp = v.cp := by
  obtain ⟨hdram, hdomains, hvl, heu, -, hcp⟩ := h.ruleEffects hw e r
  simp [applyRuling_of_entered ho, hdram, hdomains, hvl, heu, hcp]

/-- The state of an admitted request, with its entry in CHECKING and the link timer restarted (R141, R146). -/
def State.enters (s : State) (p : Port) (e : Entry) : State :=
  s.updatePort p fun r => { r with linkTimer := some r.timeoutCode, table := r.table ++ [e] }

theorem admission_of_admits {s : State} {p : Port} {t : ReqTag} (h : Admits s p t) : s.admission p t = none := by
  obtain ⟨-, -, hroom, htag, hmode, hpending⟩ := h
  have hmap := admission_step s p t
  have hany : ¬ ((s.port p).table.any fun e => e.tag == t) = true := by simpa using htag
  have hcfg : ¬ (s.mc.mode = .config ∨ s.mc.mode = .recovering) := by rcases hmode with h | h <;> simp [h]
  have hsus : ¬ (s.mc.pendingTarget = some .suspended ∨ s.mc.mode = .suspended) := by
    rcases hmode with h | h <;> simp [h, hpending]
  rw [if_neg (Nat.not_le.2 hroom), if_neg hany, if_neg hcfg, if_neg hsus] at hmap
  simpa using hmap.symm

theorem requestArrives_of_admits {s : State} {p : Port} {t : ReqTag} (h : Admits s p t) (d : DomainId) (op : Opcode)
    (n : LineNo) (data : List Byte) :
    s.requestArrives p t d op n data = (s.enters p (admitted (s.port p) t d op n data)).takeRequest p t := by
  have hup := h.2.1
  rw [requestArrives_of_up hup, State.takeIn, admission_restartTimer, admission_of_admits h]
  refine congrArg (fun x : State => x.takeRequest p t) ?_
  cases p <;> rfl

theorem entry_enters {s : State} {p : Port} {e : Entry} (h : Admits s p e.tag) :
    ((s.enters p e).port p).entry e.tag = some e := by
  obtain ⟨-, -, -, htag, -, -⟩ := h
  have hnone : (s.port p).table.find? (fun x => x.tag == e.tag) = none := by simpa using htag
  simp [State.enters, PortRec.entry, List.find?_append, hnone]

/-- A decision reads the mode controller and the two tables alone. -/
theorem decideRequest_congr {s t : State} (hmc : t.mc = s.mc) (hd : t.domains = s.domains) (hs : t.shares = s.shares)
    (e : Entry) (read : Option TagRec) : t.decideRequest e read = s.decideRequest e read := by
  have hdom := domain_of_domains hd
  have hshare (i : ShareIx) : t.share i = s.share i := by simp [State.share, hs]
  have hrights : t.applicableRights = s.applicableRights := by
    funext x tag
    cases tag <;> simp only [State.applicableRights, hshare]
  have htag : t.tagSteps = s.tagSteps := by
    funext m e tag
    unfold State.tagSteps
    rw [hrights, hdom]
  have hten : t.tenants = s.tenants := by rw [State.tenants, hmc, State.tenants]
  unfold State.decideRequest
  rw [hmc, hdom, htag, hten]

theorem decideRequest_tagged {s : State} (h : s.mc.mode = .enforce ∨ s.mc.mode = .monitor) (e : Entry) (r : TagRec) :
    ∃ x, s.decideRequest e (some r) = .ruled x := by
  rcases h with hm | hm
  · exact ⟨_, decideRequest_enforce_tagged hm e r⟩
  · exact ⟨_, decideRequest_monitor_tagged hm e r⟩

theorem decideRequest_ready {s : State} (h : s.mc.mode = .enforce ∨ s.mc.mode = .monitor) (e : Entry) :
    s.decideRequest e none ≠ .notReady := by
  obtain ⟨x, hx⟩ := decideRequest_tagged h e { tag := .free, generation := 0 }
  rcases h with hm | hm
  · rw [decideRequest_enforce_untagged hm e { tag := .free, generation := 0 }, hx]
    split <;> simp
  · rw [decideRequest_monitor_untagged hm e { tag := .free, generation := 0 }, hx]
    split <;> simp

theorem rulesAlike_enters (s : State) (p : Port) (e : Entry) : RulesAlike s (s.enters p e) := by
  constructor <;> simp [State.enters]

/-- CU takes an admitted request (R56, R60). -/
theorem takeRequest_enters {s : State} {p : Port} {e : Entry} (h : Admits s p e.tag) :
    (s.enters p e).takeRequest p e.tag =
      match s.decideRequest e none with
      | .ruled r => (s.enters p e).applyRuling p e r
      | .notReady => (s.enters p e).refuseEntry p e .notReady
      | .needTag => (s.enters p e).lookupRequest p e := by
  rw [State.takeRequest, entry_enters h,
    ← decideRequest_congr (s := s) (t := s.enters p e) (by simp [State.enters]) (by simp [State.enters])
      (by simp [State.enters])] <;> rfl

theorem onlyChanges_setTc (s : State) (tc : TagCache) : OnlyChanges [.tc] s (s.setTc tc) :=
  ⟨by simp, fun b hb => by cases b <;> simp_all [Block.same]⟩

theorem decideWithTag_of_ruled {s : State} {e : Entry} {line : TagLine} {r : Ruling}
    (h : s.decideRequest e (some (line.get (granuleOf e.lineNo % 4))) = .ruled r) (p : Port) :
    s.decideWithTag p e line = s.applyRuling p e r := by
  rw [State.decideWithTag, h]

theorem onlyChanges_enters (s : State) (p : Port) (e : Entry) : OnlyChanges [portBlock p] s (s.enters p e) :=
  onlyChanges_updatePort s p _

theorem enters_port (s : State) (p : Port) (e : Entry) : (s.enters p e).port p =
    { s.port p with linkTimer := some (s.port p).timeoutCode, table := (s.port p).table ++ [e] } := by
  simp [State.enters]

/-- Settles O21: an admitted request has its entry, and is ruled without its tag, with it, or waits. -/
theorem requestsDecided : Obligations.RequestsDecided := by
  intro s p tag domain line data c op hc hadmits n g e taken ruled
  have hexec : exec c s = .next ((s.enters p e).takeRequest p e.tag) := by
    refine Eq.trans ?_ (congrArg _ (requestArrives_of_admits hadmits (domain.setWidth 10) op n data))
    rcases hc with ⟨rfl, rfl, rfl⟩ | ⟨rfl, rfl, hd⟩
    · exact exec_requestRead hadmits.1 p tag domain line
    · exact exec_requestWrite hadmits.1 p tag domain line hd
  have hmode := hadmits.2.2.2.2.1
  have htaken : (s.enters p e).port p = taken := enters_port s p e
  have hruled (t : State) (r : Ruling) (ht : RulesAlike s t) (hp : t.port p = taken) : ruled (t.applyRuling p e r) r := by
    have h := applyRuling_alike (p := p) ht (by rw [hp]; exact ⟨rfl, rfl⟩) (e := e) rfl r
    rwa [hp] at h
  rw [takeRequest_enters hadmits] at hexec
  refine ⟨fun r hr => ?_, fun hr => ⟨fun recs hcached => ?_, fun hmiss => ?_⟩, decideRequest_ready hmode e⟩
  · rw [hr] at hexec
    exact ⟨_, hexec, onlyChanges_mono (onlyChanges_trans (onlyChanges_enters s p e) (onlyChanges_applyRuling rfl r))
      (by simp), hruled _ r (rulesAlike_enters s p e) htaken⟩
  · obtain ⟨r, hrule⟩ := decideRequest_tagged hmode e (recs.get (g % 4))
    have htc : (s.enters p e).tc = s.tc := by simp [State.enters]
    have hcached' : Cached (s.enters p e) (g / 4) recs := cached_of_tc htc hcached
    let v := (s.enters p e).recent (g / 4) recs
    have hrule' : v.decideRequest e (some (recs.get (g % 4))) = .ruled r :=
      (decideRequest_congr (by simp [v, State.enters]) (by simp [v, State.enters]) (by simp [v, State.enters]) e _).trans
        hrule
    have hlookup : (s.enters p e).lookupRequest p e = v.applyRuling p e r :=
      (lookup_of_cached hcached' _ _ _).trans (decideWithTag_of_ruled hrule' p)
    rw [hr] at hexec
    have halike : RulesAlike s v := by constructor <;> simp [v, State.enters]
    refine ⟨_, r, hexec.trans (congrArg _ hlookup), hrule, ?_, ?_, hruled v r halike (by simpa [v] using htaken)⟩
    · exact onlyChanges_mono (onlyChanges_trans (onlyChanges_trans (onlyChanges_enters s p e) (onlyChanges_recent _ _ _))
        (onlyChanges_applyRuling rfl r)) (by simp)
    · exact onlyRecency_of_tc htc.symm (by simp [v]) (onlyRecency_recent hcached')
  · have htc : (s.enters p e).tc = s.tc := by simp [State.enters]
    have hlookup : (s.enters p e).lookupRequest p e =
        (s.enters p e).setTc (s.tc.lookup (.request p (tag.setWidth 6)) (g / 4)).1 :=
      (lookup_of_not_valid (s := s.enters p e) (j := g / 4) (by rwa [htc]) _ _ _).trans (by rw [htc]; rfl)
    rw [hr] at hexec
    refine ⟨_, hexec.trans (congrArg _ hlookup), ?_, ?_, by simp⟩
    · exact onlyChanges_mono (onlyChanges_trans (onlyChanges_enters s p e) (onlyChanges_setTc _ _)) (by simp)
    · simpa using htaken

end Sys2Proof.Machine

namespace Sys2Proof.Machine

open Sys2Proof.Safety

/-! # Entries leave the drain snapshot -/

theorem cmdBecomes_of_table {s t t' : State} (ht : t'.te.table = t.te.table) (hc : t'.te.counter = t.te.counter)
    {k : Ticket} {c : Cmd} (h : CmdBecomes s t k c) : CmdBecomes s t' k c := by
  simpa only [CmdBecomes, State.cmd, ht, hc] using h

theorem snapshotLoses_of_te {s s' t t' : State} (hs : s'.te = s.te) (ht : t'.te = t.te) {xs : List (Port × ReqTag)}
    (h : SnapshotLoses s t xs) : SnapshotLoses s' t' xs := by
  simpa only [SnapshotLoses, CmdBecomes, State.cmd, hs, ht] using h

theorem snapshotLoses_of_none {s t : State} (h : s.te.current = none) (ht : t.te = s.te) (xs : List (Port × ReqTag)) :
    SnapshotLoses s t xs := by
  simp [SnapshotLoses, h, ht]

theorem snapshotLoses_nil (s : State) : SnapshotLoses s s [] := by
  unfold SnapshotLoses
  split
  · rfl
  · simp

/-- The snapshot of the engine's work `w` becomes `left`: the drain ends where nothing is left (R105). -/
def SnapshotBecomes (s t : State) (w : Work) (left : List (Port × ReqTag)) : Prop :=
  if left = w.snapshot then t.te = s.te
  else if left ≠ [] then t.te = { s.te with current := some { w with snapshot := left } }
  else
    ∀ c, s.cmd w.ticket = some c →
      CmdBecomes s t w.ticket { c with phase := .handoff } ∧
        t.te.current = some { w with snapshot := [], timer := none, cursor := c.command.start }

theorem snapshotLoses_iff {s t : State} {w : Work} (h : s.te.current = some w) (xs : List (Port × ReqTag)) :
    SnapshotLoses s t xs ↔ SnapshotBecomes s t w (w.snapshot.filter fun y => !xs.contains y) := by
  simp only [SnapshotLoses, h]
  rfl

theorem snapshotBecomes_same {s t : State} {w : Work} : SnapshotBecomes s t w w.snapshot ↔ t.te = s.te := by
  simp [SnapshotBecomes]

theorem snapshotBecomes_less {s t : State} {w : Work} {left : List (Port × ReqTag)} (h : left ≠ w.snapshot)
    (hn : left ≠ []) : SnapshotBecomes s t w left ↔ t.te = { s.te with current := some { w with snapshot := left } } := by
  simp [SnapshotBecomes, h, hn]

theorem snapshotBecomes_empty {s t : State} {w : Work} (h : w.snapshot ≠ []) :
    SnapshotBecomes s t w [] ↔ ∀ c, s.cmd w.ticket = some c →
      CmdBecomes s t w.ticket { c with phase := .handoff } ∧
        t.te.current = some { w with snapshot := [], timer := none, cursor := c.command.start } := by
  simp [SnapshotBecomes, h.symm]

theorem filter_not_contains_append (l xs ys : List (Port × ReqTag)) :
    (l.filter fun y => !(xs ++ ys).contains y) = (l.filter fun y => !xs.contains y).filter fun y => !ys.contains y := by
  rw [List.filter_filter]
  exact List.filter_congr fun y _ => by simp [Bool.and_comm]

theorem cmd_of_te {s t : State} (h : t.te.table = s.te.table) (k : Ticket) : t.cmd k = s.cmd k := by
  simp [State.cmd, h]

/-- The snapshot that has become `left` becomes a part of it. -/
theorem SnapshotBecomes.trans {s u t : State} {w : Work} {left ys : List (Port × ReqTag)} (hw : s.te.current = some w)
    (hsub : left.Sublist w.snapshot) (h : SnapshotBecomes s u w left) (k : SnapshotLoses u t ys) :
    SnapshotBecomes s t w (left.filter fun y => !ys.contains y) := by
  have hsub' : (left.filter fun y => !ys.contains y).Sublist left := List.filter_sublist
  by_cases h1 : left = w.snapshot
  · subst h1
    exact (snapshotLoses_iff hw ys).1 (snapshotLoses_of_te (snapshotBecomes_same.1 h).symm rfl k)
  have hne : (left.filter fun y => !ys.contains y) ≠ w.snapshot := fun he =>
    h1 (hsub.antisymm (he ▸ hsub'))
  by_cases h2 : left = []
  · subst h2
    rw [snapshotBecomes_empty (Ne.symm h1)] at h
    refine (snapshotBecomes_empty (Ne.symm h1)).2 fun c hc => ?_
    obtain ⟨hcmd, hcur⟩ := h c hc
    have hte : t.te = u.te := snapshotBecomes_same.1 ((snapshotLoses_iff hcur ys).1 k)
    exact ⟨cmdBecomes_of_table (congrArg _ hte) (congrArg _ hte) hcmd, hte ▸ hcur⟩
  · rw [snapshotBecomes_less h1 h2] at h
    have hcur : u.te.current = some { w with snapshot := left } := by rw [h]
    rw [snapshotLoses_iff hcur] at k
    dsimp only at k
    by_cases h3 : (left.filter fun y => !ys.contains y) = left
    · rw [h3] at k ⊢
      exact (snapshotBecomes_less h1 h2).2 ((snapshotBecomes_same.1 k).trans h)
    by_cases h4 : (left.filter fun y => !ys.contains y) = []
    · rw [h4, snapshotBecomes_empty h2] at k
      rw [h4]
      refine (snapshotBecomes_empty (by rw [← h4]; exact hne.symm)).2 fun c hc => ?_
      obtain ⟨⟨hc1, hc2, hc3⟩, hcur'⟩ := k c ((cmd_of_te (by rw [h]) _).trans hc)
      exact ⟨⟨hc1, hc2.trans (by rw [h]), fun j hj => (hc3 j hj).trans (cmd_of_te (by rw [h]) j)⟩, hcur'⟩
    · rw [snapshotBecomes_less h3 h4, h] at k
      exact (snapshotBecomes_less hne h4).2 k

theorem snapshotLoses_trans {s u t : State} {xs ys : List (Port × ReqTag)} (h : SnapshotLoses s u xs)
    (k : SnapshotLoses u t ys) : SnapshotLoses s t (xs ++ ys) := by
  cases hw : s.te.current with
  | none =>
    have hu : u.te = s.te := by simpa [SnapshotLoses, hw] using h
    have ht : t.te = u.te := by simpa [SnapshotLoses, hu, hw] using k
    exact snapshotLoses_of_none hw (ht.trans hu) _
  | some w =>
    rw [snapshotLoses_iff hw] at h ⊢
    rw [filter_not_contains_append]
    exact h.trans hw List.filter_sublist k

theorem endDrain_te (s : State) (k : Ticket) (start : Nat) :
    (s.endDrain k start).te = { s.te with
      table := s.te.table.map fun c => if c.ticket = k then { c with phase := .handoff } else c
      current := s.te.current.map fun w => { w with snapshot := [], timer := none, cursor := start } } := by
  simp [State.endDrain, State.updateCmd, State.updateWork]

theorem cmdBecomes_updateCmd {s : State} {k : Ticket} {c : Cmd} (hc : s.cmd k = some c) {f : Cmd → Cmd}
    (hf : ∀ c, (f c).ticket = c.ticket) : CmdBecomes s (s.updateCmd k f) k (f c) :=
  ⟨by simp [State.updateCmd_cmd _ _ _ _ hf, hc], by simp [State.updateCmd], fun j hj => by
    simp [State.updateCmd_cmd _ _ _ _ hf, hj]⟩

theorem snapshotLoses_snapshotRemove (s : State) (p : Port) (t : ReqTag) :
    SnapshotLoses s (s.snapshotRemove p t) [(p, t)] := by
  cases hw : s.te.current with
  | none => exact snapshotLoses_of_none hw (by simp [State.snapshotRemove, hw]) _
  | some w =>
    rw [snapshotLoses_iff hw]
    have hf : (w.snapshot.filter fun y => !([(p, t)].contains y)) = w.snapshot.filter fun y => y != (p, t) :=
      List.filter_congr fun y _ => by simp [bne, beq_eq_decide]
    rw [hf]
    by_cases hm : (p, t) ∈ w.snapshot
    · have hne : (w.snapshot.filter fun y => y != (p, t)) ≠ w.snapshot := fun he => by
        have := he ▸ hm
        simp at this
      by_cases hrest : (w.snapshot.filter fun y => y != (p, t)) = []
      · rw [hrest, snapshotBecomes_empty (by rw [← hrest]; exact hne.symm)]
        intro c hc
        have hu : s.snapshotRemove p t = s.endDrain w.ticket c.command.start := by
          simp only [State.snapshotRemove, hw]
          simp [hm, hrest, hc]
        rw [hu]
        exact ⟨cmdBecomes_of_table (by simp [State.endDrain, State.updateWork]) (by simp [State.endDrain, State.updateWork])
          (cmdBecomes_updateCmd hc (f := fun c => { c with phase := .handoff }) fun _ => rfl),
          by simp [endDrain_te, hw]⟩
      · rw [snapshotBecomes_less hne hrest]
        simp only [State.snapshotRemove, hw]
        simp [hm, hrest, State.updateWork, hw]
    · have hsame : (w.snapshot.filter fun y => y != (p, t)) = w.snapshot :=
        List.filter_eq_self.2 fun y hy => by
          simpa using fun he : y = (p, t) => hm (he ▸ hy)
      rw [hsame, snapshotBecomes_same]
      simp [State.snapshotRemove, hw, hm]

theorem onlyChanges_snapshotRemove (s : State) (p : Port) (t : ReqTag) : OnlyChanges [.te] s (s.snapshotRemove p t) :=
  ⟨by simp, fun b hb => by cases b <;> simp_all [Block.same]⟩

@[simp] theorem snapshotRemove_port (s : State) (p q : Port) (t : ReqTag) :
    (s.snapshotRemove p t).port q = s.port q := by
  cases q <;> simp

/-! ## The removal of entries -/

/-- The record of a port without the entry of a tag (R146). -/
def PortRec.without (r : PortRec) (t : ReqTag) : PortRec := { r with table := r.table.filter fun e => e.tag != t }

theorem removeEntry_eq (s : State) (p : Port) (t : ReqTag) :
    s.removeEntry p t = (s.updatePort p fun r => r.without t).snapshotRemove p t := rfl

theorem removeEntry_port (s : State) (p : Port) (t : ReqTag) :
    (s.removeEntry p t).port p = (s.port p).without t := by
  simp [removeEntry_eq]

theorem onlyChanges_removeEntry (s : State) (p : Port) (t : ReqTag) :
    OnlyChanges [portBlock p, .te] s (s.removeEntry p t) :=
  onlyChanges_trans (onlyChanges_updatePort s p _) (onlyChanges_snapshotRemove _ p t)

theorem snapshotLoses_removeEntry (s : State) (p : Port) (t : ReqTag) :
    SnapshotLoses s (s.removeEntry p t) [(p, t)] :=
  snapshotLoses_of_te (s := s.updatePort p fun r => r.without t) (by simp) rfl (snapshotLoses_snapshotRemove _ p t)

/-- Entries are removed one after the other. -/
def State.removeEntries (s : State) (p : Port) (ts : List ReqTag) : State := ts.foldl (fun s t => s.removeEntry p t) s

theorem removeEntries_port (s : State) (p : Port) (ts : List ReqTag) :
    (s.removeEntries p ts).port p = { s.port p with table := (s.port p).table.filter fun e => !ts.contains e.tag } := by
  induction ts generalizing s with
  | nil => simp [State.removeEntries]
  | cons t ts ih =>
    refine (ih (s.removeEntry p t)).trans ?_
    rw [removeEntry_port]
    simp only [PortRec.without, List.filter_filter]
    congr 2
    funext e
    simp [bne, beq_eq_decide, Bool.and_comm]

theorem onlyChanges_removeEntries (s : State) (p : Port) (ts : List ReqTag) :
    OnlyChanges [portBlock p, .te] s (s.removeEntries p ts) := by
  induction ts generalizing s with
  | nil => exact onlyChanges_mono (onlyChanges_refl s) (by simp)
  | cons t ts ih => exact onlyChanges_mono (onlyChanges_trans (onlyChanges_removeEntry s p t) (ih _)) (by simp)

theorem snapshotLoses_removeEntries (s : State) (p : Port) (ts : List ReqTag) :
    SnapshotLoses s (s.removeEntries p ts) (ts.map fun t => (p, t)) := by
  induction ts generalizing s with
  | nil => exact snapshotLoses_nil s
  | cons t ts ih => exact snapshotLoses_trans (snapshotLoses_removeEntry s p t) (ih _)

end Sys2Proof.Machine

namespace Sys2Proof.Machine

open Sys2Proof.Safety

/-! # Links that go UP and DOWN, and frames that are sent -/

theorem exec_announce {s : State} (h : s.mc.inReset = none) (p : Port) (limit poison : Byte) :
    exec (.announce p limit poison) s = .next (s.announce p limit.toNat (poison.getLsbD 0)) :=
  onEvent_of_no_reset h fun s => s.announce p limit.toNat (poison.getLsbD 0)

/-- The capability record that an ANNOUNCE loads, with its clamps (R139, R140). -/
theorem announced_eq (r : PortRec) (limit : Byte) (poison : Bool) :
    r.announced limit.toNat poison = if r.origin = .frozen then r else
      { r with
        tagLimit := if limit = 0 then 1 else if 64 < limit.toNat then 64 else limit.toNat
        poison := poison, origin := .announced } := by
  have hl : limit = 0 ↔ limit.toNat = 0 := by simp [BitVec.toNat_eq]
  have hclamp : max 1 (min limit.toNat 64) = if limit = 0 then 1 else if 64 < limit.toNat then 64 else limit.toNat := by
    split_ifs with h0 h64
    · rw [hl.1 h0]; rfl
    · omega
    · rw [hl] at h0; omega
  rw [PortRec.announced, hclamp]

theorem placeAck_of_empty {r : PortRec} (h : r.sendList = []) : r.placeAck = { r with sendList := [r.ackNow] } := by
  simp [PortRec.placeAck, h]

theorem placeAck_of_ack {r : PortRec} {head : SendItem} {rest : List SendItem} (h : r.sendList = head :: rest)
    (ha : head.isAck = true) : r.placeAck = { r with ackAgain := true } := by
  simp [PortRec.placeAck, h, ha]

theorem placeAck_of_other {r : PortRec} {head : SendItem} {rest : List SendItem} (h : r.sendList = head :: rest)
    (ha : head.isAck = false) : r.placeAck = { r with
      sendList := if ∃ i ∈ rest, i.isAck = true then head :: rest.map fun i => if i.isAck then r.ackNow else i
        else head :: rest ++ [r.ackNow] } := by
  simp only [PortRec.placeAck, h, ha, List.any_eq_true]
  split_ifs <;> simp_all

/-- An ANNOUNCE_ACK changes the send list and the mark of a further one, and no other field. -/
theorem placeAck_rest (r : PortRec) :
    { r.placeAck with sendList := [], ackAgain := false } = { r with sendList := [], ackAgain := false } := by
  unfold PortRec.placeAck
  split
  · rfl
  · split_ifs <;> rfl

/-- Settles O25: the record loaded is that of `announced_eq`, and what becomes of the send list is its acknowledgement's
three cases. -/
theorem announceLoadsCapability : Obligations.AnnounceLoadsCapability := by
  intro s p limit poison hr r loaded ack
  have hloaded : r.announced limit.toNat (poison.getLsbD 0) = loaded := announced_eq r limit _
  have hlists : loaded.sendList = r.sendList ∧ loaded.ackAgain = r.ackAgain ∧ loaded.timeoutCode = r.timeoutCode := by
    simp only [loaded]
    split_ifs <;> exact ⟨rfl, rfl, rfl⟩
  obtain ⟨hsend, hagain, htimeout⟩ := hlists
  rw [exec_announce hr, State.announce]
  refine ⟨fun hl => ?_, fun hl he => ?_, fun hl => ?_⟩
  · rw [show (s.port p).link = .disabled from hl]
  · rw [show (s.port p).link = .down from hl]
    refine ⟨_, rfl, onlyChanges_mono (onlyChanges_trans (onlyChanges_updatePort s p _) (onlyChanges_setFlag _ _)) (by simp),
      ?_, flagsSet_of_eu_eq (by simp) (flagsSet_setFlag _ _)⟩
    have hempty : ({ loaded with link := .up } : PortRec).restartTimer.sendList = [] := hsend.trans he
    rw [State.setFlag_port, State.updatePort_port, show (s.port p).announced _ _ = loaded from hloaded,
      placeAck_of_empty hempty, ← htimeout]
    rfl
  · rw [show (s.port p).link = .up from hl]
    refine ⟨_, rfl, onlyChanges_updatePort s p _, ?_, ?_⟩
    · rw [State.updatePort_port, placeAck_rest, show (s.port p).announced _ _ = loaded from hloaded, ← htimeout]
      rfl
    · rw [State.updatePort_port, show (s.port p).announced _ _ = loaded from hloaded]
      have hlist : loaded.restartTimer.sendList = r.sendList := hsend
      have hown : loaded.restartTimer.ackAgain = r.ackAgain := hagain
      split
      · next he =>
        rw [placeAck_of_empty (hlist.trans he)]
        exact ⟨rfl, hown⟩
      · next he =>
        rw [placeAck_of_ack (hlist.trans he) rfl]
        exact ⟨hlist, rfl⟩
      · next head rest hne he =>
        have ha : head.isAck = false := by
          cases head with
          | ack a b c => exact (hne a b c rfl).elim
          | _ => rfl
        rw [placeAck_of_other (hlist.trans he) ha]
        refine ⟨hown, ?_⟩
        split_ifs <;> rfl

/-! ## Going DOWN -/

theorem mem_answeredTags {r : PortRec} {t : ReqTag} : t ∈ r.answeredTags ↔ SendItem.response t ∈ r.sendList := by
  simp only [PortRec.answeredTags, List.mem_filterMap]
  constructor
  · rintro ⟨i, hi, h⟩
    cases i <;> simp_all
  · exact fun h => ⟨_, h, rfl⟩

theorem answeredIn_eq (s : State) (p : Port) : answeredIn s p = (s.port p).answeredTags.map fun t => (p, t) := by
  rw [answeredIn, PortRec.answeredTags, List.map_filterMap]
  congr 1
  funext i
  cases i <;> rfl

/-- The record of a link that has gone DOWN or DISABLED: the answered entries removed, the others orphans (R142). -/
theorem goneDown_without (r : PortRec) (dest : LinkState) :
    { r.goneDown dest with table := (r.goneDown dest).table.filter fun e => !r.answeredTags.contains e.tag } =
      downRecord r dest := by
  have hc (t : ReqTag) : r.answeredTags.contains t = r.sendList.contains (SendItem.response t) := by
    rw [Bool.eq_iff_iff, List.contains_iff_mem, List.contains_iff_mem, mem_answeredTags]
  simp only [PortRec.goneDown, downRecord, List.filter_map, hc]
  rfl

theorem goDown_eq (s : State) (p : Port) (dest : LinkState) :
    s.goDown p dest = ((s.updatePort p fun r => r.goneDown dest).removeEntries p (s.port p).answeredTags).setFlag
      (linkFlag p) := rfl

theorem goDown_port (s : State) (p : Port) (dest : LinkState) :
    (s.goDown p dest).port p = downRecord (s.port p) dest := by
  rw [goDown_eq, State.setFlag_port, removeEntries_port, State.updatePort_port, goneDown_without]

theorem onlyChanges_goDown (s : State) (p : Port) (dest : LinkState) :
    OnlyChanges [portBlock p, .te, .eu, .cp] s (s.goDown p dest) :=
  onlyChanges_mono (onlyChanges_trans (onlyChanges_trans (onlyChanges_updatePort s p _)
    (onlyChanges_removeEntries _ p _)) (onlyChanges_setFlag _ _)) (by simp)

theorem snapshotLoses_goDown (s : State) (p : Port) (dest : LinkState) :
    SnapshotLoses s (s.goDown p dest) (answeredIn s p) := by
  rw [answeredIn_eq, goDown_eq]
  exact snapshotLoses_of_te (by simp) (by simp)
    (snapshotLoses_removeEntries (s.updatePort p fun r => r.goneDown dest) p (s.port p).answeredTags)

theorem flagsSet_goDown (s : State) (p : Port) (dest : LinkState) : FlagsSet s (s.goDown p dest) [linkFlag p] := by
  have heu := (onlyChanges_removeEntries (s.updatePort p fun r => r.goneDown dest) p (s.port p).answeredTags).2 .eu
    (by cases p <;> simp [portBlock])
  exact flagsSet_of_eu_eq (Eq.trans heu (State.updatePort_eu s p _)) (flagsSet_setFlag _ (linkFlag p))

/-! ## The frame that is sent -/

theorem frameSent_of_response {s : State} {p : Port} {k : ReqTag} {rest : List SendItem}
    (h : (s.port p).sendList = .response k :: rest) :
    s.frameSent p = (s.updatePort p fun r => r.frameSent (.response k) rest).removeEntry p k := by
  simp only [State.frameSent, h]

theorem frameSent_of_other {s : State} {p : Port} {item : SendItem} {rest : List SendItem}
    (h : (s.port p).sendList = item :: rest) (hi : ∀ k, item ≠ .response k) :
    s.frameSent p = s.updatePort p fun r => r.frameSent item rest := by
  unfold State.frameSent
  rw [h]
  dsimp only
  split
  · next k => exact absurd rfl (hi k)
  · rfl

theorem frameSent_response {r : PortRec} {k : ReqTag} {e : Entry} {resp : Response} (he : r.entry k = some e)
    (hresp : e.response = some resp) (rest : List SendItem) :
    r.frameSent (.response k) rest = { r with
      sendList := rest, lastReason := if resp.reason = .none then r.lastReason else resp.reason } := by
  simp [PortRec.frameSent, PortRec.reasonSent, lastReasonAfter, SendItem.isAck, he, hresp]

theorem frameSent_refusal (r : PortRec) (k : ReqTag) (o : RespOutcome) (reason : Reason) (rest : List SendItem) :
    r.frameSent (.refusal k o reason) rest = { r with
      sendList := rest, lastReason := if reason = .none then r.lastReason else reason } := rfl

/-- After an acknowledgement the one that R140 owes is placed. -/
theorem frameSent_ack (r : PortRec) (n : Nat) (b : Bool) (o : Origin) (rest : List SendItem) :
    r.frameSent (.ack n b o) rest = { r with
      sendList := if r.ackAgain then rest ++ [.ack r.tagLimit r.poison r.origin] else rest, ackAgain := false } := by
  cases hagain : r.ackAgain <;> simp [PortRec.frameSent, PortRec.reasonSent, PortRec.ackNow, lastReasonAfter, hagain,
    SendItem.isAck]

/-- Settles O27: a link that goes DOWN is `goDown`, and of a frame that is sent each kind has its row. -/
theorem linkTimeoutAndFrameSent : Obligations.LinkTimeoutAndFrameSent := by
  refine ⟨fun s p hr hup ht => ⟨s.goDown p .down, ?_, onlyChanges_goDown s p .down, goDown_port s p .down,
    snapshotLoses_goDown s p .down, flagsSet_goDown s p .down⟩, fun s p item rest hr hup hs =>
    ⟨s.frameSent p, ?_, ?_⟩⟩
  · rw [exec, execLinkTimeout, onEvent_of_no_reset hr, if_pos ⟨hup, Option.isSome_iff_ne_none.2 ht⟩]
  · rw [exec, execLinkFrameSent, onEvent_of_no_reset hr, if_pos hup]
  · cases item with
    | response k =>
      rw [frameSent_of_response hs]
      refine ⟨onlyChanges_mono (onlyChanges_trans (onlyChanges_updatePort s p _) (onlyChanges_removeEntry _ p k))
        (by simp), snapshotLoses_of_te (by simp) rfl (snapshotLoses_removeEntry _ p k), fun e resp he hresp => ?_⟩
      rw [removeEntry_port, State.updatePort_port, frameSent_response he hresp]
      rfl
    | refusal k o reason =>
      rw [frameSent_of_other hs (by simp)]
      exact ⟨onlyChanges_updatePort s p _, by rw [State.updatePort_port, frameSent_refusal]⟩
    | ack n b o =>
      rw [frameSent_of_other hs (by simp)]
      exact ⟨onlyChanges_updatePort s p _, by rw [State.updatePort_port, frameSent_ack]⟩

end Sys2Proof.Machine

namespace Sys2Proof.Machine

open Sys2Proof.Safety

/-! # Completed writes -/

/-- The completion of a write changes no byte outside it. -/
theorem onlyBytesAt_complete (d : Dram) (a : Nat) (bs : List Byte) (o : MemOutcome) :
    OnlyBytesAt d (d.complete a bs o) a bs.length :=
  fun b hb => Dram.readByte_complete d a bs o b (by omega)

/-- A write that completes OK reads back, and changes no other byte. -/
theorem writesAt_complete_ok (d : Dram) (a : Nat) (bs : List Byte) : WritesAt d (d.complete a bs .ok) a bs := by
  refine ⟨?_, onlyBytesAt_complete d a bs .ok⟩
  refine List.ext_getElem (by simp [Dram.read]) fun i h1 h2 => ?_
  simp [Dram.read, Dram.complete, Dram.readByte_write, h2]

@[simp] theorem Dram.complete_persist (d : Dram) (a : Nat) (bs : List Byte) (o : MemOutcome) :
    (d.complete a bs o).persist = d.persist := by
  cases o <;> rfl

@[simp] theorem Dram.complete_selfRefresh (d : Dram) (a : Nat) (bs : List Byte) (o : MemOutcome) :
    (d.complete a bs o).selfRefresh = d.selfRefresh := by
  cases o <;> rfl

/-! # Served operations -/

/-- DRAM after a served operation: as before for a READ, with the data of a WRITE stored or its bytes open. -/
theorem served_dram (d : Dram) (e : Entry) (o : MemOutcome) :
    (e.op = .read → d.served e o = d) ∧
      (e.op = .write → OnlyBytesAt d (d.served e o) (64 * e.lineNo.toNat) e.data.length ∧
        (d.served e o).persist = d.persist ∧ (o = .ok → WritesAt d (d.served e o) (64 * e.lineNo.toNat) e.data)) := by
  refine ⟨fun h => by simp [Dram.served, h], fun h => ?_⟩
  have hs : d.served e o = d.complete (64 * e.lineNo.toNat) e.data o := by simp [Dram.served, h, lineAddress]
  rw [hs]
  refine ⟨onlyBytesAt_complete d _ _ o, by simp, ?_⟩
  rintro rfl
  exact writesAt_complete_ok d _ _

/-- An UNCORRECTABLE completion hands its DATA_POISON record over, and sets the flag (R70). -/
theorem handsOver_dataPoison (s : State) (p : Port) (e : Entry) :
    HandsOver s (s.dataPoison p e .uncorrectable)
      [.dataPoison p e.domain (granuleOf e.lineNo) (lineInGranule e.lineNo) e.op] [.dataPoison] :=
  (handsOver_logRecord s (by simp)).trans (handsOver_setFlag _ .dataPoison)

/-- What a completion leaves of VL, EU and the rest, before the response (R70). -/
def Poisons (s t : State) (p : Port) (e : Entry) : MemOutcome → Prop
  | .ok => OnlyChanges [.dram] s t
  | .uncorrectable =>
    OnlyChanges [.dram, .vl, .eu, .cp] s t ∧
      t.vl = storeEvent s.mc.timestamp s.vl
        (.dataPoison p e.domain (64 * e.lineNo.toNat / 4096) (64 * e.lineNo.toNat / 64 % 64) e.op) ∧
      FlagsSet s t ([.dataPoison] ++ storingFlags s t)

theorem onlyChanges_setDram (s : State) (d : Dram) : OnlyChanges [.dram] s (s.setDram d) :=
  ⟨by simp, fun b hb => by cases b <;> simp_all [Block.same]⟩

/-- The state of a completion before its response is formed. -/
def State.completed (s : State) (p : Port) (e : Entry) (o : MemOutcome) : State :=
  (s.setDram (s.dram.served e o)).dataPoison p e o

theorem poisons_completed (s : State) (p : Port) (e : Entry) (o : MemOutcome) : Poisons s (s.completed p e o) p e o := by
  cases o with
  | ok => exact onlyChanges_setDram s _
  | uncorrectable =>
    have h := handsOver_dataPoison (s.setDram (s.dram.served e .uncorrectable)) p e
    refine ⟨⟨by simp [State.completed], fun b hb => by cases b <;> simp_all [Block.same, State.completed]⟩, ?_, ?_⟩
    · exact h.log
    · exact flagsSet_of_eu_eq (State.setDram_eu s _) h.flags

@[simp] theorem completed_frame (s : State) (p : Port) (e : Entry) (o : MemOutcome) :
    (s.completed p e o).dram = s.dram.served e o ∧ (s.completed p e o).te = s.te ∧
      (s.completed p e o).portA = s.portA ∧ (s.completed p e o).portB = s.portB := by
  simp [State.completed]

@[simp] theorem completed_port (s : State) (p q : Port) (e : Entry) (o : MemOutcome) :
    (s.completed p e o).port q = s.port q := by
  cases q <;> simp

theorem operationDone_of_entered {s : State} {e : Entry} (h : e.orphan = false) (p : Port) (o : MemOutcome) :
    s.operationDone p e o = (s.completed p e o).updatePort p fun r =>
      r.respond e.tag (servedResponse r.poison e.op (s.dram.read (lineAddress e.lineNo) 64) o) :=
  if_neg (by simp [h])

theorem operationDone_of_orphan {s : State} {e : Entry} (h : e.orphan = true) (p : Port) (o : MemOutcome) :
    s.operationDone p e o = (s.completed p e o).removeEntry p e.tag := if_pos h

theorem exec_memoryOpComplete {s : State} {p : Port} {e : Entry} (hr : s.mc.inReset = none)
    (he : (s.port p).entry e.tag = some e) (hs : e.stage = .forwarded) (hn : e.response = none) (o : MemOutcome) :
    exec (.memoryOpComplete p e.tag o) s = .next (s.operationDone p e o).settleMode := by
  rw [exec, execMemoryOpComplete, onEvent_of_no_reset hr, he]
  exact congrArg _ (if_pos ⟨hs, hn⟩)

/-- The change of one entry of an outstanding table, its tag kept (R146). -/
theorem entry_updateEntry {r : PortRec} {t : ReqTag} {f : Entry → Entry} (hf : ∀ e, (f e).tag = e.tag) (k : ReqTag) :
    (r.updateEntry t f).entry k = if k = t then (r.entry t).map f else r.entry k := by
  have htag : ((fun e : Entry => e.tag == k) ∘ fun e => if e.tag = t then f e else e) = fun e => e.tag == k := by
    funext e
    simp only [Function.comp]
    split <;> simp [hf]
  simp only [PortRec.entry, PortRec.updateEntry, List.find?_map, htag]
  split_ifs with hk
  · subst hk
    cases hfind : r.table.find? (fun e => e.tag == k) with
    | none => rfl
    | some e =>
      have htk : e.tag = k := by simpa using List.find?_some hfind
      simp [htk]
  · cases hfind : r.table.find? (fun e => e.tag == k) with
    | none => rfl
    | some e =>
      have htk : e.tag = k := by simpa using List.find?_some hfind
      simp [htk, hk]

theorem entry_respond (r : PortRec) (t k : ReqTag) (resp : Response) :
    (r.respond t resp).entry k =
      if k = t then (r.entry t).map fun e => { e with response := some resp, data := [] } else r.entry k :=
  entry_updateEntry (r := r) (t := t) (f := fun e => { e with response := some resp, data := [] }) (fun _ => rfl) k

/-- The response of a served operation, by its outcome (R69, R70). -/
theorem servedResponse_eq (r : PortRec) (op : Opcode) (data : List Byte) (o : MemOutcome) :
    servedResponse r.poison op data o = match o with
      | .ok => { outcome := if op = .read then .data else .done, reason := .none
                 data := if op = .read then data else [] }
      | .uncorrectable => { outcome := if r.poison then .poison else .abort, reason := .dataError, data := [] } := by
  cases o <;> cases op <;> rfl

/-- What becomes of the other blocks with the port, and TE where an orphan leaves, is what `Poisons` says. -/
theorem Poisons.also {s t u : State} {p : Port} {e : Entry} {o : MemOutcome} {bs : List Block} (h : Poisons s t p e o)
    (hc : OnlyChanges bs t u) (hv : u.vl = t.vl) (he : u.eu = t.eu) :
    match o with
    | .ok => OnlyChanges (.dram :: bs) s u
    | .uncorrectable =>
      OnlyChanges ([.dram, .vl, .eu, .cp] ++ bs) s u ∧
        u.vl = storeEvent s.mc.timestamp s.vl
          (.dataPoison p e.domain (64 * e.lineNo.toNat / 4096) (64 * e.lineNo.toNat / 64 % 64) e.op) ∧
        FlagsSet s u ([.dataPoison] ++ storingFlags s u) := by
  cases o with
  | ok => exact onlyChanges_trans h hc
  | uncorrectable =>
    obtain ⟨honly, hvl, hflags⟩ := h
    refine ⟨onlyChanges_trans honly hc, hv.trans hvl, ?_⟩
    rw [storingFlags_congr (s := s) (t := t) rfl hv]
    exact ⟨he ▸ hflags.1, he ▸ hflags.2⟩

/-- Settles O24: DRAM and the log are as `completed` leaves them; then the response is formed, or the orphan removed. -/
theorem operationCompletes : Obligations.OperationCompletes := by
  refine ⟨fun s p e o hr he hs hn ho => ⟨_, exec_memoryOpComplete hr he hs hn o, ?_⟩,
    fun s p e o hr he hs hn ho => ⟨_, exec_memoryOpComplete hr he hs hn o, ?_⟩⟩
  · obtain ⟨hread, hwrite⟩ := served_dram s.dram e o
    have hpoisons := (poisons_completed s p e o).also (onlyChanges_updatePort (s.completed p e o) p fun r =>
      r.respond e.tag (servedResponse r.poison e.op (s.dram.read (lineAddress e.lineNo) 64) o)) (by simp) (by simp)
    rw [operationDone_of_entered ho]
    rw [State.updatePort_port, completed_port]
    refine ⟨?_, fun k hk => ?_, rfl, rfl, ?_, ?_, ?_⟩
    · rw [entry_respond, if_pos rfl, he, servedResponse_eq]
      rfl
    · rw [entry_respond, if_neg hk]
    · simpa using hread
    · simpa using hwrite
    · cases o with
      | ok => exact onlyChanges_mono hpoisons (by simp)
      | uncorrectable => exact ⟨onlyChanges_mono hpoisons.1 (by simp), hpoisons.2⟩
  · obtain ⟨hread, hwrite⟩ := served_dram s.dram e o
    have honly := onlyChanges_removeEntry (s.completed p e o) p e.tag
    have hpoisons := (poisons_completed s p e o).also honly (by simp) (by simp)
    rw [operationDone_of_orphan ho]
    refine ⟨?_, ?_, ?_, ?_, ?_⟩
    · rw [removeEntry_port, completed_port]
      rfl
    · exact snapshotLoses_of_te (by simp) rfl (snapshotLoses_removeEntry _ p e.tag)
    · simpa using hread
    · simpa using hwrite
    · cases o with
      | ok => exact onlyChanges_mono hpoisons (by simp)
      | uncorrectable => exact ⟨onlyChanges_mono hpoisons.1 (by simp), hpoisons.2⟩

end Sys2Proof.Machine

namespace Sys2Proof.Machine

open Sys2Proof.Safety

/-! # PORT_SET

Each port that the selector names is changed on its own; what one change leaves is stated for one port, and the two
follow one another. -/

/-- The record of a port with its enable changed, and its link with it (R138, R142). -/
def PortRec.enabledBy (r : PortRec) (f : List Byte) : PortRec :=
  if setAlone f 0 = true ∧ r.enabled = false then { r with enabled := true, link := .down }
  else if clearAlone f 0 = true ∧ r.enabled = true then
    if r.link = .up then downRecord { r with enabled := false } .disabled
    else { r with enabled := false, link := .disabled }
  else r

/-- Whether a PORT_SET disables a port whose link is UP (R142). -/
def PortRec.cutBy (r : PortRec) (f : List Byte) : Bool := clearAlone f 0 && r.enabled && decide (r.link = .up)

/-- Whether a PORT_SET enables or disables a port (R138). -/
def PortRec.toggledBy (r : PortRec) (f : List Byte) : Bool :=
  (setAlone f 0 && !r.enabled) || (clearAlone f 0 && r.enabled)

/-- The record of a port after a PORT_SET (R150 to R152, R154). -/
def PortRec.setBy (r : PortRec) (f : List Byte) : PortRec :=
  ((((r.enabledBy f).setAperture f).setWatch f).setFreeze f).setTimeout f

/-- A flag is not both set alone and cleared alone. -/
theorem clearAlone_of_setAlone {f : List Byte} {i : Nat} (h : setAlone f i = true) : clearAlone f i = false := by
  simp_all [setAlone, clearAlone]

/-- What a change of one port leaves: its record, the drain snapshot, the link flag, and of the control port what the
EVENT notice of that flag may change. -/
structure PortChanged (s u : State) (p : Port) (x : PortRec) (lost : List (Port × ReqTag)) (fs : List EventFlag) :
    Prop where
  only : OnlyChanges [portBlock p, .te, .eu, .cp] s u
  port : u.port p = x
  lost : SnapshotLoses s u lost
  flags : FlagsSet s u fs
  cp : u.cp.inbound = s.cp.inbound ∧ u.cp.executing = s.cp.executing ∧ u.cp.replies = s.cp.replies

theorem portChanged_updatePort (s : State) (p : Port) (g : PortRec → PortRec) :
    PortChanged s (s.updatePort p g) p (g (s.port p)) [] [] :=
  ⟨onlyChanges_mono (onlyChanges_updatePort s p g) (by simp), by simp,
    snapshotLoses_of_te rfl (by simp) (snapshotLoses_nil s), flagsSet_of_eu_eq (by simp) (flagsSet_refl _), by simp⟩

theorem portChanged_toggle (s : State) (p : Port) (g : PortRec → PortRec) :
    PortChanged s ((s.updatePort p g).setFlag (linkFlag p)) p (g (s.port p)) [] [linkFlag p] :=
  ⟨onlyChanges_mono (onlyChanges_trans (onlyChanges_updatePort s p g) (onlyChanges_setFlag _ _)) (by simp), by simp,
    snapshotLoses_of_te rfl (by simp) (snapshotLoses_nil s), flagsSet_of_eu_eq (by simp) (flagsSet_setFlag _ _), by simp⟩

theorem portChanged_goDown (s : State) (p : Port) (dest : LinkState) :
    PortChanged s (s.goDown p dest) p (downRecord (s.port p) dest) (answeredIn s p) [linkFlag p] :=
  ⟨onlyChanges_goDown s p dest, goDown_port s p dest, snapshotLoses_goDown s p dest, flagsSet_goDown s p dest, by simp⟩

theorem PortChanged.trans {s u v : State} {p : Port} {x y : PortRec} {xs ys : List (Port × ReqTag)}
    {fs gs : List EventFlag} (h : PortChanged s u p x xs fs) (k : PortChanged u v p y ys gs) :
    PortChanged s v p y (xs ++ ys) (fs ++ gs) :=
  ⟨onlyChanges_mono (onlyChanges_trans h.only k.only) (by simp), k.port, snapshotLoses_trans h.lost k.lost,
    flagsSet_trans h.flags k.flags, k.cp.1.trans h.cp.1, k.cp.2.1.trans h.cp.2.1, k.cp.2.2.trans h.cp.2.2⟩

theorem portChanged_setEnable (s : State) (p : Port) (f : List Byte) :
    PortChanged s (s.setEnable p f) p ((s.port p).enabledBy f)
      (if (s.port p).cutBy f then answeredIn s p else []) (if (s.port p).toggledBy f then [linkFlag p] else []) := by
  unfold State.setEnable PortRec.enabledBy PortRec.cutBy PortRec.toggledBy
  by_cases h1 : setAlone f 0 = true ∧ (s.port p).enabled = false
  · have hc := clearAlone_of_setAlone h1.1
    simp only [h1, hc, and_self, if_true, Bool.false_and, Bool.not_false, Bool.and_self, Bool.or_false,
      Bool.false_eq_true, if_false]
    exact portChanged_toggle s p _
  have ht : (setAlone f 0 && !(s.port p).enabled) = false := by simpa using h1
  rw [if_neg h1, if_neg h1]
  by_cases h2 : clearAlone f 0 = true ∧ (s.port p).enabled = true
  · simp only [h2, and_self, if_true, Bool.and_self, Bool.true_and, Bool.or_true, decide_eq_true_eq]
    by_cases hup : (s.port p).link = .up
    · simp only [if_pos hup]
      have h := (portChanged_updatePort s p fun r => { r with enabled := false }).trans (portChanged_goDown _ p .disabled)
      simpa [answeredIn] using h
    · simp only [if_neg hup]
      have h := (portChanged_updatePort s p fun r => { r with enabled := false }).trans
        (portChanged_toggle _ p fun r => { r with link := .disabled })
      simpa using h
  · have hc : (clearAlone f 0 && (s.port p).enabled) = false := by simpa using h2
    simp only [h2, ht, hc, if_false, Bool.false_and, Bool.or_self, Bool.false_eq_true]
    exact ⟨onlyChanges_mono (onlyChanges_refl s) (by simp), rfl, snapshotLoses_nil s, flagsSet_refl s, rfl, rfl, rfl⟩

theorem portChanged_setOnePort (s : State) (p : Port) (f : List Byte) :
    PortChanged s (s.setOnePort f p) p ((s.port p).setBy f)
      (if (s.port p).cutBy f then answeredIn s p else []) (if (s.port p).toggledBy f then [linkFlag p] else []) := by
  have h := (portChanged_setEnable s p f).trans (portChanged_updatePort (s.setEnable p f) p fun r =>
    (((r.setAperture f).setWatch f).setFreeze f).setTimeout f)
  rw [List.append_nil, List.append_nil, (portChanged_setEnable s p f).port] at h
  exact h

/-! ## The ports that the selector names -/

/-- Port A is changed, where it is named, and then port B (R154). -/
def State.setNamed (s : State) (f : List Byte) (named : Port → Bool) : State :=
  let u := if named .a then s.setOnePort f .a else s
  if named .b then u.setOnePort f .b else u

/-- The state after the changes of a PORT_SET, before its reply. -/
structure PortsChanged (s u : State) (f : List Byte) (named : Port → Bool) : Prop where
  only : OnlyChanges [.portA, .portB, .te, .eu, .cp] s u
  port : ∀ p, u.port p = if named p then (s.port p).setBy f else s.port p
  lost : SnapshotLoses s u (([Port.a, .b].filter fun p => named p && (s.port p).cutBy f).flatMap (answeredIn s))
  flags : FlagsSet s u (([Port.a, .b].filter fun p => named p && (s.port p).toggledBy f).map linkFlag)
  cp : u.cp.inbound = s.cp.inbound ∧ u.cp.executing = s.cp.executing ∧ u.cp.replies = s.cp.replies

theorem portChanged_ite (s : State) (p : Port) (f : List Byte) (b : Bool) :
    PortChanged s (if b then s.setOnePort f p else s) p (if b then (s.port p).setBy f else s.port p)
      (if b && (s.port p).cutBy f then answeredIn s p else []) (if b && (s.port p).toggledBy f then [linkFlag p] else []) := by
  cases b
  · exact ⟨onlyChanges_mono (onlyChanges_refl s) (by simp), rfl, snapshotLoses_nil s, flagsSet_refl s, rfl, rfl, rfl⟩
  · simpa using portChanged_setOnePort s p f

theorem flatMap_ports {β : Type} (q : Port → Bool) (g : Port → List β) :
    ([Port.a, .b].filter q).flatMap g = (if q .a then g .a else []) ++ if q .b then g .b else [] := by
  cases ha : q .a <;> cases hb : q .b <;> simp [ha, hb]

theorem map_ports {β : Type} (q : Port → Bool) (g : Port → β) :
    ([Port.a, .b].filter q).map g = (if q .a then [g .a] else []) ++ if q .b then [g .b] else [] := by
  cases ha : q .a <;> cases hb : q .b <;> simp [ha, hb]

theorem portsChanged_setNamed (s : State) (f : List Byte) (named : Port → Bool) :
    PortsChanged s (s.setNamed f named) f named := by
  have ha := portChanged_ite s .a f (named .a)
  have hb := portChanged_ite (if named .a then s.setOnePort f .a else s) .b f (named .b)
  have hkeep : (if named .a then s.setOnePort f .a else s).portB = s.portB := ha.only.2 .portB (by simp [portBlock])
  have hkeep' : (s.setNamed f named).portA = (if named .a then s.setOnePort f .a else s).portA :=
    hb.only.2 .portA (by simp [portBlock])
  have hanswered : answeredIn (if named .a then s.setOnePort f .a else s) .b = answeredIn s .b := by
    simp [answeredIn, hkeep]
  rw [State.port_b, hkeep, hanswered] at hb
  refine ⟨onlyChanges_mono (onlyChanges_trans ha.only hb.only) (by simp [portBlock]), fun p => ?_, ?_, ?_,
    hb.cp.1.trans ha.cp.1, hb.cp.2.1.trans ha.cp.2.1, hb.cp.2.2.trans ha.cp.2.2⟩
  · cases p with
    | a => exact hkeep'.trans ha.port
    | b => exact hb.port
  · have h := snapshotLoses_trans ha.lost hb.lost
    rw [flatMap_ports]
    exact h
  · have h := flagsSet_trans ha.flags hb.flags
    rw [map_ports]
    exact h

/-! ## The message -/

/-- Whether a selector names a port (R154). -/
def namedBy (sel : Byte) (p : Port) : Bool := sel = 2 || sel = portCode p

theorem foldl_setOnePort (s : State) (f : List Byte) (named : Port → Bool) :
    ([Port.a, .b].filter named).foldl (fun s p => s.setOnePort f p) s = s.setNamed f named := by
  cases ha : named .a <;> cases hb : named .b <;> simp [State.setNamed, ha, hb]

/-- A selector above 2 names no port (R154). -/
theorem portsOf_eq (b : Byte) :
    portsOf b = if 2 < b.toNat then none else some ([Port.a, .b].filter (namedBy b)) := by
  unfold portsOf namedBy
  split
  · next h => rw [show b = 0 by simp [BitVec.toNat_eq, h]]; rfl
  · next h => rw [show b = 1 by simp [BitVec.toNat_eq, h]]; rfl
  · next h => rw [show b = 2 by simp [BitVec.toNat_eq, h]]; rfl
  · next h0 h1 h2 =>
    rw [imp_false] at h0 h1 h2
    rw [if_pos (by omega)]

/-- The body of a PORT_SET (Request bodies). -/
def portSetBody (seq sel set clr timeout limit poison : Byte) (first last watch : BitVec 32) : List Byte :=
  [0x40, seq, sel, set, clr] ++ beBytes 4 first.toNat ++ beBytes 4 last.toNat ++ beBytes 4 watch.toNat ++
    [timeout, limit, poison]

section
variable (seq sel set clr timeout limit poison : Byte) (first last watch : BitVec 32)

theorem portSetBody_bytes :
    let f := portSetBody seq sel set clr timeout limit poison first last watch
    param8 f 0 = sel ∧ param8 f 1 = set ∧ param8 f 2 = clr ∧ param8 f 15 = timeout ∧ param8 f 16 = limit ∧
      param8 f 17 = poison :=
  ⟨rfl, rfl, rfl, rfl, rfl, rfl⟩

theorem portSetBody_words :
    let f := portSetBody seq sel set clr timeout limit poison first last watch
    param32 f 3 = first.toNat ∧ param32 f 7 = last.toNat ∧ param32 f 11 = watch.toNat := by
  refine ⟨param32_eq (pre := [0x40, seq, sel, set, clr]) (post := beBytes 4 last.toNat ++ (beBytes 4 watch.toNat ++
      [timeout, limit, poison])) first ?_ rfl,
    param32_eq (pre := [0x40, seq, sel, set, clr] ++ beBytes 4 first.toNat) (post := beBytes 4 watch.toNat ++
      [timeout, limit, poison]) last ?_ rfl,
    param32_eq (pre := [0x40, seq, sel, set, clr] ++ beBytes 4 first.toNat ++ beBytes 4 last.toNat)
      (post := [timeout, limit, poison]) watch ?_ rfl⟩ <;> simp only [portSetBody, List.append_assoc]

/-- Orders 3 to 7 of the checks, on the parameters of the body (R154). -/
theorem portSetBad_iff (s : State) :
    let f := portSetBody seq sel set clr timeout limit poison first last watch
    s.portSetBad f = true ↔ 16 ≤ set.toNat ∨ 16 ≤ clr.toNat ∨ (3 < timeout.toNat ∧ timeout ≠ 0xFF) ∨
      (setAlone f 1 = true ∧ (last.toNat < first.toNat ∨ s.tenants ≤ last.toNat)) ∨
      (setAlone f 2 = true ∧ 268435455 < watch.toNat) ∨
      (setAlone f 3 = true ∧ (limit.toNat < 1 ∨ 64 < limit.toNat ∨ 1 < poison.toNat)) := by
  intro f
  obtain ⟨-, h1, h2, h15, h16, h17⟩ := portSetBody_bytes seq sel set clr timeout limit poison first last watch
  obtain ⟨hf, hl, hw⟩ := portSetBody_words seq sel set clr timeout limit poison first last watch
  have hlimit : (limit = 0) ↔ limit.toNat < 1 := by simp [BitVec.toNat_eq]
  have hyes : (yesNoOf poison).isNone = true ↔ 1 < poison.toNat := by rw [yesNoOf_eq]; split_ifs with h <;> simp [h]
  simp only [f, State.portSetBad, h1, h2, h15, h16, h17, hf, hl, hw, Bool.or_eq_true, Bool.and_eq_true, decide_eq_true_eq,
    bne_iff_ne, beq_iff_eq, hlimit, hyes, Config.maxGranule, Nat.succ_le_iff, or_assoc]

/-- The refusal of a PORT_SET (R154). -/
def portSetRefusal (s : State) (sel set clr timeout limit poison : Byte) (first last watch : BitVec 32) :
    Option Status :=
  let on (i : Nat) : Bool := set.getLsbD i && !clr.getLsbD i
  if s.mc.mode = .recovering then some .wrongMode
  else if 2 < sel.toNat then some .badPort
  else if 16 ≤ set.toNat ∨ 16 ≤ clr.toNat ∨ (3 < timeout.toNat ∧ timeout ≠ 0xFF) ∨
      (on 1 = true ∧ (last.toNat < first.toNat ∨ s.tenants ≤ last.toNat)) ∨
      (on 2 = true ∧ 268435455 < watch.toNat) ∨
      (on 3 = true ∧ (limit.toNat < 1 ∨ 64 < limit.toNat ∨ 1 < poison.toNat)) then some .badValue
  else none

/-- PORT_SET goes through its checks to a refusal, or to the changes of the ports named and its reply (R154). -/
theorem portSet_checked {s : State} {rest : List (List Byte)}
    (h : Begins s (portSetBody seq sel set clr timeout limit poison first last watch) rest) :
    let f := portSetBody seq sel set clr timeout limit poison first last watch
    execPortSet s = .next (s.refuseOr (portSetRefusal s sel set clr timeout limit poison first last watch)
      ((s.setNamed f (namedBy sel)).answer .ok []).settleMode) := by
  intro f
  refine (onMessage_of_begins (kind := 0x40) h rfl rfl _).trans (congrArg _ ?_)
  have hbad := portSetBad_iff seq sel set clr timeout limit poison first last watch s
  rw [show param8 (portSetBody seq sel set clr timeout limit poison first last watch) 0 = sel from rfl, portsOf_eq]
  unfold portSetRefusal
  by_cases hm : s.mc.mode = .recovering
  · simp [hm]
  by_cases hsel : 2 < sel.toNat
  · simp [hm, hsel]
  simp only [hm, hsel, if_false, foldl_setOnePort, State.refuseOr_ite, State.refuseOr_some, State.refuseOr_none]
  exact if_congr hbad rfl rfl

end

/-! ## The record of a port that a PORT_SET names -/

theorem setAperture_eq (r : PortRec) (f : List Byte) : r.setAperture f = { r with
    apertureOn := if setAlone f 1 then true else if clearAlone f 1 then false else r.apertureOn
    apertureFirst := if setAlone f 1 then param32 f 3 else r.apertureFirst
    apertureLast := if setAlone f 1 then param32 f 7 else r.apertureLast } := by
  unfold PortRec.setAperture
  split_ifs <;> rfl

theorem setWatch_eq (r : PortRec) (f : List Byte) : r.setWatch f = { r with
    watchOn := if setAlone f 2 then true else if clearAlone f 2 then false else r.watchOn
    watchGranule := if setAlone f 2 then param32 f 11 else r.watchGranule } := by
  unfold PortRec.setWatch
  split_ifs <;> rfl

theorem setFreeze_eq (r : PortRec) (f : List Byte) : r.setFreeze f = { r with
    tagLimit := if setAlone f 3 then (param8 f 16).toNat else r.tagLimit
    poison := if setAlone f 3 then decide (param8 f 17 = 1) else r.poison
    origin := if setAlone f 3 then .frozen else if clearAlone f 3 = true ∧ r.origin = .frozen then .none
      else r.origin } := by
  have hyes : (yesNoOf (param8 f 17)).getD false = decide (param8 f 17 = 1) := by
    rw [yesNoOf_eq]
    split_ifs with h
    · have h1 : param8 f 17 ≠ 1 := fun he => by rw [he] at h; exact absurd h (by decide)
      exact (decide_eq_false h1).symm
    · rfl
  unfold PortRec.setFreeze
  rw [hyes]
  split_ifs <;> rfl

theorem setTimeout_eq (r : PortRec) (f : List Byte) : r.setTimeout f = { r with
    timeoutCode := if param8 f 15 = 0xFF then r.timeoutCode else (param8 f 15).toNat } := by
  unfold PortRec.setTimeout
  split_ifs <;> rfl

/-- The fields that a PORT_SET's enable leaves to the others: all but the state of the link and what goes with it. -/
theorem enabledBy_rest (r : PortRec) (f : List Byte) :
    let x := r.enabledBy f
    x.tagLimit = r.tagLimit ∧ x.poison = r.poison ∧ x.origin = r.origin ∧ x.timeoutCode = r.timeoutCode ∧
      x.apertureOn = r.apertureOn ∧ x.apertureFirst = r.apertureFirst ∧ x.apertureLast = r.apertureLast ∧
      x.watchOn = r.watchOn ∧ x.watchGranule = r.watchGranule ∧ x.lastReason = r.lastReason := by
  intro x
  simp only [x, PortRec.enabledBy]
  split_ifs <;> exact ⟨rfl, rfl, rfl, rfl, rfl, rfl, rfl, rfl, rfl, rfl⟩

/-- The enable and the link after a PORT_SET, and the table and lists of a link that is cut (R138, R142). -/
theorem enabledBy_link (r : PortRec) (f : List Byte) :
    let x := r.enabledBy f
    x.enabled = (if setAlone f 0 then true else if clearAlone f 0 then false else r.enabled) ∧
      x.link = (if setAlone f 0 = true ∧ r.enabled = false then .down
        else if clearAlone f 0 = true ∧ r.enabled = true then .disabled else r.link) ∧
      if clearAlone f 0 = true ∧ r.enabled = true ∧ r.link = .up then
        (x.table, x.sendList, x.ackAgain, x.integrity, x.linkTimer) = ((downRecord r .disabled).table, [], false, 0, none)
      else
        (x.table, x.sendList, x.ackAgain, x.integrity, x.linkTimer) =
          (r.table, r.sendList, r.ackAgain, r.integrity, r.linkTimer) := by
  intro x
  by_cases h1 : setAlone f 0 = true ∧ r.enabled = false
  · have hc := clearAlone_of_setAlone h1.1
    have hx : x = { r with enabled := true, link := .down } := if_pos h1
    simp [hx, h1, hc]
  by_cases h2 : clearAlone f 0 = true ∧ r.enabled = true
  · have hs : setAlone f 0 = false := Bool.eq_false_iff.2 fun hs => by
      simp [clearAlone_of_setAlone hs] at h2
    by_cases hup : r.link = .up
    · have hx : x = downRecord { r with enabled := false } .disabled := by
        simp only [x, PortRec.enabledBy, if_neg h1, if_pos h2, if_pos hup]
      refine ⟨?_, ?_, ?_⟩
      · rw [hx, hs, h2.1]; rfl
      · rw [hx, if_neg h1, if_pos h2]; rfl
      · have hcut : clearAlone f 0 = true ∧ r.enabled = true ∧ r.link = .up := ⟨h2.1, h2.2, hup⟩
        rw [if_pos hcut, hx]; rfl
    · have hx : x = { r with enabled := false, link := .disabled } := by
        simp only [x, PortRec.enabledBy, if_neg h1, if_pos h2, if_neg hup]
      refine ⟨?_, ?_, ?_⟩
      · rw [hx, hs, h2.1]; rfl
      · rw [hx, if_neg h1, if_pos h2]
      · have hcut : ¬ (clearAlone f 0 = true ∧ r.enabled = true ∧ r.link = .up) := fun h => hup h.2.2
        rw [if_neg hcut, hx]
  · have hx : x = r := by simp only [x, PortRec.enabledBy, if_neg h1, if_neg h2]
    refine ⟨?_, ?_, ?_⟩
    · rw [hx]
      split_ifs with hs hc
      · simpa [hs] using h1
      · simpa [hc] using h2
      · rfl
    · rw [hx, if_neg h1, if_neg h2]
    · have hcut : ¬ (clearAlone f 0 = true ∧ r.enabled = true ∧ r.link = .up) := fun h => h2 ⟨h.1, h.2.1⟩
      rw [if_neg hcut, hx]

/-- The effects of a PORT_SET on a port that it names, field by field (R150 to R152, R154). -/
theorem setBy_fields (r : PortRec) (f : List Byte) :
    let x := r.setBy f
    x.enabled = (if setAlone f 0 then true else if clearAlone f 0 then false else r.enabled) ∧
      x.link = (if setAlone f 0 = true ∧ r.enabled = false then .down
        else if clearAlone f 0 = true ∧ r.enabled = true then .disabled else r.link) ∧
      (x.apertureOn, x.apertureFirst, x.apertureLast) =
        (if setAlone f 1 then (true, param32 f 3, param32 f 7)
         else if clearAlone f 1 then (false, r.apertureFirst, r.apertureLast)
         else (r.apertureOn, r.apertureFirst, r.apertureLast)) ∧
      (x.watchOn, x.watchGranule) =
        (if setAlone f 2 then (true, param32 f 11) else if clearAlone f 2 then (false, r.watchGranule)
         else (r.watchOn, r.watchGranule)) ∧
      (x.tagLimit, x.poison, x.origin) =
        (if setAlone f 3 then ((param8 f 16).toNat, decide (param8 f 17 = 1), Origin.frozen)
         else if clearAlone f 3 = true ∧ r.origin = .frozen then (r.tagLimit, r.poison, Origin.none)
         else (r.tagLimit, r.poison, r.origin)) ∧
      x.timeoutCode = (if param8 f 15 = 0xFF then r.timeoutCode else (param8 f 15).toNat) ∧
      x.lastReason = r.lastReason ∧
      if clearAlone f 0 = true ∧ r.enabled = true ∧ r.link = .up then
        (x.table, x.sendList, x.ackAgain, x.integrity, x.linkTimer) = ((downRecord r .disabled).table, [], false, 0, none)
      else
        (x.table, x.sendList, x.ackAgain, x.integrity, x.linkTimer) =
          (r.table, r.sendList, r.ackAgain, r.integrity, r.linkTimer) := by
  obtain ⟨hen, hlink, hlists⟩ := enabledBy_link r f
  obtain ⟨hlimit, hpoison, horigin, htimeout, haon, hafirst, halast, hwon, hwatch, hreason⟩ := enabledBy_rest r f
  simp only [PortRec.setBy, setTimeout_eq, setFreeze_eq, setWatch_eq, setAperture_eq, hlimit, hpoison, horigin, htimeout,
    haon, hafirst, halast, hwon, hwatch, hreason]
  refine ⟨hen, hlink, ?_, ?_, ?_, trivial, trivial, hlists⟩
  · split_ifs <;> rfl
  · split_ifs <;> rfl
  · split_ifs <;> rfl

theorem flagsSet_answer {s u : State} {fs : List EventFlag} (h : FlagsSet s u fs) (st : Status) (results : List Byte) :
    FlagsSet s (u.answer st results) fs := by
  simpa [FlagsSet] using h

/-- Settles O28: a PORT_SET goes through its checks to a refusal or to the changes of the ports it names. -/
theorem portSet : Obligations.PortSet := by
  intro s seq sel set clr timeout limit poison first last watch rest f on off refusal named h
  have hexec := portSet_checked seq sel set clr timeout limit poison first last watch h
  obtain ⟨-, h1, h2, h15, h16, h17⟩ := portSetBody_bytes seq sel set clr timeout limit poison first last watch
  obtain ⟨hfirst, hlast, hwatch⟩ := portSetBody_words seq sel set clr timeout limit poison first last watch
  refine ⟨fun st hst => ⟨_, hexec, refused_of_refuseOr h rfl hst⟩, fun hst => ?_⟩
  obtain ⟨honly, hport, hlost, hflags, hin, hex, hreplies⟩ := portsChanged_setNamed s f (namedBy sel)
  have hanswer := answer_eq (s.setNamed f (namedBy sel)) (hin.trans h.2.2.2.2) (by rfl) .ok []
  refine ⟨(s.setNamed f (namedBy sel)).answer .ok [], ?_, onlyChanges_mono (onlyChanges_answer honly .ok []) (by simp),
    fun p hp => ?_, fun p hp => ?_, ?_, ?_, ?_, ?_, ?_⟩
  · exact hexec.trans (by rw [show portSetRefusal s sel set clr timeout limit poison first last watch = none from hst]; rfl)
  · rw [State.answer_port, hport, show namedBy sel p = false from hp]
    rfl
  · have hset : ((s.setNamed f (namedBy sel)).answer .ok []).port p = (s.port p).setBy f := by
      rw [State.answer_port, hport, show namedBy sel p = true from hp]
      rfl
    have hfields := setBy_fields (s.port p) f
    rw [show param32 f 3 = first.toNat from hfirst, show param32 f 7 = last.toNat from hlast,
      show param32 f 11 = watch.toNat from hwatch] at hfields
    rw [hset]
    exact hfields
  · have hcut : (fun p => named p && off 0 && (s.port p).enabled && decide ((s.port p).link = .up)) =
        fun p => namedBy sel p && (s.port p).cutBy f := by
      funext p
      simp only [Bool.and_assoc, PortRec.cutBy]
      rfl
    rw [hcut]
    exact snapshotLoses_of_te (t := s.setNamed f (namedBy sel)) rfl (by simp) hlost
  · exact flagsSet_answer hflags .ok []
  · rw [hanswer, State.setCp_cp]
    rfl
  · rw [hanswer, State.setCp_cp]
    rfl
  · rw [hanswer, State.setCp_cp, ← hreplies]
    rfl

end Sys2Proof.Machine

namespace Sys2Proof.Machine

open Sys2Proof.Safety

/-! # Event flags and their messages -/

theorem setFlag_of_set {s : State} {f : EventFlag} (h : hasFlag s.eu.flags f = true) : s.setFlag f = s := if_pos h

/-- A flag that becomes set places an EVENT notice where it is enabled and none waits (R163, R166). -/
theorem setFlag_of_clear {s : State} {f : EventFlag} (h : hasFlag s.eu.flags f = false) :
    s.setFlag f = (s.setEu { s.eu with flags := s.eu.flags ||| f.bit }).setCp
      (if hasFlag s.eu.enabled f = true ∧ s.cp.eventWaiting = false then
        noticed s.cp (s.eu.flags ||| f.bit) (.event none) else s.cp) := by
  rw [State.setFlag, if_neg (by simp [h])]
  dsimp only
  split_ifs with h1 h2 h2
  · rw [placeNotice_eq]
    simp
  · exact absurd (by simpa using h1) h2
  · exact absurd (by simpa using h2) h1
  · rfl

theorem exists_flag_at {n : Nat} (h : n < 12) : ∃ f : EventFlag, f.position = n := by
  have all : ∀ i : Fin 12, (flagsByPosition[i.val]'i.isLt).position = i.val := by decide
  exact ⟨_, all ⟨n, h⟩⟩

/-- ALERT_N is low exactly while a flag is both set and enabled (R167). -/
theorem alertLow_iff (e : Events) :
    e.alertLow = true ↔ ∃ f, hasFlag e.flags f = true ∧ hasFlag e.enabled f = true := by
  have hbits : e.alertLow = true ↔ ∃ n < 12, (e.flags &&& e.enabled).getLsbD n = true := by
    rw [Events.alertLow, bne_iff_ne]
    refine ⟨fun h => by_contra fun hn => h (BitVec.eq_of_getLsbD_eq fun n hlt => ?_), fun ⟨n, _, h⟩ he => by simp [he] at h⟩
    exact (Bool.eq_false_iff.2 fun hb => hn ⟨n, hlt, hb⟩).trans BitVec.getLsbD_zero.symm
  rw [hbits]
  constructor
  · rintro ⟨n, hn, h⟩
    obtain ⟨f, rfl⟩ := exists_flag_at hn
    exact ⟨f, by simpa [hasFlag_eq_getLsbD] using h⟩
  · rintro ⟨f, hf, he⟩
    exact ⟨f.position, f.position_lt, by simpa [hasFlag_eq_getLsbD] using And.intro hf he⟩

theorem setFlag_events (s : State) (f : EventFlag) :
    let t := s.setFlag f
    OnlyChanges [.eu, .cp] s t ∧ FlagsSet s t [f] ∧ (hasFlag s.eu.flags f = true → t = s) ∧
      (hasFlag s.eu.flags f = false →
        t.cp = if hasFlag s.eu.enabled f = true ∧ s.cp.eventWaiting = false then noticed s.cp t.eu.flags (.event none)
          else s.cp) :=
  ⟨onlyChanges_setFlag s f, flagsSet_setFlag s f, setFlag_of_set, fun h => by rw [setFlag_of_clear h]; simp⟩

/-! ## EVENT_ENABLE and EVENT_CLEAR -/

/-- A flag mask with a 1 above position 11 names no flag (R164, R165). -/
theorem flagParam_toNat (x : BitVec 16) :
    flagParam x.toNat = if 4096 ≤ x.toNat then none else some (x.setWidth 12) := by
  unfold flagParam
  split_ifs with h1 h2 h2
  · omega
  · rw [BitVec.ofNat_toNat]
  · rfl
  · omega

/-- The enable mask changes (R164). -/
theorem setEnables_eq (s : State) (mask : FlagSet) :
    s.setEnables mask = (s.setEu { s.eu with enabled := mask }).setCp
      (if s.eu.flags &&& mask &&& ~~~s.eu.enabled ≠ 0 ∧ s.cp.eventWaiting = false then
        noticed s.cp s.eu.flags (.event none) else s.cp) := by
  unfold State.setEnables
  dsimp only
  split_ifs with h1 h2 h2
  · rw [placeNotice_eq]
    simp
  · exact absurd (by simpa using h1) h2
  · exact absurd (by simpa using h2) h1
  · rfl

/-- What the two masks of an EVENT_ENABLE make of the enables, flag by flag (R164). -/
theorem getLsbD_maskFlags (set clr : BitVec 16) (old : FlagSet) {n : Nat} (hn : n < 12) :
    (maskFlags (set.setWidth 12) (clr.setWidth 12) old).getLsbD n =
      if set.getLsbD n = true ∧ clr.getLsbD n = false then true
      else if set.getLsbD n = false ∧ clr.getLsbD n = true then false
      else old.getLsbD n := by
  simp only [maskFlags, BitVec.getLsbD_and, BitVec.getLsbD_or, BitVec.getLsbD_not, BitVec.getLsbD_setWidth, hn, decide_true,
    Bool.true_and]
  cases set.getLsbD n <;> cases clr.getLsbD n <;> cases old.getLsbD n <;> rfl

theorem execEventEnable_answers {s : State} {seq : Byte} {set clr : BitVec 16} {rest : List (List Byte)}
    (h : Begins s ([0x3C, seq] ++ beBytes 2 set.toNat ++ beBytes 2 clr.toNat) rest) :
    execEventEnable s = .next (if s.mc.mode = .recovering then s.answer .wrongMode []
      else if 4096 ≤ set.toNat ∨ 4096 ≤ clr.toNat then s.answer .badValue []
      else
        let u := s.setEnables (maskFlags (set.setWidth 12) (clr.setWidth 12) s.eu.enabled)
        u.answer .ok u.eu.bytes) := by
  refine (onMessage_of_begins (kind := 0x3C) h rfl rfl _).trans (congrArg _ ?_)
  have h0 : param16 ([0x3C, seq] ++ beBytes 2 set.toNat ++ beBytes 2 clr.toNat) 0 = set.toNat :=
    param16_eq (pre := [0x3C, seq]) (post := beBytes 2 clr.toNat) set (by simp) rfl
  have h2 : param16 ([0x3C, seq] ++ beBytes 2 set.toNat ++ beBytes 2 clr.toNat) 2 = clr.toNat :=
    param16_eq (pre := [0x3C, seq] ++ beBytes 2 set.toNat) (post := []) clr (by simp) rfl
  rw [h0, h2, flagParam_toNat, flagParam_toNat]
  by_cases hs : 4096 ≤ set.toNat
  · simp [hs]
  by_cases hc : 4096 ≤ clr.toNat <;> simp [hs, hc]

theorem execEventClear_answers {s : State} {seq : Byte} {mask : BitVec 16} {rest : List (List Byte)}
    (h : Begins s ([0x3D, seq] ++ beBytes 2 mask.toNat) rest) :
    execEventClear s = .next (if s.mc.mode = .recovering then s.answer .wrongMode []
      else if 4096 ≤ mask.toNat then s.answer .badValue []
      else
        let u := s.setEu { s.eu with flags := s.eu.flags &&& ~~~(mask.setWidth 12) }
        u.answer .ok u.eu.bytes) := by
  refine (onMessage_of_begins (kind := 0x3D) h rfl rfl _).trans (congrArg _ ?_)
  rw [param16_of_four, flagParam_toNat]
  by_cases hm : 4096 ≤ mask.toNat <;> simp [hm]

theorem onlyChanges_setEu (s : State) (x : Events) : OnlyChanges [.eu] s (s.setEu x) :=
  ⟨by simp, fun b hb => by cases b <;> simp_all [Block.same]⟩

/-- A message that changes the enables and is answered OK: a notice that it places comes before its reply. -/
theorem taken_setEnables {s : State} {f : List Byte} {rest : List (List Byte)} (h : Begins s f rest)
    (hk : (messageLength (kindOf f)).isSome = true) (mask : FlagSet) (results : List Byte) :
    let t := (s.setEnables mask).answer .ok results
    OnlyChanges [.eu, .cp] s t ∧ t.eu = { s.eu with enabled := mask } ∧
      t.cp = answeredCp (if s.eu.flags &&& mask &&& ~~~s.eu.enabled ≠ 0 ∧ s.cp.eventWaiting = false then
        noticed s.cp s.eu.flags (.event none) else s.cp) f rest .ok results := by
  intro t
  have hin : (s.setEnables mask).cp.inbound = f :: rest := Eq.trans (by simp) h.2.2.2.2
  have ht : t = (s.setEnables mask).setCp (answeredCp (s.setEnables mask).cp f rest .ok results) := answer_eq _ hin hk .ok _
  rw [ht, setEnables_eq]
  refine ⟨⟨by simp, fun b hb => by cases b <;> simp_all [Block.same]⟩, by simp, by simp⟩

theorem taken_setEu {s : State} {f : List Byte} {rest : List (List Byte)} (h : Begins s f rest)
    (hk : (messageLength (kindOf f)).isSome = true) (x : Events) (results : List Byte) :
    let t := (s.setEu x).answer .ok results
    OnlyChanges [.eu, .cp] s t ∧ t.eu = x ∧ t.cp = answeredCp s.cp f rest .ok results :=
  ⟨onlyChanges_answer (onlyChanges_setEu s x) .ok results, by simp, answer_cp_of_begins h hk (by simp) .ok results⟩

/-- Settles O32: the flags one by one, then each message through its checks to a refusal or to its change and reply. -/
theorem eventFlagsAndMessages : Obligations.EventFlagsAndMessages := by
  refine ⟨⟨setFlag_events, alertLow_iff⟩, fun s seq set clr rest h => ⟨_, execEventEnable_answers h, ?_⟩,
    fun s seq mask rest h => ⟨_, execEventClear_answers h, ?_⟩⟩
  · by_cases hm : s.mc.mode = .recovering
    · rw [if_pos hm, if_pos hm]
      exact refused_of_answer h rfl .wrongMode
    by_cases hbad : 4096 ≤ set.toNat ∨ 4096 ≤ clr.toNat
    · rw [if_neg hm, if_pos hbad, if_neg hm, if_pos hbad]
      exact refused_of_answer h rfl .badValue
    · rw [if_neg hm, if_neg hbad, if_neg hm, if_neg hbad]
      obtain ⟨honly, heu, hcp⟩ := taken_setEnables h rfl (maskFlags (set.setWidth 12) (clr.setWidth 12) s.eu.enabled)
        (s.setEnables (maskFlags (set.setWidth 12) (clr.setWidth 12) s.eu.enabled)).eu.bytes
      dsimp only
      rw [heu]
      refine ⟨honly, rfl, fun n hn => getLsbD_maskFlags set clr s.eu.enabled hn, hcp.trans ?_⟩
      simp [setEnables_eq, Events.bytes, flagWord]
  · by_cases hm : s.mc.mode = .recovering
    · rw [if_pos hm, if_pos hm]
      exact refused_of_answer h rfl .wrongMode
    by_cases hbad : 4096 ≤ mask.toNat
    · rw [if_neg hm, if_pos hbad, if_neg hm, if_pos hbad]
      exact refused_of_answer h rfl .badValue
    · rw [if_neg hm, if_neg hbad, if_neg hm, if_neg hbad]
      obtain ⟨honly, heu, hcp⟩ := taken_setEu h rfl { s.eu with flags := s.eu.flags &&& ~~~(mask.setWidth 12) }
        (s.setEu { s.eu with flags := s.eu.flags &&& ~~~(mask.setWidth 12) }).eu.bytes
      dsimp only
      rw [heu]
      refine ⟨honly, rfl, fun n hn => by simp [hn], hcp.trans ?_⟩
      simp [Events.bytes, flagWord]

end Sys2Proof.Machine

namespace Sys2Proof.Machine

open Sys2Proof.Safety

/-! # Frames are received -/

theorem takeBytes_append (s : State) (xs ys : List Byte) : s.takeBytes (xs ++ ys) = (s.takeBytes xs).takeBytes ys :=
  List.foldl_append

theorem takeBytes_cons (s : State) (b : Byte) (bs : List Byte) : s.takeBytes (b :: bs) = (s.takeByte b).takeBytes bs := rfl

@[simp] theorem setReceiver_receiver (s : State) (r : Receiver) : (s.setReceiver r).cp.receiver = r := by
  simp [State.setReceiver]

@[simp] theorem setReceiver_setReceiver (s : State) (r r' : Receiver) :
    (s.setReceiver r).setReceiver r' = s.setReceiver r' := by
  simp [State.setReceiver]

theorem setReceiver_of_eq {s : State} {r : Receiver} (h : s.cp.receiver = r) : s.setReceiver r = s := by
  subst h
  rfl

/-- Noise without a SYNC byte leaves the receiver hunting (R170). -/
theorem takeBytes_noise {s : State} (h : s.cp.receiver = .hunt) {noise : List Byte} (hn : ∀ b ∈ noise, b ≠ 0xA5) :
    s.takeBytes noise = s := by
  induction noise with
  | nil => rfl
  | cons b bs ih =>
    have hb : s.takeByte b = s := by
      rw [State.takeByte, h]
      exact if_neg (hn b List.mem_cons_self)
    rw [takeBytes_cons, hb]
    exact ih fun c hc => hn c (List.mem_cons_of_mem _ hc)

/-- SYNC and LEN of a frame: the receiver awaits the body (R170). -/
theorem takeBytes_header {s : State} (h : s.cp.receiver = .hunt) {len : Byte} (h3 : 3 ≤ len.toNat)
    (h250 : len.toNat ≤ 250) : s.takeBytes [0xA5, len] = s.setReceiver (.body len.toNat []) := by
  have hsync : s.takeByte 0xA5 = s.setReceiver .length := by simp [State.takeByte, h]
  rw [takeBytes_cons, hsync, takeBytes_cons, State.takeByte]
  simp [h3, h250, State.takeBytes]

/-- The body's last bytes are taken one by one: the receiver then awaits the check (R170). -/
theorem takeBytes_body (s : State) (got rest : List Byte) (hr : rest ≠ []) :
    (s.setReceiver (.body (got.length + rest.length) got)).takeBytes rest = s.setReceiver (.check (got ++ rest) none) := by
  induction rest generalizing got with
  | nil => exact absurd rfl hr
  | cons b bs ih =>
    rw [takeBytes_cons, State.takeByte, setReceiver_receiver]
    cases bs with
    | nil => simp [State.takeBytes]
    | cons c cs =>
      have hmore : ¬ got.length + (b :: c :: cs).length ≤ got.length + 1 := by simp
      have hlen : got.length + (b :: c :: cs).length = (got ++ [b]).length + (c :: cs).length := by simp; omega
      simp only [if_neg hmore, setReceiver_setReceiver]
      rw [hlen, ih (got ++ [b]) (by simp), List.append_assoc]
      rfl

/-- A whole frame is taken to its end (R170, R171). -/
theorem takeBytes_frame {s : State} (h : s.cp.receiver = .hunt) {body : List Byte} (h3 : 3 ≤ body.length)
    (h250 : body.length ≤ 250) (high low : Byte) :
    s.takeBytes (0xA5 :: BitVec.ofNat 8 body.length :: body ++ [high, low]) = s.endFrame body high low := by
  have hlen : (BitVec.ofNat 8 body.length).toNat = body.length := by
    rw [BitVec.toNat_ofNat]
    exact Nat.mod_eq_of_lt (by omega)
  have hbody := takeBytes_body s [] body (by rintro rfl; simp at h3)
  have hsplit : 0xA5 :: BitVec.ofNat 8 body.length :: body ++ [high, low] =
      [0xA5, BitVec.ofNat 8 body.length] ++ (body ++ [high, low]) := by simp
  rw [List.length_nil, Nat.zero_add, List.nil_append] at hbody
  rw [hsplit, takeBytes_append, takeBytes_header h (by omega) (by omega), hlen, takeBytes_append, hbody, takeBytes_cons,
    State.takeByte, setReceiver_receiver]
  simp only [setReceiver_setReceiver]
  rw [takeBytes_cons, State.takeByte, setReceiver_receiver]
  simp only [State.endFrame, setReceiver_setReceiver]
  rfl

/-- A frame that ends is offered where its check matches, and otherwise counted (R171). -/
theorem endFrame_of_hunt {s : State} (h : s.cp.receiver = .hunt) (body : List Byte) (high low : Byte) :
    s.endFrame body high low =
      if crcBytes (BitVec.ofNat 8 body.length :: body) = [high, low] then s.offerFrame body else s.setCp s.cp.countError := by
  rw [State.endFrame, setReceiver_of_eq h]

theorem exec_controlFrame {s : State} (h : s.mc.inReset = none) (bytes : List Byte) :
    exec (.controlFrame bytes) s = .next (s.takeBytes bytes) := onEvent_of_no_reset h fun s => s.takeBytes bytes

theorem placesUsed_eq (cp : ControlPort) : cp.placesUsed = cp.replies.length + if cp.executing = none then 0 else 1 := by
  cases h : cp.executing <;> simp [ControlPort.placesUsed, h]

/-- The inbound queue takes a frame, or it is answered OVERRUN, or dropped and counted (R173). -/
theorem offerFrame_eq (s : State) (body : List Byte) :
    s.offerFrame body = s.setCp (
      if s.cp.inbound.length < 4 then { s.cp with inbound := s.cp.inbound ++ [body] }
      else if s.cp.replies.length + (if s.cp.executing = none then 0 else 1) < 8 then
        { s.cp with
          replies := s.cp.replies ++
            [{ kind := if messageLength (body.headD 0) = none then 0xFF else body.headD 0 + 0x80,
               seq := body.getD 1 0, status := .overrun, results := [] }]
          transmitter := if s.cp.transmitter = .free then .reply else s.cp.transmitter }
      else { s.cp with frameErrors := min (s.cp.frameErrors + 1) 65535 }) := by
  have hkind : replyKind (kindOf body) = if messageLength (body.headD 0) = none then 0xFF else body.headD 0 + 0x80 := by
    have hb : kindOf body = body.headD 0 := by cases body <;> rfl
    rw [replyKind, hb]
    cases messageLength (body.headD 0) <;> rfl
  rw [← hkind, ← placesUsed_eq]
  unfold State.offerFrame
  by_cases hq : s.cp.inbound.length < 4
  · rw [if_pos hq, if_pos (show s.cp.inbound.length < Config.inboundCapacity from hq)]
  · rw [if_neg hq, if_neg (show ¬ s.cp.inbound.length < Config.inboundCapacity from hq)]
    by_cases hp : s.cp.placesUsed < 8
    · rw [if_pos hp, if_pos (show s.cp.placesUsed < Config.replyCapacity from hp), placeReply_eq]
      rfl
    · rw [if_neg hp, if_neg (show ¬ s.cp.placesUsed < Config.replyCapacity from hp)]
      rfl

/-- A frame that is discarded is counted, and the receiver hunts again (R170 to R172). -/
theorem hunt_countError (s : State) :
    (s.setReceiver .hunt).setCp (s.setReceiver .hunt).cp.countError =
      s.setCp { s.cp with receiver := .hunt, frameErrors := min (s.cp.frameErrors + 1) 65535 } := by
  simp only [State.setReceiver, ControlPort.countError, State.setCp_setCp, State.setCp_cp]
  rfl

/-- Settles O9: a frame is taken byte by byte to its end, and offered or counted there. -/
theorem framesAreReceived : Obligations.FramesAreReceived := by
  refine ⟨fun s noise body hr hh hn h3 h250 => ?_, fun s body high low hr hh h3 h250 hcrc => ?_,
    fun s len hr hh hl => ?_, fun s hr hh => ?_⟩
  · obtain ⟨high, low, hcrc⟩ : ∃ high low, crcBytes (BitVec.ofNat 8 body.length :: body) = [high, low] :=
      List.length_eq_two.1 (crcBytes_length _)
    have hframe : controlFrame body = 0xA5 :: BitVec.ofNat 8 body.length :: body ++ [high, low] := by
      rw [controlFrame, hcrc]
      rfl
    rw [exec_controlFrame hr, takeBytes_append, takeBytes_noise hh hn, hframe, takeBytes_frame hh h3 h250,
      endFrame_of_hunt hh, if_pos hcrc, offerFrame_eq]
    exact ⟨_, rfl, onlyChanges_setCp s _, State.setCp_cp s _⟩
  · rw [exec_controlFrame hr, takeBytes_frame hh h3 h250, endFrame_of_hunt hh, if_neg (Ne.symm hcrc)]
    exact congrArg _ ((setReceiver_of_eq hh ▸ hunt_countError s :))
  · have hsync : s.takeByte 0xA5 = s.setReceiver .length := by simp [State.takeByte, hh]
    have hbad : ¬ (3 ≤ len.toNat ∧ len.toNat ≤ 250) := by omega
    rw [exec_controlFrame hr, takeBytes_cons, hsync, takeBytes_cons, State.takeByte, setReceiver_receiver]
    simp only [setReceiver_setReceiver, if_neg hbad]
    exact congrArg _ (hunt_countError s)
  · have hgap : exec .gapTimeout s = .next ((s.setReceiver .hunt).setCp (s.setReceiver .hunt).cp.countError) := by
      rw [exec, execGapTimeout, onEvent_of_no_reset hr]
      cases hc : s.cp.receiver <;> simp_all
    exact hgap.trans (congrArg _ (hunt_countError s))

end Sys2Proof.Machine

namespace Sys2Proof.Machine

open Sys2Proof.Safety

/-! # The dispatcher -/

/-- The length that the model knows for a KIND is that of its row (R174). -/
theorem messageLength_of_row : ∀ row ∈ messageRows, messageLength row.2.1 = some row.2.2 := by
  decide

/-- A KIND that no row has is unknown (R174). -/
theorem messageLength_eq_none {k : Byte} (h : ∀ row ∈ messageRows, row.2.1 ≠ k) : messageLength k = none := by
  have hk : ∀ k : Byte, messageLength k = none ∨ ∃ row ∈ messageRows, row.2.1 = k := by decide
  exact (hk k).resolve_right fun ⟨row, hrow, he⟩ => h row hrow he

/-- Each message is executed by the dispatcher under its KIND (R174). -/
theorem exec_row (s : State) : ∀ row ∈ messageRows, ∃ act, exec row.1 s = s.onMessage row.2.1 act := by
  simp only [messageRows, List.cons_append, List.nil_append, List.forall_mem_cons, List.not_mem_nil, false_implies,
    implies_true, and_true, exec, execAssign, execReclaim, execShareRange, execUnshareRange, execRetire, execRecount, execRevive, execFormat,
    execCancel, execTicketStatus, execDomainOpen, execDomainQuota, execDomainClose, execDomainClearScore,
    execDomainStatus, execShareCreate, execShareDelete, execShareStatus, execTagRead, execSurvey, execLogRead,
    execLogControl, execEventEnable, execEventClear, execPortSet, execPortStatus, execPortClear, execModeRequest,
    execSettings, execPartStatus, execReset]
  and_intros
  all_goals exact ⟨_, rfl⟩

theorem kindOf_eq (f : List Byte) : kindOf f = f.headD 0 := by
  cases f <;> rfl

/-- Settles O10: an unknown KIND, a wrong length, and RESET. -/
theorem dispatcherAnswers : Obligations.DispatcherAnswers := by
  refine ⟨⟨fun s f rest h hkind => ?_, fun row hrow s f rest h hk hlen => ?_⟩, fun s seq pad rest h => ?_⟩
  · have hnone : messageLength (kindOf f) = none := by
      rw [kindOf_eq]
      exact messageLength_eq_none hkind
    have hreply : replyKind (kindOf f) = 0xFF := by simp [replyKind, hnone]
    have hexec : exec .badKind s = .next (s.answer .badKind []) := by
      rw [exec, execBadKind, canDispatch_of_begins h, frame_of_begins h, hnone]
      rfl
    refine ⟨_, hexec, ?_⟩
    unfold State.answer
    rw [placeReply_eq, frame_of_begins h, hreply]
    simp only [State.setCp_setCp, State.setCp_cp]
    exact ⟨onlyChanges_setCp s _, by simp [answeredCp, h.2.2.2.2, seqOf, byteAt]⟩
  · obtain ⟨act, hact⟩ := exec_row s row hrow
    have hl := messageLength_of_row row hrow
    have hkf : kindOf f = row.2.1 := (kindOf_eq f).trans hk
    have hne : messageLength row.2.1 ≠ some f.length := by
      rw [hl]
      exact fun he => hlen (Option.some.inj he).symm
    refine ⟨_, hact.trans (onMessage_bad_length h hkf hne act), refused_of_answer h ?_ _⟩
    rw [hkf, hl]
    rfl
  · have hexec : execReset s = .next ((s.setCp { s.cp with resetWait := true }).answer .ok []) :=
      onMessage_of_begins (kind := 0x4B) h rfl rfl _
    have hin : (s.setCp { s.cp with resetWait := true }).cp.inbound = [0x4B, seq, pad] :: rest := by
      simp [h.2.2.2.2]
    refine ⟨_, hexec, ?_⟩
    rw [answer_eq _ hin rfl, State.setCp_setCp]
    refine ⟨onlyChanges_setCp s _, ?_, ?_⟩
    · simp [answeredCp]
    · simp [State.canDispatch, answeredCp]

end Sys2Proof.Machine

namespace Sys2Proof.Machine

open Sys2Proof.Safety

/-! # Frames leave the link -/

/-- The arbiter that has begun a frame, or found none, begins no other (R177). -/
theorem begins_begins (cp : ControlPort) (flags : FlagSet) : begins (begins cp flags) flags = begins cp flags := by
  obtain ⟨receiver, inbound, executing, resetWait, replies, notices, transmitter, number, errors⟩ := cp
  cases transmitter with
  | free => cases replies <;> cases notices <;> rfl
  | reply | notice => rfl

theorem begins_noticed (cp : ControlPort) (flags : FlagSet) (n : Notice) :
    begins (noticed cp flags n) flags = noticed cp flags n := begins_begins _ flags

theorem onlyChanges_setTe (s : State) (te : Engine) : OnlyChanges [.te] s (s.setTe te) :=
  ⟨by simp, fun b hb => by cases b <;> simp_all [Block.same]⟩

/-- The control port from which the frame being sent, a notice, has gone. -/
def ControlPort.noticeGone (cp : ControlPort) (rest : List QueuedNotice) : ControlPort :=
  { cp with notices := rest, transmitter := .free }

/-- A notice that has been sent hands on what it does, and the arbiter begins the next frame (R179). -/
theorem execNoticeSent_eq {s : State} {q : QueuedNotice} {rest : List QueuedNotice} (hr : s.mc.inReset = none)
    (ht : s.cp.transmitter = .notice) (hn : s.cp.notices = q :: rest) :
    exec .noticeSent s = .next ((s.setCp (s.cp.noticeGone rest)).noticeHandsOn q.notice).arbitrate := by
  rw [exec, execNoticeSent, onEvent_of_no_reset hr]
  simp only [ht, hn]
  rfl

/-- The slot of a command whose COMPLETION notice has gone is free (R122). -/
theorem tryConfig_of_not {s : State} (h : ¬ (s.mc.pendingTarget = some .config ∧ s.te.table = [])) :
    s.tryConfig = s := if_neg h

theorem eventWaiting_noticeGone (cp : ControlPort) (rest : List QueuedNotice) :
    (cp.noticeGone rest).eventWaiting = rest.any isWaitingEvent := by
  refine congrArg (List.any rest) (funext fun q => ?_)
  rcases q with ⟨n, k⟩
  cases n <;> cases k <;> rfl

/-- A flag's notice, where it places one, is what the arbiter begins with (R166, R177). -/
theorem arbitrate_setFlag_cp (s : State) (f : EventFlag) :
    (s.setFlag f).arbitrate.cp =
      if hasFlag s.eu.enabled f = true ∧ hasFlag s.eu.flags f = false ∧ s.cp.eventWaiting = false then
        noticed s.cp (s.setFlag f).eu.flags (.event none)
      else begins s.cp (s.setFlag f).eu.flags := by
  rw [arbitrate_eq, State.setCp_cp]
  cases hset : hasFlag s.eu.flags f
  · rw [setFlag_of_clear hset, State.setCp_cp, State.setCp_eu, State.setEu_eu]
    split_ifs <;> simp_all [begins_noticed]
  · rw [setFlag_of_set hset, if_neg (by simp)]

/-- Settles O11: each frame that has been sent leaves, and the arbiter begins the next. -/
theorem sentFramesLeaveTheLink : Obligations.SentFramesLeaveTheLink := by
  refine ⟨⟨fun s r rest hr ht hrep hno => ?_, fun s q rest hr ht hn hq => ?_,
    fun s q rest k c st d p hr ht hn hq hor => ?_⟩, fun s q rest k c st d p hr ht hn hq hp hall => ?_⟩
  · have hgo : (s.cp.resetWait && r.isReset) = false := by
      rw [Bool.eq_false_iff]
      intro h
      rw [Bool.and_eq_true, Reply.isReset, Bool.and_eq_true, beq_iff_eq, beq_iff_eq] at h
      exact hno h
    have hexec : exec .replySent s = .next s.replyGone := by
      rw [exec, execReplySent, onEvent_of_no_reset hr]
      simp only [ht, hrep, hgo]
      rfl
    refine ⟨_, hexec, ?_⟩
    rw [State.replyGone, arbitrate_eq, State.setCp_setCp, hrep]
    exact ⟨onlyChanges_setCp s _, by simp⟩
  · have hands : (s.setCp (s.cp.noticeGone rest)).noticeHandsOn q.notice = s.setCp (s.cp.noticeGone rest) := by
      cases hc : q.notice with
      | completion t c st d p => exact absurd hc (hq t c st d p)
      | _ => rfl
    refine ⟨_, execNoticeSent_eq hr ht hn, ?_⟩
    rw [hands, arbitrate_eq, State.setCp_setCp]
    exact ⟨onlyChanges_setCp s _, by simp [ControlPort.noticeGone]⟩
  · refine ⟨_, execNoticeSent_eq hr ht hn, ?_⟩
    have hwait : ¬ (((s.setCp (s.cp.noticeGone rest)).freeSlot k).mc.pendingTarget = some .config ∧
        ((s.setCp (s.cp.noticeGone rest)).freeSlot k).te.table = []) := by
      rintro ⟨hpend, hempty⟩
      rcases hor with hpt | ⟨x, hx, hne⟩
      · exact hpt (by simpa using hpend)
      · have hx' : x ∈ ((s.setCp (s.cp.noticeGone rest)).freeSlot k).te.table := by simp [State.freeSlot, hx, hne]
        simp [hempty] at hx'
    rw [hq, State.noticeHandsOn, tryConfig_of_not hwait, arbitrate_eq]
    refine ⟨⟨by simp, fun b hb => by cases b <;> simp_all [Block.same]⟩, by simp [State.freeSlot], ?_⟩
    simp [ControlPort.noticeGone]
  · refine ⟨_, execNoticeSent_eq hr ht hn, ?_⟩
    have hempty : ((s.setCp (s.cp.noticeGone rest)).freeSlot k).te.table = [] := by
      simpa [State.freeSlot, List.filter_eq_nil_iff] using hall
    rw [hq, State.noticeHandsOn, State.tryConfig, if_pos ⟨by simpa using hp, hempty⟩]
    have hfs := flagsSet_setFlag (((s.setCp (s.cp.noticeGone rest)).freeSlot k).setMc
      { ((s.setCp (s.cp.noticeGone rest)).freeSlot k).mc with mode := .config, pendingTarget := none }) .modeChanged
    refine ⟨⟨by simp, fun b hb => by cases b <;> simp_all [Block.same]⟩, ?_, by simp, ?_, ?_, ?_, ?_⟩
    · simpa using hempty
    · simpa using hfs.2 .modeChanged
    · simpa using hfs.1
    · intro f hf
      simpa [hf] using hfs.2 f
    · rw [arbitrate_setFlag_cp]
      simp [eventWaiting_noticeGone]
      rfl

end Sys2Proof.Machine

namespace Sys2Proof.Machine

open Sys2Proof.Safety

/-! # The ticketed commands: acceptance and refusal -/

/-- The outcome of a message's own checks, as a refusal or the command. -/
def checkedAs (own : Option Status) (c : Command) : Except Status Command :=
  match own with
  | some st => .error st
  | none => .ok c

theorem acceptOrRefuse_eq (s : State) (own : Option Status) (c : Command) :
    s.acceptOrRefuse (checkedAs own c) =
      s.refuseOr (if s.mc.pendingTarget = some .config then some .wrongMode
        else if own ≠ none then own
        else if 16 ≤ s.te.table.length then some .busy
        else none) (s.accept c) := by
  unfold State.acceptOrRefuse
  cases own with
  | none =>
    simp only [checkedAs, Config.tableCapacity, ne_eq, not_true_eq_false, if_false, State.refuseOr_ite,
      State.refuseOr_some, State.refuseOr_none]
    rfl
  | some st => simp [checkedAs]

/-- Orders 1 to 6 of R95: the command is accepted where no check refuses it. -/
theorem acceptance_eq (s : State) (own : Option Status) (c : Command) :
    s.acceptance (checkedAs own c) = s.refuseOr (refusalOf s own) (s.accept c) := by
  unfold State.acceptance refusalOf
  rw [acceptOrRefuse_eq]
  simp only [State.refuseOr_ite, State.refuseOr_some]

theorem refusalOf_of_accepting {s : State} (h : Accepting s) : refusalOf s none = none := by
  obtain ⟨hmode, hstore, hpend, hroom⟩ := h
  simp [refusalOf, hmode, hstore, hpend, hroom]

theorem rangeValid_eq (s : State) (first count : Nat) :
    rangeValid s.mc.poolCode first count = decide (rangeOk s first count) := by
  rw [Bool.eq_iff_iff, decide_eq_true_iff]
  simp only [rangeValid, Bool.and_eq_true, decide_eq_true_eq, and_assoc]
  rfl

/-- The check of a range comes before the checks after it (R96). -/
theorem checkRange_checkedAs (s : State) (first count : Nat) (own : Option Status) (c : Command) :
    s.checkRange first count (checkedAs own c) =
      checkedAs (if ¬ rangeOk s first count then some .badRange else own) c := by
  unfold State.checkRange
  by_cases hr : rangeOk s first count <;> simp [hr, rangeValid_eq, checkedAs]

/-- The parameters of a frame that begins with a range. -/
theorem params_of_range {f : List Byte} {kind seq : Byte} {first count : BitVec 32} {rest : List Byte}
    (hf : f = [kind, seq] ++ (beBytes 4 first.toNat ++ (beBytes 4 count.toNat ++ rest))) :
    param32 f 0 = first.toNat ∧ param32 f 4 = count.toNat :=
  ⟨param32_eq (pre := [kind, seq]) first hf rfl,
    param32_eq (pre := [kind, seq] ++ beBytes 4 first.toNat) (post := rest) count (by simp [hf]) rfl⟩

/-- The two-byte parameter after a range. -/
theorem param16_of_range {f : List Byte} {kind seq : Byte} {first count : BitVec 32} {x : BitVec 16} {rest : List Byte}
    (hf : f = [kind, seq] ++ (beBytes 4 first.toNat ++ (beBytes 4 count.toNat ++ (beBytes 2 x.toNat ++ rest)))) :
    param16 f 8 = x.toNat :=
  param16_eq (pre := [kind, seq] ++ beBytes 4 first.toNat ++ beBytes 4 count.toNat) (post := rest) x (by simp [hf]) rfl

/-- ASSIGN: its own checks in their order (R96). -/
theorem checkAssign_eq (s : State) (seq : Byte) (first count : BitVec 32) (d : BitVec 16) (rights wait : Byte) :
    s.checkAssign ([0x10, seq] ++ beBytes 4 first.toNat ++ beBytes 4 count.toNat ++ beBytes 2 d.toNat ++ [rights, wait]) =
      checkedAs (if 1023 < d.toNat ∨ 1 < rights.toNat then some .badValue
        else if ¬ rangeOk s first.toNat count.toNat then some .badRange
        else if (s.domain (d.setWidth 10)).state ≠ .opened then some .unknownDomain else none)
        (.assign first.toNat count.toNat (d.setWidth 10) (if rights = 0 then .ro else .rw) (wait.getLsbD 0)) := by
  generalize hf : [0x10, seq] ++ beBytes 4 first.toNat ++ beBytes 4 count.toNat ++ beBytes 2 d.toNat ++ [rights, wait] = f
  have hparts : f = [0x10, seq] ++ (beBytes 4 first.toNat ++ (beBytes 4 count.toNat ++ (beBytes 2 d.toNat ++ [rights, wait]))) := by
    simp [← hf]
  obtain ⟨hfirst, hcount⟩ := params_of_range hparts
  have hrights : param8 f 10 = rights := by subst hf; rfl
  have hwait : param8 f 11 = wait := by subst hf; rfl
  rw [State.checkAssign, hfirst, hcount, param16_of_range hparts, hrights, hwait, domainParam_toNat, rightsOf_eq]
  by_cases hd : 1023 < d.toNat
  · simp [hd, checkedAs]
  by_cases hb : 1 < rights.toNat
  · simp [hd, hb, checkedAs]
  rw [if_neg hd, if_neg hb, if_neg (not_or.2 ⟨hd, hb⟩), ← checkRange_checkedAs]
  by_cases ho : (s.domain (d.setWidth 10)).state = .opened <;> simp [ho, checkedAs]

/-- RECLAIM: its own checks in their order (R96). -/
theorem checkReclaim_eq (s : State) (seq : Byte) (first count : BitVec 32) (d : BitVec 16) (force : Byte) :
    s.checkReclaim ([0x11, seq] ++ beBytes 4 first.toNat ++ beBytes 4 count.toNat ++ beBytes 2 d.toNat ++ [force]) =
      checkedAs (if 1023 < d.toNat then some .badValue
        else if ¬ rangeOk s first.toNat count.toNat then some .badRange
        else if (s.domain (d.setWidth 10)).state = .closed then some .unknownDomain else none)
        (.reclaim first.toNat count.toNat (d.setWidth 10) (force.getLsbD 0)) := by
  generalize hf : [0x11, seq] ++ beBytes 4 first.toNat ++ beBytes 4 count.toNat ++ beBytes 2 d.toNat ++ [force] = f
  have hparts : f = [0x11, seq] ++ (beBytes 4 first.toNat ++ (beBytes 4 count.toNat ++ (beBytes 2 d.toNat ++ [force]))) := by
    simp [← hf]
  obtain ⟨hfirst, hcount⟩ := params_of_range hparts
  have hforce : param8 f 10 = force := by subst hf; rfl
  rw [State.checkReclaim, hfirst, hcount, param16_of_range hparts, hforce, domainParam_toNat]
  by_cases hd : 1023 < d.toNat
  · simp [hd, checkedAs]
  rw [if_neg hd, if_neg hd, ← checkRange_checkedAs]
  by_cases ho : (s.domain (d.setWidth 10)).state = .closed <;> simp [ho, checkedAs]

/-- SHARE_RANGE and UNSHARE_RANGE: their own checks in their order (R96). -/
theorem checkShare_eq (s : State) (kind seq : Byte) (first count : BitVec 32) (i : BitVec 16)
    (make : Nat → Nat → ShareIx → Command) :
    s.checkShare (kind :: ([seq] ++ beBytes 4 first.toNat ++ beBytes 4 count.toNat ++ beBytes 2 i.toNat)) make =
      checkedAs (if 255 < i.toNat then some .badValue
        else if ¬ rangeOk s first.toNat count.toNat then some .badRange
        else if (s.share (i.setWidth 8)).inUse = false then some .badValue else none)
        (make first.toNat count.toNat (i.setWidth 8)) := by
  generalize hf : kind :: ([seq] ++ beBytes 4 first.toNat ++ beBytes 4 count.toNat ++ beBytes 2 i.toNat) = f
  have hparts : f = [kind, seq] ++ (beBytes 4 first.toNat ++ (beBytes 4 count.toNat ++ (beBytes 2 i.toNat ++ []))) := by
    simp [← hf]
  obtain ⟨hfirst, hcount⟩ := params_of_range hparts
  rw [State.checkShare, hfirst, hcount, param16_of_range hparts, shareParam_toNat]
  by_cases hi : 255 < i.toNat
  · simp [hi, checkedAs]
  rw [if_neg hi, if_neg hi, ← checkRange_checkedAs]
  cases hu : (s.share (i.setWidth 8)).inUse <;> simp [hu, checkedAs]

theorem retireLive_eq (s : State) (d : DomainId) :
    s.retireLive d = s.te.table.any fun c => c.command.code == 0x14 && c.command.domain? == some d := by
  unfold State.retireLive
  congr 1
  funext c
  cases c.command <;> simp [Command.code, Command.domain?]

/-- RETIRE: its own checks in their order; the command keeps whether it moves the domain (R96, R110). -/
theorem checkRetire_eq (s : State) (seq : Byte) (d : BitVec 16) :
    s.checkRetire ([0x14, seq] ++ beBytes 2 d.toNat) =
      checkedAs (if d = 0 ∨ 1023 < d.toNat then some .badValue
        else if (s.domain (d.setWidth 10)).state = .closed then some .unknownDomain
        else if (s.domain (d.setWidth 10)).state = .retiring ∧
          (s.te.table.any fun c => c.command.code == 0x14 && c.command.domain? == some (d.setWidth 10)) = true then
          some .busy
        else none) (.retire (d.setWidth 10) (decide ((s.domain (d.setWidth 10)).state = .opened))) := by
  rw [State.checkRetire, param16_of_four, domainParam_toNat, ← retireLive_eq]
  by_cases hd : 1023 < d.toNat
  · simp [hd, checkedAs]
  have hzero : d.setWidth 10 = (0 : DomainId) ↔ d = 0 := by
    constructor
    · intro h
      have hn := congrArg BitVec.toNat h
      rw [BitVec.toNat_setWidth] at hn
      refine BitVec.eq_of_toNat_eq (x := d) (y := 0) ?_
      change d.toNat % 2 ^ 10 = 0 at hn
      change d.toNat = 0
      omega
    · rintro rfl
      rfl
  by_cases h0 : d = 0
  · simp [h0, checkedAs]
  rw [if_neg hd, if_neg (not_or.2 ⟨h0, hd⟩)]
  simp only [if_neg (mt hzero.1 h0)]
  cases hs : (s.domain (d.setWidth 10)).state with
  | closed => simp [checkedAs]
  | opened => simp [checkedAs]
  | retiring => cases s.retireLive (d.setWidth 10) <;> simp [checkedAs]

/-! ## Each message as a refusal or an acceptance -/

theorem execAssign_checked {s : State} {seq : Byte} {first count : BitVec 32} {d : BitVec 16} {rights wait : Byte}
    {rest : List (List Byte)}
    (h : Begins s ([0x10, seq] ++ beBytes 4 first.toNat ++ beBytes 4 count.toNat ++ beBytes 2 d.toNat ++ [rights, wait])
      rest) :
    execAssign s = .next (s.refuseOr
      (refusalOf s (if 1023 < d.toNat ∨ 1 < rights.toNat then some .badValue
        else if ¬ rangeOk s first.toNat count.toNat then some .badRange
        else if (s.domain (d.setWidth 10)).state ≠ .opened then some .unknownDomain else none))
      (s.accept (.assign first.toNat count.toNat (d.setWidth 10) (if rights = 0 then .ro else .rw) (wait.getLsbD 0)))) := by
  rw [← acceptance_eq, ← checkAssign_eq]
  exact onMessage_of_begins (kind := 0x10) h rfl rfl _

theorem execReclaim_checked {s : State} {seq : Byte} {first count : BitVec 32} {d : BitVec 16} {force : Byte}
    {rest : List (List Byte)}
    (h : Begins s ([0x11, seq] ++ beBytes 4 first.toNat ++ beBytes 4 count.toNat ++ beBytes 2 d.toNat ++ [force]) rest) :
    execReclaim s = .next (s.refuseOr
      (refusalOf s (if 1023 < d.toNat then some .badValue
        else if ¬ rangeOk s first.toNat count.toNat then some .badRange
        else if (s.domain (d.setWidth 10)).state = .closed then some .unknownDomain else none))
      (s.accept (.reclaim first.toNat count.toNat (d.setWidth 10) (force.getLsbD 0)))) := by
  rw [← acceptance_eq, ← checkReclaim_eq]
  exact onMessage_of_begins (kind := 0x11) h rfl rfl _

/-- The checks of SHARE_RANGE and UNSHARE_RANGE (R96). -/
def shareRefusal (s : State) (first count : BitVec 32) (i : BitVec 16) : Option Status :=
  refusalOf s (if 255 < i.toNat then some .badValue
    else if ¬ rangeOk s first.toNat count.toNat then some .badRange
    else if (s.share (i.setWidth 8)).inUse = false then some .badValue else none)

theorem execShareRange_checked {s : State} {seq : Byte} {first count : BitVec 32} {i : BitVec 16}
    {rest : List (List Byte)}
    (h : Begins s (0x12 :: ([seq] ++ beBytes 4 first.toNat ++ beBytes 4 count.toNat ++ beBytes 2 i.toNat)) rest) :
    execShareRange s = .next (s.refuseOr (shareRefusal s first count i)
      (s.accept (.shareRange first.toNat count.toNat (i.setWidth 8)))) := by
  rw [shareRefusal, ← acceptance_eq, ← checkShare_eq s 0x12 seq first count i .shareRange]
  exact onMessage_of_begins (kind := 0x12) h rfl rfl _

theorem execUnshareRange_checked {s : State} {seq : Byte} {first count : BitVec 32} {i : BitVec 16}
    {rest : List (List Byte)}
    (h : Begins s (0x13 :: ([seq] ++ beBytes 4 first.toNat ++ beBytes 4 count.toNat ++ beBytes 2 i.toNat)) rest) :
    execUnshareRange s = .next (s.refuseOr (shareRefusal s first count i)
      (s.accept (.unshareRange first.toNat count.toNat (i.setWidth 8)))) := by
  rw [shareRefusal, ← acceptance_eq, ← checkShare_eq s 0x13 seq first count i .unshareRange]
  exact onMessage_of_begins (kind := 0x13) h rfl rfl _

theorem execRetire_checked {s : State} {seq : Byte} {d : BitVec 16} {rest : List (List Byte)}
    (h : Begins s ([0x14, seq] ++ beBytes 2 d.toNat) rest) :
    execRetire s = .next (s.refuseOr
      (refusalOf s (if d = 0 ∨ 1023 < d.toNat then some .badValue
        else if (s.domain (d.setWidth 10)).state = .closed then some .unknownDomain
        else if (s.domain (d.setWidth 10)).state = .retiring ∧
          (s.te.table.any fun c => c.command.code == 0x14 && c.command.domain? == some (d.setWidth 10)) = true then
          some .busy
        else none))
      (s.accept (.retire (d.setWidth 10) (decide ((s.domain (d.setWidth 10)).state = .opened))))) := by
  rw [← acceptance_eq, ← checkRetire_eq]
  exact onMessage_of_begins (kind := 0x14) h rfl rfl _

theorem execRevive_checked {s : State} {seq : Byte} {first count : BitVec 32} {rest : List (List Byte)}
    (h : Begins s ([0x16, seq] ++ beBytes 4 first.toNat ++ beBytes 4 count.toNat) rest) :
    execRevive s = .next (s.refuseOr
      (refusalOf s (if ¬ rangeOk s first.toNat count.toNat then some .badRange else none))
      (s.accept (.revive first.toNat count.toNat))) := by
  obtain ⟨hfirst, hcount⟩ := params_of_range (f := [0x16, seq] ++ beBytes 4 first.toNat ++ beBytes 4 count.toNat)
    (kind := 0x16) (seq := seq) (first := first) (count := count) (rest := []) (by simp)
  refine (onMessage_of_begins (kind := 0x16) h rfl rfl _).trans (congrArg _ ?_)
  rw [hfirst, hcount, ← acceptance_eq, ← checkRange_checkedAs]
  rfl

theorem execRecount_checked {s : State} {seq pad : Byte} {rest : List (List Byte)} (h : Begins s [0x15, seq, pad] rest) :
    execRecount s = .next (s.refuseOr (refusalOf s none) (s.accept .recount)) := by
  rw [← acceptance_eq]
  exact onMessage_of_begins (kind := 0x15) h rfl rfl _

theorem execFormat_checked {s : State} {seq pad : Byte} {rest : List (List Byte)} (h : Begins s [0x17, seq, pad] rest) :
    execFormat s = .next (s.refuseOr
      (if s.mc.mode ≠ .config then some Status.wrongMode
        else if s.mc.poolCode = none then some .badValue
        else if s.te.table ≠ [] then some .busy
        else if s.mc.pendingTarget = some .config then some .wrongMode else none)
      (s.accept (.format s.mc.storeState))) := by
  refine (onMessage_of_begins (kind := 0x17) h rfl rfl _).trans (congrArg _ ?_)
  have hlast := acceptOrRefuse_eq s none (.format s.mc.storeState)
  rw [checkedAs] at hlast
  simp only [State.refuseOr_ite, State.refuseOr_some, hlast]
  by_cases ht : s.te.table = []
  · simp [ht]
  · simp [ht]

/-- Settles O13: the first check that fails gives the reply. -/
theorem commandsRefusedInOrder : Obligations.CommandsRefusedInOrder := by
  intro s seq rest
  refine ⟨fun first count d rights wait st h ho => ⟨_, execAssign_checked h, refused_of_refuseOr h rfl ho⟩,
    fun first count d force st h ho => ⟨_, execReclaim_checked h, refused_of_refuseOr h rfl ho⟩,
    fun first count i st ho => ⟨fun h => ⟨_, execShareRange_checked h, refused_of_refuseOr h rfl ho⟩,
      fun h => ⟨_, execUnshareRange_checked h, refused_of_refuseOr h rfl ho⟩⟩,
    fun d st h ho => ⟨_, execRetire_checked h, refused_of_refuseOr h rfl ho⟩,
    fun first count st h ho => ⟨_, execRevive_checked h, refused_of_refuseOr h rfl ho⟩,
    fun pad st h ho => ⟨_, execRecount_checked h, refused_of_refuseOr h rfl ho⟩,
    fun pad st h ho => ⟨_, execFormat_checked h, refused_of_refuseOr h rfl ho⟩⟩

end Sys2Proof.Machine

namespace Sys2Proof.Machine

open Sys2Proof.Safety

/-! # The ticketed commands that are accepted -/

theorem accepted_of_accept {s : State} {f : List Byte} {rest : List (List Byte)} (h : Begins s f rest)
    (hk : (messageLength (kindOf f)).isSome = true) (c : Command) : Accepted s (s.accept c) f rest c := by
  have hcp : ((s.takeSlot c).acceptKind c).cp = s.cp := by cases c <;> simp [State.takeSlot, State.acceptKind]
  refine ⟨answer_cp_of_begins h hk hcp _ _, ?_⟩
  cases c <;> simp [State.accept, State.takeSlot, State.acceptKind, newCmd]

/-- A command whose acceptance changes no record takes a slot and is answered (R95). -/
theorem onlyChanges_accept {s : State} {c : Command} (hc : ∀ u : State, u.acceptKind c = u) :
    OnlyChanges [.te, .cp] s (s.accept c) := by
  rw [State.accept, hc]
  exact onlyChanges_answer (onlyChanges_setTe s _) _ _

/-- An acceptance of a command whose checks pass (R95). -/
theorem accepted_exec {s : State} {f : List Byte} {rest : List (List Byte)} (h : Begins s f rest)
    (hk : (messageLength (kindOf f)).isSome = true) {c : Command} (hc : ∀ u : State, u.acceptKind c = u)
    {x : Host.Outcome State Fault Refusal} {o : Option Status} (hx : x = .next (s.refuseOr o (s.accept c))) (ho : o = none) :
    ∃ t, x = .next t ∧ OnlyChanges [.te, .cp] s t ∧ Accepted s t f rest c := by
  subst ho
  exact ⟨_, hx, onlyChanges_accept hc, accepted_of_accept h hk c⟩

theorem exists_toNat32 {n : Nat} (h : n < 4294967296) : ∃ x : BitVec 32, x.toNat = n :=
  ⟨BitVec.ofNat 32 n, by rw [BitVec.toNat_ofNat]; exact Nat.mod_eq_of_lt h⟩

theorem tenants_lt (s : State) : s.tenants < 4294967296 := by
  have all : ∀ c : Option PoolCode, tenantGranules c < 4294967296 := by decide
  exact all s.mc.poolCode

/-- The range of an accepted command is that of its frame (R96). -/
theorem exists_range {s : State} {first count : Nat} (h : rangeOk s first count) :
    ∃ x y : BitVec 32, x.toNat = first ∧ y.toNat = count := by
  obtain ⟨-, hcount, hend⟩ := h
  have ht := tenants_lt s
  obtain ⟨x, hx⟩ := exists_toNat32 (n := first) (by omega)
  obtain ⟨y, hy⟩ := exists_toNat32 (n := count) (by omega)
  exact ⟨x, y, hx, hy⟩

theorem exists_domainField (d : DomainId) :
    ∃ x : BitVec 16, x.toNat = d.toNat ∧ x.setWidth 10 = d ∧ ¬ 1023 < x.toNat ∧ (x = 0 → d = 0) := by
  have hx : (d.setWidth 16).toNat = d.toNat := BitVec.toNat_setWidth_of_le (by omega)
  have hd : (d.setWidth 16).setWidth 10 = d := BitVec.setWidth_setWidth_of_le d (by omega)
  refine ⟨d.setWidth 16, hx, hd, by have := d.isLt; omega, fun h0 => ?_⟩
  rw [← hd, h0]
  rfl

theorem exists_shareField (i : ShareIx) : ∃ x : BitVec 16, x.toNat = i.toNat ∧ x.setWidth 8 = i ∧ ¬ 255 < x.toNat := by
  have hx : (i.setWidth 16).toNat = i.toNat := BitVec.toNat_setWidth_of_le (by omega)
  exact ⟨i.setWidth 16, hx, BitVec.setWidth_setWidth_of_le i (by omega), by have := i.isLt; omega⟩

theorem domainBecomes_from {s u t : State} (h : u.domains = s.domains) {d : DomainId} {r : DomainRec}
    (hd : DomainBecomes u t d r) : DomainBecomes s t d r := by
  simpa only [DomainBecomes, domain_of_domains h] using hd

theorem issues_from {s u t : State} (h : u.dram = s.dram) {ws : List (Nat × List Byte)} (hi : Issues u t ws) :
    Issues s t ws := by
  simpa only [Issues, SameBytes, heldAt, h] using hi

/-- A RETIRE that is accepted writes the persisted record of its domain, which is RETIRING (R37, R97). -/
theorem retire_accepted {s : State} {f : List Byte} {rest : List (List Byte)} (h : Begins s f rest)
    (hk : (messageLength (kindOf f)).isSome = true) {c : PoolCode} (hc : s.mc.poolCode = some c) (d : DomainId)
    (moved : Bool) :
    let t := s.accept (.retire d moved)
    OnlyChanges [.te, .cp, .domains, .dram] s t ∧ Accepted s t f rest (.retire d moved) ∧
      DomainBecomes s t d { s.domain d with state := .retiring } ∧ Issues s t [domainWrite t c d] := by
  have hw : (s.takeSlot (.retire d moved)).acceptKind (.retire d moved) =
      (s.takeSlot (.retire d moved)).writeDomain d { s.domain d with state := .retiring } := by
    simp [State.acceptKind, State.domain]
  have hslot : OnlyChanges [.te] s (s.takeSlot (.retire d moved)) := onlyChanges_setTe s _
  refine ⟨?_, accepted_of_accept h hk _, ?_, ?_⟩
  · rw [State.accept, hw]
    refine onlyChanges_mono (onlyChanges_answer (onlyChanges_trans hslot (onlyChanges_writeDomain _ d _)) _ _) ?_
    simp
  · rw [State.accept, hw]
    exact domainBecomes_answer (domainBecomes_from (State.setTe_domains s _) (domainBecomes_writeDomain _ d _)) _ _
  · rw [State.accept, hw]
    have hissue := issues_writeDomain (s.takeSlot (.retire d moved)) d { s.domain d with state := .retiring } (c := c)
      (by simpa using hc)
    exact issues_answer (issues_from (by simp) hissue) _ _

/-- No ticket is 0 (R94). -/
theorem nextTicket_ne_zero (t : Ticket) : nextTicket t ≠ 0 := by
  by_cases h : t = 0xFFFF#16
  · rw [nextTicket, if_pos h]
    decide
  · intro h0
    have hn := nextTicket_toNat t h
    rw [h0] at hn
    exact absurd hn.symm (Nat.succ_ne_zero _)

/-- Settles O12: the next ticket, and each command's acceptance. -/
theorem commandsAccepted : Obligations.CommandsAccepted := by
  refine ⟨⟨?_, rfl, ?_⟩, fun s seq rest hacc => ⟨?_, ?_, ?_, ?_, ?_⟩, fun s seq rest => ⟨?_, ?_, ?_⟩⟩
  · exact fun t h => nextTicket_toNat t h
  · intro s hlen hcounter
    obtain ⟨hfree, n, hn, hbefore⟩ := nextFree_spec s.te hlen
    refine ⟨?_, hfree, n, hn, hbefore⟩
    rw [hn]
    cases n with
    | zero => exact hcounter
    | succ n =>
      rw [Function.iterate_succ_apply']
      exact nextTicket_ne_zero _
  · intro first count d rights wait hr ho f h
    obtain ⟨x, y, rfl, rfl⟩ := exists_range hr
    obtain ⟨z, hz, rfl, hbig, -⟩ := exists_domainField d
    have hcode : ¬ 1 < rights.code.toNat ∧ (if rights.code = 0 then Rights.ro else .rw) = rights := by
      cases rights <;> decide
    dsimp only [f] at h ⊢
    rw [← hz] at h ⊢
    have hx := execAssign_checked h
    rw [hcode.2] at hx
    exact accepted_exec h rfl (fun u => rfl) hx (by
      rw [if_neg (not_or.2 ⟨hbig, hcode.1⟩), if_neg (not_not.2 hr), if_neg (not_not.2 ho)]
      exact refusalOf_of_accepting hacc)
  · intro first count d force hr ho f h
    obtain ⟨x, y, rfl, rfl⟩ := exists_range hr
    obtain ⟨z, hz, rfl, hbig, -⟩ := exists_domainField d
    dsimp only [f] at h ⊢
    rw [← hz] at h ⊢
    exact accepted_exec h rfl (fun u => rfl) (execReclaim_checked h) (by
      rw [if_neg hbig, if_neg (not_not.2 hr), if_neg ho]
      exact refusalOf_of_accepting hacc)
  · intro first count i hr hu body
    obtain ⟨x, y, rfl, rfl⟩ := exists_range hr
    obtain ⟨z, hz, rfl, hbig⟩ := exists_shareField i
    have hpass : shareRefusal s x y z = none := by
      rw [shareRefusal, if_neg hbig, if_neg (not_not.2 hr), if_neg (by simp [hu])]
      exact refusalOf_of_accepting hacc
    dsimp only [body]
    rw [← hz]
    exact ⟨fun h => accepted_exec h rfl (fun u => rfl) (execShareRange_checked h) hpass,
      fun h => accepted_exec h rfl (fun u => rfl) (execUnshareRange_checked h) hpass⟩
  · intro first count hr f h
    obtain ⟨x, y, rfl, rfl⟩ := exists_range hr
    exact accepted_exec h rfl (fun u => rfl) (execRevive_checked h) (by
      rw [if_neg (not_not.2 hr)]
      exact refusalOf_of_accepting hacc)
  · intro pad h
    exact accepted_exec h rfl (fun u => rfl) (execRecount_checked h) (refusalOf_of_accepting hacc)
  · intro d c hacc hc hd hopen f r h
    obtain ⟨z, hz, rfl, hbig, hzero⟩ := exists_domainField d
    dsimp only [f] at h ⊢
    rw [← hz] at h ⊢
    have hx := execRetire_checked h
    rw [if_neg (not_or.2 ⟨mt hzero hd, hbig⟩), if_neg (by simp [hopen]), if_neg (by simp [hopen]),
      refusalOf_of_accepting hacc, hopen] at hx
    exact ⟨_, hx, retire_accepted h rfl hc _ true⟩
  · intro d c hacc hc hd hret hlive f h
    obtain ⟨z, hz, rfl, hbig, hzero⟩ := exists_domainField d
    dsimp only [f] at h ⊢
    rw [← hz] at h ⊢
    have hx := execRetire_checked h
    have hnone : (s.te.table.any fun c => c.command.code == 0x14 && c.command.domain? == some (z.setWidth 10)) = false := by
      rw [← retireLive_eq, State.retireLive, List.any_eq_false]
      intro x hmem
      cases hcmd : x.command with
      | retire e moved =>
        rw [beq_iff_eq]
        rintro rfl
        exact hlive x hmem moved hcmd
      | _ => simp
    rw [if_neg (not_or.2 ⟨mt hzero hd, hbig⟩), if_neg (by simp [hret]), if_neg (fun hboth => Bool.eq_false_iff.1 hnone hboth.2),
      refusalOf_of_accepting hacc, hret] at hx
    have hsame : { s.domain (z.setWidth 10) with state := .retiring } = s.domain (z.setWidth 10) := by rw [← hret]
    have hacc' := retire_accepted h rfl hc (z.setWidth 10) false
    rw [hsame] at hacc'
    exact ⟨_, hx, hacc'⟩
  · intro pad hm hc ht hp h
    have hx := execFormat_checked h
    rw [if_neg (not_not.2 hm), if_neg hc, if_neg (not_not.2 ht), if_neg hp] at hx
    refine ⟨_, hx, ?_, ?_, accepted_of_accept h rfl _⟩
    · refine onlyChanges_mono (onlyChanges_answer (onlyChanges_trans (onlyChanges_setTe s _) (onlyChanges_setMc _ _)) _ _) ?_
      simp
    · simp [State.accept, State.acceptKind, State.takeSlot]

end Sys2Proof.Machine

namespace Sys2Proof.Machine

open Sys2Proof.Safety

/-! # A command enters NOTIFY -/

theorem ticket_of_cmd {s : State} {k : Ticket} {c : Cmd} (h : s.cmd k = some c) : c.ticket = k := by
  simpa using List.find?_some h

/-- The slot and the engine once a command has entered NOTIFY (R98). -/
def State.slotNotified (s : State) (k : Ticket) (st : Completion) : State :=
  s.setTe { s.te with
    table := s.te.table.map fun c => if c.ticket = k then notified c st else c
    current := s.te.current.filter fun w => w.ticket != k }

/-- A command enters NOTIFY: its slot, the effects of its kind, and its notice (R122). -/
theorem notify_of_cmd {s : State} {k : Ticket} {c : Cmd} (h : s.cmd k = some c) (st : Completion) :
    s.notify k st = ((s.slotNotified k st).finishKind c.command st).placeNotice
      (.completion k c.command st c.doneCount c.poisonedCount) := by
  rw [State.notify, h]
  simp only [State.updateCmd, State.setTe_te, State.setTe_setTe]
  rfl

theorem finishKind_cancelled (s : State) (c : Command) : s.finishKind c .cancelled = s := by
  cases c <;> rfl

theorem finishKind_of_plain {c : Command} (hr : c.isRetire = false) (hf : c.isFormat = false) (s : State)
    (st : Completion) : s.finishKind c st = s := by
  cases c <;> simp_all [State.finishKind, Command.isRetire, Command.isFormat]

theorem cmdBecomes_trans {s u t : State} {k : Ticket} {c c' : Cmd} (h : CmdBecomes s u k c) (h' : CmdBecomes u t k c') :
    CmdBecomes s t k c' := by
  obtain ⟨-, hcount, hother⟩ := h
  obtain ⟨hcmd, hcount', hother'⟩ := h'
  exact ⟨hcmd, hcount'.trans hcount, fun j hj => (hother' j hj).trans (hother j hj)⟩

theorem cmdBecomes_from {s u t : State} (ht : u.te.table = s.te.table) (hn : u.te.counter = s.te.counter) {k : Ticket}
    {c : Cmd} (h : CmdBecomes u t k c) : CmdBecomes s t k c := by
  simpa only [CmdBecomes, State.cmd, ht, hn] using h

/-- A command that enters NOTIFY has its status, and its slot holds it (R98). -/
theorem cmdBecomes_notify {s : State} {k : Ticket} {c : Cmd} (h : s.cmd k = some c) (st : Completion) :
    CmdBecomes s (s.notify k st) k (notified c st) := by
  have hb := cmdBecomes_updateCmd (f := fun c => notified c st) h (fun _ => rfl)
  rw [notify_of_cmd h]
  exact cmdBecomes_of_table (by simp [State.slotNotified, State.updateCmd]) (by simp [State.slotNotified, State.updateCmd]) hb

theorem notify_current {s : State} {k : Ticket} {c : Cmd} (h : s.cmd k = some c) (st : Completion) :
    (s.notify k st).te.current = s.te.current.filter fun w => w.ticket != k := by
  rw [notify_of_cmd h]
  simp [State.slotNotified]

/-- The COMPLETION notice of a command carries its counts (R122). -/
theorem notify_cp {s : State} {k : Ticket} {c : Cmd} (h : s.cmd k = some c) (st : Completion) :
    (s.notify k st).cp = completed s c st := by
  rw [notify_of_cmd h, placeNotice_eq, completed, ticket_of_cmd h]
  simp [State.slotNotified]

theorem onlyChanges_slotNotified (s : State) (k : Ticket) (st : Completion) :
    OnlyChanges [.te] s (s.slotNotified k st) := onlyChanges_setTe s _

theorem onlyChanges_placeNotice (s : State) (n : Notice) : OnlyChanges [.cp] s (s.placeNotice n) := by
  rw [placeNotice_eq]
  exact onlyChanges_setCp s _

/-- A command without effects of its kind at its end changes the engine and the control port alone (R98, R122). -/
theorem onlyChanges_notify {s : State} {k : Ticket} {c : Cmd} (h : s.cmd k = some c) {st : Completion}
    (hplain : ∀ u : State, u.finishKind c.command st = u) : OnlyChanges [.te, .cp] s (s.notify k st) := by
  rw [notify_of_cmd h, hplain]
  exact onlyChanges_trans (onlyChanges_slotNotified s k st) (onlyChanges_placeNotice _ _)

/-! # CANCEL -/

/-- A command cancelled in QUEUED or VERIFY: its counts are 0, and the engine waits for nothing of it in TC (R119). -/
def State.cancelled (s : State) (k : Ticket) (tc : TagCache) : State :=
  (s.updateCmd k fun c => { c with doneCount := 0, poisonedCount := 0 }).setTc tc

theorem cancelCommand_eq (s : State) {k : Ticket} {c : Cmd} (h : s.cmd k = some c) :
    ∃ tc, tc.sets = s.tc.sets ∧ tc.writes = s.tc.writes ∧
      s.cancelCommand c = ((s.cancelled k tc).undoAcceptance c.command).notify k .cancelled := by
  have hk := ticket_of_cmd h
  by_cases hv : c.phase = .verify
  · exact ⟨s.tc.dropParty .engine, rfl, rfl, by simp [State.cancelCommand, State.cancelled, hv, hk]⟩
  · refine ⟨s.tc, rfl, rfl, ?_⟩
    have hself : s.cancelled k s.tc = s.updateCmd k fun c => { c with doneCount := 0, poisonedCount := 0 } := by
      simp [State.cancelled, State.updateCmd, State.setTc, State.setTe]
    simp [State.cancelCommand, hself, hv, hk]

theorem onlyChanges_cancelled (s : State) (k : Ticket) (tc : TagCache) : OnlyChanges [.te, .tc] s (s.cancelled k tc) :=
  onlyChanges_trans (onlyChanges_setTe s _) (onlyChanges_setTc _ tc)

theorem cmdBecomes_cancelled {s : State} {k : Ticket} {c : Cmd} (h : s.cmd k = some c) (tc : TagCache) :
    CmdBecomes s (s.cancelled k tc) k { c with doneCount := 0, poisonedCount := 0 } :=
  cmdBecomes_of_table (by simp [State.cancelled]) (by simp [State.cancelled])
    (cmdBecomes_updateCmd (f := fun c => { c with doneCount := 0, poisonedCount := 0 }) h fun _ => rfl)

theorem domainBecomes_to {s t u : State} (h : u.domains = t.domains) {d : DomainId} {r : DomainRec}
    (hd : DomainBecomes s t d r) : DomainBecomes s u d r := by
  simpa only [DomainBecomes, domain_of_domains h] using hd

/-- The message of a command that can be cancelled, as CANCEL takes it (R118). -/
theorem execCancel_checked {s : State} {seq : Byte} {k : Ticket} {rest : List (List Byte)}
    (h : Begins s ([0x18, seq] ++ beBytes 2 k.toNat) rest) :
    execCancel s = .next (
      if s.mc.mode = .recovering then s.answer .wrongMode []
      else if k = 0 then s.answer .badValue []
      else
        match s.cmd k with
        | none => s.answer .noTicket []
        | some c =>
          if c.phase = .queued ∨ c.phase = .verify then ((s.cancelCommand c).answer .ok []).settleMode
          else s.answer .tooLate []) := by
  refine (onMessage_of_begins (kind := 0x18) h rfl rfl _).trans (congrArg _ ?_)
  rw [param16_of_four, BitVec.ofNat_toNat, BitVec.setWidth_eq] <;> rfl

/-- Settles O14: a command in QUEUED or VERIFY is cancelled and its acceptance undone; any other CANCEL is refused. -/
theorem cancelEndsWaitingCommand : Obligations.CancelEndsWaitingCommand := by
  intro s seq k rest f h
  have hx := execCancel_checked h
  refine ⟨fun hm => ?_, fun hm hk => ?_, fun hm hk hc => ?_, fun c hm hk hc => ?_⟩
  · rw [if_pos hm] at hx
    exact ⟨_, hx, refused_of_answer h rfl _⟩
  · rw [if_neg hm, if_pos hk] at hx
    exact ⟨_, hx, refused_of_answer h rfl _⟩
  · rw [if_neg hm, if_neg hk, hc] at hx
    exact ⟨_, hx, refused_of_answer h rfl _⟩
  rw [if_neg hm, if_neg hk, hc] at hx
  by_cases hp : c.phase = .queued ∨ c.phase = .verify
  swap
  · have hboth : c.phase ≠ .queued ∧ c.phase ≠ .verify := not_or.1 hp
    rw [if_pos hboth]
    simp only [if_neg hp] at hx
    exact ⟨_, hx, refused_of_answer h rfl _⟩
  rw [if_neg fun hboth : c.phase ≠ .queued ∧ c.phase ≠ .verify => hp.elim hboth.1 hboth.2]
  simp only [if_pos hp] at hx
  obtain ⟨tc, hsets, hwrites, he⟩ := cancelCommand_eq s hc
  rw [he] at hx
  have hcmd := cmdBecomes_cancelled hc tc
  have hx' : ((s.cancelled k tc).undoAcceptance c.command).cmd k = some { c with doneCount := 0, poisonedCount := 0 } :=
    (cmd_of_te (by simp) k).trans hcmd.1
  have hbecomes := cmdBecomes_trans hcmd
    (cmdBecomes_from (s := s.cancelled k tc) (by simp) (by simp) (cmdBecomes_notify hx' .cancelled))
  have hplain (u : State) : u.finishKind c.command .cancelled = u := finishKind_cancelled u _
  have hnotify := onlyChanges_notify hx' hplain
  have hstart := onlyChanges_cancelled s k tc
  have hcp := notify_cp hx' .cancelled
  have hin : (((s.cancelled k tc).undoAcceptance c.command).notify k .cancelled).cp.inbound = f :: rest := by
    simp [State.cancelled, h.2.2.2.2]
  refine ⟨_, hx, cmdBecomes_of_table (by simp) (by simp) hbecomes, ?_, ?_, by simp [State.cancelled, hsets],
    by simp [State.cancelled, hwrites], ?_⟩
  · have hcur := notify_current hx' .cancelled
    simp only [State.answer_frame, hcur]
    simp [State.cancelled, State.updateCmd]
  · rw [answer_eq _ hin rfl, State.setCp_cp, hcp]
    simp [completed, State.cancelled]
  · have hsplit : OnlyChanges [.tc, .te, .cp] s (((s.cancelled k tc).notify k .cancelled).answer .ok []) :=
      onlyChanges_mono (onlyChanges_answer (onlyChanges_trans hstart (onlyChanges_notify hcmd.1
        fun u => finishKind_cancelled u _)) .ok []) (by simp)
    split
    · next d heq =>
      rw [heq] at hnotify ⊢
      have hw : (s.cancelled k tc).undoAcceptance (.retire d true) =
          (s.cancelled k tc).writeDomain d { s.domain d with state := .opened } := by
        simp [State.undoAcceptance, State.cancelled, State.domain]
      rw [hw] at hnotify ⊢
      have hdomains := hnotify.2 .domains (by simp)
      have hdram := hnotify.2 .dram (by simp)
      have hdram' : (s.cancelled k tc).dram = s.dram := hstart.2 .dram (by simp)
      refine ⟨?_, ?_, ?_, fun p hp => ?_⟩
      · exact onlyChanges_mono (onlyChanges_answer (onlyChanges_trans (onlyChanges_trans hstart
          (onlyChanges_writeDomain _ d _)) hnotify) .ok []) (by simp)
      · exact domainBecomes_answer (domainBecomes_to hdomains (domainBecomes_from (hstart.2 .domains (by simp))
          (domainBecomes_writeDomain _ d _))) _ _
      · intro a
        have hsame := sameBytes_writeDomain (s.cancelled k tc) d { s.domain d with state := .opened } a
        simp only [State.answer_frame]
        rw [show _ = _ from hdram, hsame, hdram']
      · have hissue := issues_writeDomain (s.cancelled k tc) d { s.domain d with state := .opened } (c := p)
          (by simpa [State.cancelled] using hp)
        rw [← domainWrite_of_domains hdomains] at hissue
        exact issues_answer (issues_of_dram hdram (issues_from hdram' hissue)) _ _
    · next kept heq =>
      rw [heq] at hnotify ⊢
      refine ⟨onlyChanges_mono (onlyChanges_answer (onlyChanges_trans (onlyChanges_trans hstart
        (onlyChanges_setMc _ _)) hnotify) .ok []) (by simp), ?_⟩
      have hmc : _ = _ := hnotify.2 .mc (by simp)
      simp only [State.answer_frame, hmc]
      simp [State.undoAcceptance, State.cancelled]
    · next hr hf =>
      have hu : (s.cancelled k tc).undoAcceptance c.command = s.cancelled k tc := by
        unfold State.undoAcceptance
        split
        · next d heq => exact absurd heq (hr d)
        · next kept heq => exact absurd heq (hf kept)
        · rfl
      rw [hu]
      exact hsplit

end Sys2Proof.Machine

namespace Sys2Proof.Machine

open Sys2Proof.Safety

/-! # The engine takes a unit -/

/-- The engine holds a command with its work. -/
structure Working (s : State) (w : Work) (c : Cmd) : Prop where
  current : s.te.current = some w
  cmd : s.cmd w.ticket = some c

theorem Working.of_te {s x : State} {w : Work} {c : Cmd} (h : Working s w c) (ht : x.te = s.te) : Working x w c :=
  ⟨ht ▸ h.current, (cmd_of_te (congrArg Engine.table ht) _).trans h.cmd⟩

theorem Working.ticket {s : State} {w : Work} {c : Cmd} (h : Working s w c) : c.ticket = w.ticket := ticket_of_cmd h.cmd

theorem Working.currentCmd {s : State} {w : Work} {c : Cmd} (h : Working s w c) : s.currentCmd = some (w, c) := by
  rw [State.currentCmd, h.current, Option.bind_some, h.cmd, Option.map_some]

theorem working_of_engaged {s : State} {w : Work} {c : Cmd} (h : Engaged s w c) : Working s w c := ⟨h.2.1, h.2.2.1⟩

/-- The engine's row of a phase and kind is its next unit (R98, R99). -/
theorem onPhase_of_engaged {s : State} {w : Work} {c : Cmd} (h : Engaged s w c) {phase : Phase} (hp : c.phase = phase)
    {kind : Command → Bool} (hk : kind c.command = true) (act : Work → Command → State → State) :
    s.onPhase phase kind act = .next (act w c.command s).settle := by
  rw [State.onPhase, onEvent_of_no_reset h.1, (working_of_engaged h).currentCmd]
  exact congrArg _ (if_pos ⟨hp, hk, h.2.2.2⟩)

/-- On a cached line the engine acts on the records of the line (R99). -/
theorem engineTry_of_cached {s : State} {w : Work} {c : Cmd} (h : Working s w c) (hf : c.command.isFormat = false)
    {line : TagLine} (hc : Cached s (w.cursor / 4) line) :
    s.engineTry = State.engineAct line (s.recent (w.cursor / 4) line) := by
  rw [State.engineTry, h.currentCmd]
  have hlookup : s.lookup .engine (lineOf w.cursor) State.engineAct State.engineWaits =
      State.engineAct line (s.recent (w.cursor / 4) line) := lookup_of_cached hc .engine _ _
  cases hcmd : c.command with
  | format kept => simp [hcmd, Command.isFormat] at hf
  | _ => simpa only [hcmd] using hlookup

theorem engineAct_of_working {s : State} {w : Work} {c : Cmd} (h : Working s w c) (line : TagLine) :
    State.engineAct line s =
      match c.phase with
      | .verify => s.verifyAct w c.command (line.get (w.cursor % 4))
      | .mark => s.markAct w c.command (line.get (w.cursor % 4))
      | .drain => s.timeoutAct w c.command (line.get (w.cursor % 4))
      | .handoff => s.handoffAct w c.command (line.get (w.cursor % 4))
      | _ => s := by
  rw [State.engineAct, h.currentCmd] <;> rfl

/-! ## The engine's work and its command -/

theorem onlyChanges_updateWork (s : State) (f : Work → Work) : OnlyChanges [.te] s (s.updateWork f) :=
  onlyChanges_setTe s _

theorem onlyChanges_updateCmd (s : State) (k : Ticket) (f : Cmd → Cmd) : OnlyChanges [.te] s (s.updateCmd k f) :=
  onlyChanges_setTe s _

theorem updateWork_te {s : State} {w : Work} (h : s.te.current = some w) (f : Work → Work) :
    (s.updateWork f).te = { s.te with current := some (f w) } := by
  simp [State.updateWork, h]

theorem updateWork_current {s : State} {w : Work} (h : s.te.current = some w) (f : Work → Work) :
    (s.updateWork f).te.current = some (f w) := by
  rw [updateWork_te h]

theorem cmdBecomes_refl {s t : State} (ht : t.te.table = s.te.table) (hn : t.te.counter = s.te.counter) {k : Ticket}
    {c : Cmd} (h : s.cmd k = some c) : CmdBecomes s t k c :=
  ⟨(cmd_of_te ht k).trans h, hn, fun j _ => cmd_of_te ht j⟩

/-- The work changes, and the command stands. -/
theorem cmdBecomes_updateWork {s u : State} {k : Ticket} {c : Cmd} (h : CmdBecomes s u k c) (f : Work → Work) :
    CmdBecomes s (u.updateWork f) k c :=
  cmdBecomes_of_table (by simp [State.updateWork]) (by simp [State.updateWork]) h

/-- A command in the engine that enters NOTIFY, with the counts that it then has (R98, R122). -/
theorem notified_notify {s u : State} {c : Cmd} {st : Completion} (hb : CmdBecomes s u c.ticket c)
    (hcur : ∃ w, u.te.current = some w ∧ w.ticket = c.ticket) (hcp : u.cp = s.cp) (heu : u.eu = s.eu) :
    Notified s (u.notify c.ticket st) c st := by
  obtain ⟨w, hw, hk⟩ := hcur
  refine ⟨cmdBecomes_trans hb (cmdBecomes_notify hb.1 st), ?_, ?_⟩
  · rw [notify_current hb.1, hw]
    simp [hk]
  · rw [notify_cp hb.1, completed, completed, hcp, heu]

theorem Working.notified {s u : State} {w : Work} {c : Cmd} (h : Working s w c) {x : State} (ht : x.te = s.te)
    (hcp : x.cp = s.cp) (heu : x.eu = s.eu) (st : Completion) (hu : u = x.notify w.ticket st) : Notified s u c st := by
  rw [hu, ← h.ticket]
  refine notified_notify (cmdBecomes_refl (congrArg _ ht) (congrArg _ ht) (h.ticket ▸ h.cmd)) ?_ hcp heu
  exact ⟨w, ht ▸ h.current, h.ticket.symm⟩

/-- A command leaves VERIFY for MARK (R98). -/
theorem enterMark_working {s : State} {w : Work} {c : Cmd} (h : Working s w c) (start : Nat) :
    CmdBecomes s (s.enterMark w.ticket start) w.ticket { c with phase := .mark } ∧
      (s.enterMark w.ticket start).te.current = some { w with cursor := start } := by
  refine ⟨cmdBecomes_updateWork (cmdBecomes_updateCmd (f := fun c => { c with phase := .mark }) h.cmd fun _ => rfl) _, ?_⟩
  exact updateWork_current (by simpa [State.updateCmd] using h.current) _

theorem onlyChanges_enterMark (s : State) (k : Ticket) (start : Nat) : OnlyChanges [.te] s (s.enterMark k start) :=
  onlyChanges_mono (onlyChanges_trans (onlyChanges_updateCmd s _ _) (onlyChanges_updateWork _ _)) (by simp)

/-! # The start of a command, and the first part of VERIFY -/

/-- What the first unit of VERIFY leaves, where it goes on (R101, R112). -/
theorem begun_working {s : State} {w : Work} {c : Cmd} (h : Working s w c) (f : Work → Work) :
    OnlyChanges [.te, .cp] s (s.updateWork f) ∧
      (s.updateWork f).te = { s.te with current := some (f w) } ∧ (s.updateWork f).cp = s.cp :=
  ⟨onlyChanges_mono (onlyChanges_updateWork s f) (by simp), updateWork_te h.current f, by simp⟩

/-- A unit with which a command without effects of its kind enters NOTIFY. -/
theorem ended_working {s : State} {w : Work} {c : Cmd} (h : Working s w c) (hr : c.command.isRetire = false)
    (hf : c.command.isFormat = false) (st : Completion) :
    OnlyChanges [.te, .cp] s (s.notify w.ticket st) ∧ Notified s (s.notify w.ticket st) c st :=
  ⟨onlyChanges_notify h.cmd fun u => finishKind_of_plain hr hf u st, h.notified rfl rfl rfl st rfl⟩

/-- Settles O43: the start of the oldest command, and VERIFY's first checks. -/
theorem commandStartsAndChecks : Obligations.CommandStartsAndChecks := by
  refine ⟨fun s c hr hcur hold hc => ?_, fun s w c h hph => ?_⟩
  · have hold' : s.te.oldestQueued = some c := hold
    have hexec : exec .commandStart s = .next (if s.mayStart then
        (s.updateCmd c.ticket fun c => { c with phase := .verify }).setTe
          { (s.updateCmd c.ticket fun c => { c with phase := .verify }).te with
            current := some (newWork c.ticket c.command.start) } else s) := by
      rw [exec, execCommandStart, onEvent_of_no_reset hr, hcur, hold']
    refine ⟨fun hm hp => ?_, fun hms => ?_⟩
    · rw [if_pos (by simp [State.mayStart, hm, hp])] at hexec
      refine ⟨_, newWork c.ticket c.command.start, hexec, ?_, ?_, by simp, rfl, rfl, rfl, rfl, rfl, rfl, rfl, rfl, rfl, rfl,
        rfl, rfl, rfl, rfl, rfl⟩
      · exact onlyChanges_mono (onlyChanges_trans (onlyChanges_updateCmd s _ _) (onlyChanges_setTe _ _)) (by simp)
      · exact cmdBecomes_of_table (by simp) (by simp)
          (cmdBecomes_updateCmd (f := fun c => { c with phase := .verify }) hc fun _ => rfl)
    · rw [if_neg (by simp [State.mayStart, imp_iff_not_or, hms])] at hexec
      exact hexec
  · have hw := working_of_engaged h
    refine ⟨fun hb => ⟨?_, ?_, ?_⟩, ?_⟩
    · intro first count d rights wait hcmd
      have hexec : exec .assignVerify s = .next (verifyUnit w c.command s).settle :=
        onPhase_of_engaged h hph (by simp [hcmd, Command.isAssign]) _
      rw [verifyUnit, if_pos hb, hcmd, State.beginVerify] at hexec
      refine ⟨_, hexec, ?_⟩
      split_ifs
      · exact ended_working hw (by simp [hcmd, Command.isRetire]) (by simp [hcmd, Command.isFormat]) _
      · exact ended_working hw (by simp [hcmd, Command.isRetire]) (by simp [hcmd, Command.isFormat]) _
      · exact begun_working hw _
    · intro first count i hcmd
      have hexec : exec .shareRangeVerify s = .next (verifyUnit w c.command s).settle :=
        onPhase_of_engaged h hph (by simp [hcmd, Command.isShareRange]) _
      rw [verifyUnit, if_pos hb, hcmd, State.beginVerify] at hexec
      refine ⟨_, hexec, ?_⟩
      split_ifs
      · exact begun_working hw _
      · exact ended_working hw (by simp [hcmd, Command.isRetire]) (by simp [hcmd, Command.isFormat]) _
    · intro first count i hcmd
      have hexec : exec .unshareRangeVerify s = .next (verifyUnit w c.command s).settle :=
        onPhase_of_engaged h hph (by simp [hcmd, Command.isUnshareRange]) _
      rw [verifyUnit, if_pos hb, hcmd, State.beginVerify] at hexec
      refine ⟨_, hexec, ?_⟩
      split_ifs
      · exact begun_working hw _
      · exact ended_working hw (by simp [hcmd, Command.isRetire]) (by simp [hcmd, Command.isFormat]) _
    · intro first count d rights wait hcmd hb hwait
      have hexec : exec .assignVerify s = .next (verifyUnit w c.command s).settle :=
        onPhase_of_engaged h hph (by simp [hcmd, Command.isAssign]) _
      rwa [verifyUnit, if_neg (by simp [hb]), if_pos (Option.isSome_iff_ne_none.2 hwait)] at hexec

end Sys2Proof.Machine

namespace Sys2Proof.Machine

open Sys2Proof.Safety

/-! # VERIFY takes a tag -/

/-- VERIFY's rows are the units of the engine that take tag after tag, once their first part is done (R99). -/
theorem exec_verifyRow {s : State} {w : Work} {c : Cmd} {i : Instr} (h : Engaged s w c) (hp : c.phase = .verify)
    (hi : verifyRow c.command = some i)
    (hb : w.begun = true ∨ c.command.isReclaim = true ∨ c.command.isRevive = true) (hw : w.scrubWait = none) :
    exec i s = .next s.engineTry.settle := by
  have hverify (kind : Command → Bool) (hk : kind c.command = true) (hbeg : w.begun = true) :
      s.onPhase .verify kind verifyUnit = .next s.engineTry.settle := by
    rw [onPhase_of_engaged h hp hk, verifyUnit, if_neg (by simp [hbeg]), if_neg (by simp [hw])]
  have htag (kind : Command → Bool) (hk : kind c.command = true) :
      s.onPhase .verify kind tagUnit = .next s.engineTry.settle := onPhase_of_engaged h hp hk tagUnit
  cases hc : c.command <;> simp only [hc, verifyRow, reduceCtorEq, Option.some.injEq] at hi hb <;> subst hi
  case assign => exact hverify Command.isAssign (by rw [hc]; rfl) (by simpa [Command.isReclaim, Command.isRevive] using hb)
  case reclaim => exact htag Command.isReclaim (by rw [hc]; rfl)
  case shareRange =>
    exact hverify Command.isShareRange (by rw [hc]; rfl) (by simpa [Command.isReclaim, Command.isRevive] using hb)
  case unshareRange =>
    exact hverify Command.isUnshareRange (by rw [hc]; rfl) (by simpa [Command.isReclaim, Command.isRevive] using hb)
  case revive => exact htag Command.isRevive (by rw [hc]; rfl)

/-- An ASSIGN with WAIT waits on a SCRUBBING tag (R101). -/
def verifyWaits (t : Tag) (c : Command) : Prop :=
  t.kind = .scrubbing ∧ ∃ first count d rights, c = .assign first count d rights true

/-- What VERIFY finds of a tag: it waits, or fails, or passes (R101, R103, R112, R113). -/
theorem verifyTag_cases (s : State) (w : Work) (c : Command) (g : Nat) (t : Tag) (hc : (verifyRow c).isSome = true) :
    (verifyWaits t c ∧ s.verifyTag w c g t = .wait ∧ (tagFails w.shareOwner (s.inRun g) t c).isSome = true) ∨
      (¬ verifyWaits t c ∧
        ((∃ st, tagFails w.shareOwner (s.inRun g) t c = some st ∧ s.verifyTag w c g t = .fail st) ∨
          (tagFails w.shareOwner (s.inRun g) t c = none ∧ s.verifyTag w c g t = .pass))) := by
  cases c with
  | assign first count d rights wait =>
    cases t with
    | scrubbing o k =>
      cases wait with
      | true => exact .inl ⟨⟨rfl, _, _, _, _, rfl⟩, rfl, rfl⟩
      | false => exact .inr ⟨fun ⟨_, _, _, _, _, he⟩ => by simp at he, .inl ⟨.notFree, rfl, rfl⟩⟩
    | free => exact .inr ⟨fun ⟨hk, _⟩ => by simp [Tag.kind] at hk, .inr ⟨rfl, rfl⟩⟩
    | _ => exact .inr ⟨fun ⟨hk, _⟩ => by simp [Tag.kind] at hk, .inl ⟨.notFree, rfl, rfl⟩⟩
  | reclaim first count o force =>
    refine .inr ⟨fun ⟨_, _, _, _, _, he⟩ => by simp at he, ?_⟩
    cases t with
    | owned x r => by_cases hx : x = o <;> simp [State.verifyTag, tagFails, Tag.kind, Tag.owner, hx]
    | shared x r k =>
      by_cases hx : x = o <;> cases force <;> simp [State.verifyTag, tagFails, Tag.kind, Tag.owner, hx]
    | _ => simp [State.verifyTag, tagFails, Tag.kind]
  | shareRange first count i =>
    refine .inr ⟨fun ⟨_, _, _, _, _, he⟩ => by simp at he, ?_⟩
    cases t with
    | owned x r => by_cases hx : x = w.shareOwner <;> simp [State.verifyTag, tagFails, Tag.kind, Tag.owner, hx]
    | _ => simp [State.verifyTag, tagFails, Tag.kind]
  | unshareRange first count i =>
    refine .inr ⟨fun ⟨_, _, _, _, _, he⟩ => by simp at he, ?_⟩
    cases t with
    | shared x r k => by_cases hx : k = i <;> simp [State.verifyTag, tagFails, Tag.share, hx]
    | _ => simp [State.verifyTag, tagFails, Tag.share]
  | revive first count =>
    refine .inr ⟨fun ⟨_, _, _, _, _, he⟩ => by simp at he, ?_⟩
    cases t with
    | poisoned o cause => cases hr : s.inRun g <;> simp [State.verifyTag, tagFails, Tag.kind, hr]
    | _ => simp [State.verifyTag, tagFails, Tag.kind]
  | _ => simp [verifyRow] at hc

/-! ## The drain -/

/-- The snapshot of a REVIVE: the FORWARDED entries of its range (R105). -/
theorem takeSnapshot_revive (s : State) {c : Cmd} {first count : Nat} (hc : c.command = .revive first count) :
    s.takeSnapshot c = forwardedIn s fun g => decide (first ≤ g) && decide (g < first + count) := by
  have hin : s.inSnapshot c = fun e => e.stage == .forwarded &&
      (decide (first ≤ granuleOf e.lineNo) && decide (granuleOf e.lineNo < first + count)) := by
    funext e
    simp only [State.inSnapshot, hc]
  simp only [State.takeSnapshot, hin, forwardedIn]

/-- A command enters its drain: HANDOFF at once where the snapshot is empty (R105, R106). -/
theorem drains_enterDrain {s : State} {w : Work} {c : Cmd} (h : Working s w c) :
    Drains s (s.enterDrain w.ticket) w c (s.takeSnapshot c) := by
  rw [State.enterDrain, h.cmd]
  dsimp only
  by_cases hs : s.takeSnapshot c = []
  · rw [if_pos (by rw [hs]; rfl), State.endDrain]
    refine ⟨?_, ?_⟩
    · rw [if_pos hs]
      exact cmdBecomes_updateWork (cmdBecomes_updateCmd (f := fun c => { c with phase := .handoff }) h.cmd fun _ => rfl) _
    · rw [if_pos hs, hs]
      exact updateWork_current (by simpa [State.updateCmd] using h.current) _
  · rw [if_neg (by simpa using hs)]
    refine ⟨?_, ?_⟩
    · rw [if_neg hs]
      exact cmdBecomes_updateWork (cmdBecomes_updateCmd (f := fun c => { c with phase := .drain }) h.cmd fun _ => rfl) _
    · rw [if_neg hs]
      exact updateWork_current (by simpa [State.updateCmd] using h.current) _

theorem onlyChanges_enterDrain (s : State) (k : Ticket) : OnlyChanges [.te] s (s.enterDrain k) :=
  ⟨by simp, fun b hb => by cases b <;> simp_all [Block.same]⟩

/-- VERIFY's last tag has passed: MARK is entered after the checks made again, or the drain of a REVIVE (R98, R101,
R112, R113). `w` is the work as the last tag leaves it. -/
theorem endVerify_working {s : State} {w : Work} {c : Cmd} (h : Working s w c) (hc : (verifyRow c.command).isSome = true)
    (hnr : c.command.isRevive = false) :
    OnlyChanges [.te, .cp] s (s.endVerify w c.command) ∧
      match lastFails s w.shareOwner c.command with
      | some st => Notified s (s.endVerify w c.command) c st
      | none =>
        CmdBecomes s (s.endVerify w c.command) w.ticket { c with phase := .mark } ∧
          (s.endVerify w c.command).te.current = some { w with cursor := c.command.start } ∧
          (s.endVerify w c.command).cp = s.cp := by
  have hmark : OnlyChanges [.te, .cp] s (s.enterMark w.ticket c.command.start) ∧
      CmdBecomes s (s.enterMark w.ticket c.command.start) w.ticket { c with phase := .mark } ∧
      (s.enterMark w.ticket c.command.start).te.current = some { w with cursor := c.command.start } ∧
      (s.enterMark w.ticket c.command.start).cp = s.cp :=
    ⟨onlyChanges_mono (onlyChanges_enterMark s _ _) (by simp), (enterMark_working h _).1, (enterMark_working h _).2,
      (onlyChanges_enterMark s w.ticket c.command.start).2 .cp (by simp)⟩
  cases hcmd : c.command with
  | assign first count d rights wait =>
    rw [hcmd] at hmark
    by_cases ho : (s.domain d).state = .opened
    · simpa only [State.endVerify, lastFails, if_pos ho] using hmark
    · simpa only [State.endVerify, lastFails, if_neg ho] using ended_working h (by simp [hcmd, Command.isRetire])
        (by simp [hcmd, Command.isFormat]) _
  | shareRange first count i =>
    rw [hcmd] at hmark
    by_cases ho : (s.share i).inUse = true ∧ (s.share i).owner = w.shareOwner
    · simpa only [State.endVerify, lastFails, if_pos ho] using hmark
    · simpa only [State.endVerify, lastFails, if_neg ho] using ended_working h (by simp [hcmd, Command.isRetire])
        (by simp [hcmd, Command.isFormat]) _
  | reclaim | unshareRange =>
    rw [hcmd] at hmark
    exact hmark
  | revive => simp [hcmd, Command.isRevive] at hnr
  | _ => simp [hcmd, verifyRow] at hc

theorem verifyAct_of_wait {s : State} {w : Work} {c : Command} {r : TagRec}
    (h : s.verifyTag w c w.cursor r.tag = .wait) :
    s.verifyAct w c r = s.updateWork fun w => { w with scrubWait := some w.cursor } := by
  rw [State.verifyAct, h]

theorem verifyAct_of_fail {s : State} {w : Work} {c : Command} {r : TagRec} {st : Completion}
    (h : s.verifyTag w c w.cursor r.tag = .fail st) : s.verifyAct w c r = s.notify w.ticket st := by
  rw [State.verifyAct, h]

/-- A tag has passed VERIFY (R99). -/
theorem verifyAct_of_pass {s : State} {w : Work} {c : Command} {r : TagRec} (hc : c ≠ .recount)
    (h : s.verifyTag w c w.cursor r.tag = .pass) :
    s.verifyAct w c r =
      if c.stop s.tenants ≤ w.cursor + 1 then
        (s.updateWork fun _ => { w with cursor := w.cursor + 1 }).endVerify { w with cursor := w.cursor + 1 } c
      else s.updateWork fun _ => { w with cursor := w.cursor + 1 } := by
  rw [State.verifyAct, h]
  simp only [if_neg hc]

theorem notified_from {s x u : State} (ht : x.te.table = s.te.table) (hn : x.te.counter = s.te.counter)
    (hcp : x.cp = s.cp) (heu : x.eu = s.eu) {c : Cmd} {st : Completion} (h : Notified x u c st) : Notified s u c st := by
  obtain ⟨hb, hcur, hnotice⟩ := h
  refine ⟨cmdBecomes_from ht hn hb, hcur, ?_⟩
  rw [hnotice, completed, completed, hcp, heu]

theorem lastFails_of_tables {s x : State} (hd : x.domains = s.domains) (hs : x.shares = s.shares) (o : DomainId)
    (c : Command) : lastFails x o c = lastFails s o c := by
  have hshare (i : ShareIx) : x.share i = s.share i := by simp [State.share, hs]
  cases c with
  | assign first count d rights wait => rw [lastFails, lastFails, domain_of_domains hd]
  | shareRange first count i => rw [lastFails, lastFails, hshare]
  | _ => rfl

theorem forwardedIn_of_ports {s x : State} (ha : x.portA = s.portA) (hb : x.portB = s.portB) (p : Nat → Bool) :
    forwardedIn x p = forwardedIn s p := by
  rw [forwardedIn, forwardedIn, ha, hb]

/-- A unit on a cached line that then changes the engine, and with it the control port, alone. -/
theorem onlyChanges_unit {s u : State} {j : Nat} {line : TagLine} (hc : Cached s j line) {bs : List Block}
    (hu : OnlyChanges bs (s.recent j line) u) (htc : Block.tc ∉ bs) :
    OnlyChanges ([.tc] ++ bs) s u ∧ OnlyRecency s u j :=
  ⟨onlyChanges_trans (onlyChanges_recent s j line) hu, onlyRecency_of_tc rfl (hu.2 .tc htc) (onlyRecency_recent hc)⟩

/-- Settles O44: VERIFY fails, waits, goes on, or enters MARK or the drain. -/
theorem verifyTakesTag : Obligations.VerifyTakesTag := by
  intro s w c line i h hph hi hb hwait hcached tag fails waits last
  have hs : Working s w c := working_of_engaged h
  have hx : Working (s.recent (w.cursor / 4) line) w c := hs.of_te (by simp)
  have hsome : (verifyRow c.command).isSome = true := by rw [hi]; rfl
  have hnr : c.command.isRetire = false := by cases hc : c.command <;> simp_all [verifyRow, Command.isRetire]
  have hnf : c.command.isFormat = false := by cases hc : c.command <;> simp_all [verifyRow, Command.isFormat]
  have hnc : c.command ≠ .recount := by rintro hc; simp [hc, verifyRow] at hi
  have hexec : exec i s = .next ((s.recent (w.cursor / 4) line).verifyAct w c.command (line.get (w.cursor % 4))).settle := by
    rw [exec_verifyRow h hph hi hb hwait, engineTry_of_cached hs hnf hcached, engineAct_of_working hx, hph]
  have hrun : (s.recent (w.cursor / 4) line).inRun w.cursor = s.inRun w.cursor := by simp [State.inRun]
  have hcases := verifyTag_cases (s.recent (w.cursor / 4) line) w c.command w.cursor tag hsome
  rw [hrun] at hcases
  rcases hcases with ⟨hw, hv, hf⟩ | ⟨hw, ⟨st, hf, hv⟩ | ⟨hf, hv⟩⟩
  · rw [verifyAct_of_wait hv] at hexec
    have hu := onlyChanges_unit hcached (onlyChanges_mono (onlyChanges_updateWork (s.recent (w.cursor / 4) line)
      fun w => { w with scrubWait := some w.cursor }) (cs := [.te, .cp]) (by simp)) (by simp)
    refine ⟨_, hexec, hu.1, hu.2, fun _ => ⟨?_, by simp⟩, fun hn => absurd hw hn, fun hn => ?_, fun hn => ?_⟩
    · rw [updateWork_te hx.current]
      simp
    · simp [fails, hn] at hf
    · simp [fails, hn] at hf
  · rw [verifyAct_of_fail hv] at hexec
    obtain ⟨hch, hn⟩ := ended_working hx hnr hnf st
    have hu := onlyChanges_unit hcached hch (by simp)
    refine ⟨_, hexec, hu.1, hu.2, fun hy => absurd hy hw, fun _ st' hst => ?_, fun hn => ?_, fun hn => ?_⟩
    · obtain rfl : st = st' := Option.some.inj (hf.symm.trans hst)
      exact notified_from (by simp) (by simp) (by simp) (by simp) hn
    · exact absurd (hf.symm.trans hn) (by simp)
    · exact absurd (hf.symm.trans hn) (by simp)
  · rw [verifyAct_of_pass hnc hv] at hexec
    have hten : (s.recent (w.cursor / 4) line).tenants = s.tenants := by simp [State.tenants]
    rw [hten] at hexec
    generalize hye : ((s.recent (w.cursor / 4) line).updateWork fun _ => { w with cursor := w.cursor + 1 }) = y at hexec
    have hyc : OnlyChanges [.te] (s.recent (w.cursor / 4) line) y := hye ▸ onlyChanges_updateWork _ _
    have hyt : y.te = { s.te with current := some { w with cursor := w.cursor + 1 } } := by
      rw [← hye, updateWork_te hx.current]
      simp
    have hother (b : Block) (hte : b ≠ .te) (htc : b ≠ .tc) : b.same s y :=
      block_same_trans ((onlyChanges_recent s _ line).2 b (by simpa using htc)) (hyc.2 b (by simpa using hte))
    have hy : Working y { w with cursor := w.cursor + 1 } c := ⟨by rw [hyt], (cmd_of_te (by rw [hyt]) _).trans hs.cmd⟩
    by_cases hl : last
    · rw [if_pos hl] at hexec
      have hnone (hst : ∃ st, fails = some st) : False := by
        obtain ⟨st, hst⟩ := hst
        exact absurd (hf.symm.trans hst) (by simp)
      by_cases hr : c.command.isRevive = true
      · obtain ⟨first, count, hcmd⟩ : ∃ first count, c.command = .revive first count := by
          cases hc : c.command <;> simp_all [Command.isRevive]
        have hend : y.endVerify { w with cursor := w.cursor + 1 } c.command = y.enterDrain w.ticket := by rw [hcmd]; rfl
        rw [hend] at hexec
        have hu := onlyChanges_unit hcached (onlyChanges_mono (onlyChanges_trans hyc (onlyChanges_enterDrain y w.ticket))
          (cs := [.te, .cp]) (by simp)) (by simp)
        obtain ⟨hcb, hcur⟩ := drains_enterDrain hy
        have hsnap : y.takeSnapshot c = forwardedIn s fun g => decide (first ≤ g) && decide (g < first + count) := by
          rw [takeSnapshot_revive y hcmd, forwardedIn_of_ports (hother .portA (by simp) (by simp))
            (hother .portB (by simp) (by simp))]
        rw [hsnap] at hcb hcur
        rw [hother .mc (by simp) (by simp)] at hcur
        refine ⟨_, hexec, hu.1, hu.2, fun hy => absurd hy hw, fun _ st hst => (hnone ⟨st, hst⟩).elim,
          fun _ h => absurd hl h, fun _ _ => ?_⟩
        rw [hcmd]
        refine ⟨⟨cmdBecomes_from (by rw [hyt]) (by rw [hyt]) hcb, hcur⟩, ?_⟩
        exact ((onlyChanges_enterDrain y w.ticket).2 .cp (by simp)).trans (hother .cp (by simp) (by simp))
      · obtain ⟨hch, hend⟩ := endVerify_working hy hsome (by simpa using hr)
        have hu := onlyChanges_unit hcached (onlyChanges_mono (onlyChanges_trans hyc hch) (cs := [.te, .cp]) (by simp))
          (by simp)
        have hcp := hother .cp (by simp) (by simp)
        rw [lastFails_of_tables (hother .domains (by simp) (by simp)) (hother .shares (by simp) (by simp))] at hend
        refine ⟨_, hexec, hu.1, hu.2, fun hy => absurd hy hw, fun _ st hst => (hnone ⟨st, hst⟩).elim,
          fun _ h => absurd hl h, fun _ _ => ?_⟩
        split
        · next first count hcmd => simp [hcmd, Command.isRevive] at hr
        · cases hlf : lastFails s w.shareOwner c.command with
          | some st =>
            rw [hlf] at hend
            exact notified_from (by rw [hyt]) (by rw [hyt]) hcp (hother .eu (by simp) (by simp)) hend
          | none =>
            rw [hlf] at hend
            obtain ⟨hcb, hcur, hcp'⟩ := hend
            exact ⟨cmdBecomes_from (by rw [hyt]) (by rw [hyt]) hcb, hcur, hcp'.trans hcp⟩
    · rw [if_neg hl] at hexec
      have hu := onlyChanges_unit hcached (onlyChanges_mono hyc (cs := [.te, .cp]) (by simp)) (by simp)
      exact ⟨_, hexec, hu.1, hu.2, fun hy => absurd hy hw, fun _ st' hst => absurd (hf.symm.trans hst) (by simp),
        fun _ _ => ⟨hyt, hother .cp (by simp) (by simp)⟩, fun _ h => absurd h hl⟩

end Sys2Proof.Machine

namespace Sys2Proof.Machine

open Sys2Proof.Safety

/-! # RECOUNT -/

theorem count_heldCounts (w : Work) (t : Tag) (d : DomainId) :
    smapGet 0 (w.count t).heldCounts d.toNat = smapGet 0 w.heldCounts d.toNat + if heldBy t = some d then 1 else 0 := by
  have hset (o : DomainId) : smapGet 0 (smapSet 0 w.heldCounts o.toNat (smapGet 0 w.heldCounts o.toNat + 1)) d.toNat =
      smapGet 0 w.heldCounts d.toNat + if o = d then 1 else 0 := by
    rw [smapGet_set]
    by_cases h : o = d
    · rw [if_pos h, if_pos (by rw [h]), h]
    · rw [if_neg h, if_neg fun he => h (BitVec.eq_of_toNat_eq he.symm), Nat.add_zero]
  cases t <;> simp [Work.count, heldBy, hset]

theorem count_refCounts (w : Work) (t : Tag) (i : ShareIx) :
    smapGet 0 (w.count t).refCounts i.toNat = smapGet 0 w.refCounts i.toNat + if t.share = some i then 1 else 0 := by
  cases t with
  | shared o r k =>
    rw [Work.count, smapGet_set]
    by_cases h : k = i
    · simp [h, Tag.share]
    · simp [h, Tag.share, show i.toNat ≠ k.toNat from fun he => h (BitVec.eq_of_toNat_eq he.symm)]
  | _ => simp [Work.count, Tag.share]

/-- The counts are all that a tag changes of the engine's work (R114). -/
theorem count_rest (w : Work) (t : Tag) (n : Nat) :
    { w.count t with cursor := n, heldCounts := [], refCounts := [] } =
      { w with cursor := n, heldCounts := [], refCounts := [] } := by
  cases t <;> rfl

theorem count_carries (w : Work) (t : Tag) : (w.count t).ticket = w.ticket ∧ (w.count t).lossReported = w.lossReported := by
  cases t <;> exact ⟨rfl, rfl⟩

theorem applyCounts_domain (s : State) (held refs : SMap Nat) (d : DomainId) :
    (s.applyCounts held refs).domain d = { s.domain d with held := smapGet 0 held d.toNat } := by
  simp only [State.applyCounts, State.domain, State.setShares_domains, State.setDomains_domains]
  rw [smapGet_updateBelow, if_pos (show d.toNat < Config.domainCount from d.isLt)]

theorem applyCounts_share (s : State) (held refs : SMap Nat) (i : ShareIx) :
    (s.applyCounts held refs).share i =
      if (s.share i).inUse = true then { s.share i with refcount := smapGet 0 refs i.toNat } else s.share i := by
  simp only [State.applyCounts, State.share, State.setShares_shares]
  rw [smapGet_updateBelow, if_pos (show i.toNat < Config.shareCount from i.isLt)]
  rfl

theorem onlyChanges_applied (s : State) (held refs : SMap Nat) (m : ModeController) :
    OnlyChanges [.domains, .shares, .mc] s ((s.applyCounts held refs).setMc m) :=
  ⟨by simp, fun b hb => by cases b <;> simp_all [Block.same]⟩

/-- The end of a sweep: the counts are applied, and COUNTS_STALE is cleared unless a loss was reported (R114). -/
theorem applyRecount_eq (s : State) (w : Work) :
    s.applyRecount w =
      ((s.applyCounts w.heldCounts w.refCounts).setMc
        { s.mc with countsStale := w.lossReported && s.mc.countsStale }).notify w.ticket
        (if w.lossReported then .staleAgain else .done) := by
  have hmc : (s.applyCounts w.heldCounts w.refCounts).mc = s.mc := by simp
  unfold State.applyRecount
  cases w.lossReported
  · simp
  · have hself : (s.applyCounts w.heldCounts w.refCounts).setMc s.mc = s.applyCounts w.heldCounts w.refCounts := by
      rw [← hmc, State.setMc_self]
    simp [hself]

/-- The sweep counts the tag, credits it, and goes on or ends (R114). -/
theorem verifyAct_recount (s : State) (w : Work) (r : TagRec) :
    s.verifyAct w .recount r =
      let w' : Work := { w.count r.tag with cursor := w.cursor + 1 }
      let u := (s.creditDone w.ticket).updateWork fun _ => w'
      if s.tenants ≤ w.cursor + 1 then u.applyRecount w' else u := by
  rfl

/-- Settles O45: the sweep counts each tag, and its end sets the counts and COUNTS_STALE. -/
theorem recountSweeps : Obligations.RecountSweeps := by
  intro s w c line h hph hcmd hcached tag c' held refs
  have hs : Working s w c := working_of_engaged h
  have hx : Working (s.recent (w.cursor / 4) line) w c := hs.of_te (by simp)
  have hexec : exec .recountSweep s =
      .next ((s.recent (w.cursor / 4) line).verifyAct w .recount (line.get (w.cursor % 4))).settle := by
    have hrow := onPhase_of_engaged h hph (kind := Command.isRecount) (by rw [hcmd]; rfl) tagUnit
    rw [tagUnit, engineTry_of_cached hs (by rw [hcmd]; rfl) hcached, engineAct_of_working hx, hph, hcmd] at hrow
    exact hrow
  rw [verifyAct_recount] at hexec
  have hten : (s.recent (w.cursor / 4) line).tenants = s.tenants := by simp [State.tenants]
  rw [hten] at hexec
  dsimp only at hexec
  have hbec : CmdBecomes (s.recent (w.cursor / 4) line) ((s.recent (w.cursor / 4) line).creditDone w.ticket) w.ticket c' :=
    cmdBecomes_updateCmd (f := fun c => { c with doneCount := c.doneCount + 1 }) hx.cmd fun _ => rfl
  have hheld (d : DomainId) : smapGet 0 (w.count tag).heldCounts d.toNat = held d := count_heldCounts w tag d
  have hrefs (i : ShareIx) : smapGet 0 (w.count tag).refCounts i.toNat = refs i := count_refCounts w tag i
  obtain ⟨htick, hloss⟩ := count_carries w tag
  generalize hye : ((s.recent (w.cursor / 4) line).creditDone w.ticket).updateWork
    (fun _ => { w.count tag with cursor := w.cursor + 1 }) = y at hexec
  have hyc : OnlyChanges [.te] (s.recent (w.cursor / 4) line) y :=
    hye ▸ onlyChanges_mono (onlyChanges_trans (onlyChanges_updateCmd _ _ _) (onlyChanges_updateWork _ _)) (by simp)
  have hyb : CmdBecomes s y w.ticket c' :=
    hye ▸ cmdBecomes_updateWork (cmdBecomes_from (by simp) (by simp) hbec) _
  have hycur : y.te.current = some { w.count tag with cursor := w.cursor + 1 } := by
    rw [← hye]
    exact updateWork_current (w := w) (by simpa [State.creditDone, State.updateCmd] using hs.current) _
  have hother (b : Block) (hte : b ≠ .te) (htc : b ≠ .tc) : b.same s y :=
    block_same_trans ((onlyChanges_recent s _ line).2 b (by simpa using htc)) (hyc.2 b (by simpa using hte))
  by_cases hl : s.tenants ≤ w.cursor + 1
  · rw [if_pos hl, applyRecount_eq, htick, hloss] at hexec
    generalize hze : (y.applyCounts (w.count tag).heldCounts (w.count tag).refCounts).setMc
      { y.mc with countsStale := w.lossReported && y.mc.countsStale } = z at hexec
    have hzc : OnlyChanges [.domains, .shares, .mc] y z :=
      hze ▸ onlyChanges_applied y _ _ _
    have hzb : CmdBecomes s z w.ticket c' := cmdBecomes_of_table (by simp [← hze]) (by simp [← hze]) hyb
    have hzcur : z.te.current = some { w.count tag with cursor := w.cursor + 1 } := by simp [← hze, hycur]
    have hk : c'.ticket = w.ticket := hs.ticket
    have hn := onlyChanges_notify (st := if w.lossReported then .staleAgain else .done) hzb.1
      fun u => finishKind_of_plain (by simp [c', hcmd, Command.isRetire]) (by simp [c', hcmd, Command.isFormat]) u _
    have hu := onlyChanges_unit hcached (onlyChanges_trans (onlyChanges_trans hyc hzc) hn) (by simp)
    refine ⟨_, hexec, hu.2, fun hlt => absurd hl (by omega), fun _ => ⟨onlyChanges_mono hu.1 (by simp), ?_, ?_, ?_, ?_⟩⟩
    · intro d
      rw [domain_of_domains (hn.2 .domains (by simp)), ← hze, State.setMc_domain, applyCounts_domain, hheld,
        domain_of_domains (hother .domains (by simp) (by simp))]
    · intro i
      have hshares : z.shares = (y.applyCounts (w.count tag).heldCounts (w.count tag).refCounts).shares := by simp [← hze]
      have hys : y.share i = s.share i := by simp [State.share, show y.shares = _ from hother .shares (by simp) (by simp)]
      have hus : (z.notify w.ticket (if w.lossReported then .staleAgain else .done)).share i =
          (y.applyCounts (w.count tag).heldCounts (w.count tag).refCounts).share i := by
        simp only [State.share, show _ = z.shares from hn.2 .shares (by simp), hshares]
      rw [hus, applyCounts_share, hrefs, hys]
    · rw [show _ = z.mc from hn.2 .mc (by simp), ← hze, State.setMc_mc, show y.mc = _ from hother .mc (by simp) (by simp)]
    · rw [← hk]
      refine notified_notify (hk ▸ hzb) ⟨_, hzcur, htick.trans hk.symm⟩ ?_ ?_
      · exact (hzc.2 .cp (by simp)).trans (hother .cp (by simp) (by simp))
      · exact (hzc.2 .eu (by simp)).trans (hother .eu (by simp) (by simp))
  · rw [if_neg hl] at hexec
    have hu := onlyChanges_unit hcached hyc (by simp)
    exact ⟨_, hexec, hu.2, fun _ => ⟨_, hu.1, hyb, hycur, count_rest w tag _, hheld, hrefs⟩, fun hle => absurd hle hl⟩

end Sys2Proof.Machine

namespace Sys2Proof.Machine

open Sys2Proof.Safety

/-! # A cached line is rewritten -/

/-- The set with a way replaced and made the most recent. -/
theorem putRecent_split {ws : CacheSet} {way : Nat} {st : WayState} (hwf : setWf ws) (hm : (way, st) ∈ ws)
    (st' : WayState) : ∃ older newer, ws = older ++ (way, st) :: newer ∧
      CacheSet.putRecent ws way st' = older ++ newer ++ [(way, st')] := by
  obtain ⟨older, newer, hs⟩ := List.append_of_mem hm
  have hnum := hwf.2.1
  rw [hs] at hnum
  exact ⟨older, newer, hs, by rw [hs, putRecent_append hnum]⟩

/-- A way that takes a line no other way holds leaves the set in order (R77, R78). -/
theorem setWf_putRecent {ws : CacheSet} {way : Nat} {st st' : WayState} (hwf : setWf ws) (hm : (way, st) ∈ ws)
    (hl : st'.line = st.line ∨ ∀ w ∈ ws, w.2.line ≠ st'.line) : setWf (CacheSet.putRecent ws way st') := by
  obtain ⟨older, newer, hs, hp⟩ := putRecent_split hwf hm st'
  rw [hp]
  rw [hs] at hwf hl
  refine setWf_of_perm (setWf_replace hwf hl) ?_
  rw [List.append_assoc]
  exact (List.perm_append_singleton _ _).append_left older

/-- The line that a way takes is cached with the records put there (R77, R79). -/
theorem putValid_valid {tc : TagCache} {j way : Nat} {st : WayState} (hwf : setWf (tc.set j)) (hm : (way, st) ∈ tc.set j)
    (hl : st.line = some j ∨ ∀ w ∈ tc.set j, w.2.line ≠ some j) (line : TagLine) :
    setWf ((tc.putValid way j line).set j) ∧ (way, WayState.valid j line) ∈ (tc.putValid way j line).set j := by
  rw [putValid_set, if_pos rfl]
  have hl' : (WayState.valid j line).line = st.line ∨ ∀ w ∈ tc.set j, w.2.line ≠ (WayState.valid j line).line :=
    hl.imp_left fun h => h.symm
  refine ⟨setWf_putRecent hwf hm hl', ?_⟩
  obtain ⟨older, newer, -, hp⟩ := putRecent_split hwf hm (.valid j line)
  rw [hp]
  simp

/-- Every other line stays cached as it was. -/
theorem putValid_validLine_ne {tc : TagCache} {j way : Nat} {old : TagLine} (hwf : setWf (tc.set j))
    (hm : (way, WayState.valid j old) ∈ tc.set j) (line : TagLine) {k : Nat} (hk : k ≠ j) :
    (tc.putValid way j line).validLine k = tc.validLine k := by
  have hwf' := (putValid_valid hwf hm (.inl rfl) line).1
  by_cases hset : Machine.setOf k = Machine.setOf j
  · have hs := set_of_setOf hset tc
    have ht := set_of_setOf hset (tc.putValid way j line)
    obtain ⟨older, newer, hsplit, hp⟩ := putRecent_split hwf hm (.valid j line)
    ext l
    rw [validLine_iff (by rw [ht]; exact hwf'), validLine_iff (by rw [hs]; exact hwf), ht, hs, putValid_set, if_pos rfl,
      hp, hsplit]
    simp [hk]
  · have hkset := putValid_set tc way j k line
    rw [if_neg hset] at hkset
    unfold TagCache.set at hkset
    rw [TagCache.validLine, TagCache.validLine, hkset]

/-- The write-through of a changed record (R86). -/
theorem rewrites_putTag {s : State} {g : Nat} {line : TagLine} (h : Cached s (lineOf g) line) (r : TagRec) :
    Rewrites s (s.putTag g r) g line r := by
  obtain ⟨hwf, way, hm⟩ := h
  have hput : s.putTag g r =
      s.setTc ((s.tc.putValid way (lineOf g) (line.set (g % 4) r)).pushWrite (lineOf g) (line.set (g % 4) r)) := by
    rw [State.putTag, TagCache.validWay_eq_some hwf hm, TagCache.validLine_eq_some hwf hm]
  obtain ⟨hwf', hm'⟩ := putValid_valid hwf hm (.inl rfl) (line.set (g % 4) r)
  rw [hput]
  exact ⟨rfl, rfl, rfl, rfl, ⟨hwf', way, hm'⟩, fun k hk => putValid_validLine_ne hwf hm _ hk⟩

/-- A change of a line whose lookup has hit it. -/
theorem rewrites_recent {s : State} {g : Nat} {line : TagLine} (h : Cached s (g / 4) line) (r : TagRec) :
    Rewrites s ((s.recent (g / 4) line).putTag g r) g line r := by
  have hrec := onlyRecency_recent h
  have hvalid := validLine_of_onlyRecency hrec h.1
  obtain ⟨hf, hst, hw, hh, -, -⟩ := hrec
  obtain ⟨h1, h2, h3, h4, h5, h6⟩ := rewrites_putTag (cached_of_onlyRecency (onlyRecency_recent h) h) r
  exact ⟨h1.trans hf, h2.trans hst, h3.trans hh, h4.trans (by rw [hw]), h5, fun k hk => (h6 k hk).trans (hvalid k)⟩

theorem onlyChanges_putTag (s : State) (g : Nat) (r : TagRec) : OnlyChanges [.tc] s (s.putTag g r) :=
  ⟨by simp, fun b hb => by cases b <;> simp_all [Block.same]⟩

theorem rewrites_of_tc {s t u : State} (h : u.tc = t.tc) {g : Nat} {line : TagLine} {r : TagRec}
    (hr : Rewrites s t g line r) : Rewrites s u g line r := by
  simpa only [Rewrites, Cached, h] using hr

/-- With room in the write list a change is taken at once (R86). -/
theorem change_of_room {s : State} (h : s.tc.writes.length < 32) (party : Party) (g : Nat) (r : TagRec)
    (taken refused held : State → State) : s.change party g true r taken refused held = taken (s.putTag g r) := by
  rw [State.change, if_pos rfl, if_pos (hasRoom_iff.2 h)]

theorem recent_writes {s : State} {j : Nat} {line : TagLine} (h : Cached s j line) :
    (s.recent j line).tc.writes = s.tc.writes := (onlyRecency_recent h).2.2.1

end Sys2Proof.Machine

namespace Sys2Proof.Machine

open Sys2Proof.Safety

/-! # The applies take a tag -/

theorem share_of_shares {s t : State} (h : t.shares = s.shares) (i : ShareIx) : t.share i = s.share i := by
  simp [State.share, h]

theorem shareBecomes_congr {s t s' t' : State} (hs : s'.shares = s.shares) (ht : t'.shares = t.shares) {i : ShareIx}
    {e : ShareEntry} (h : ShareBecomes s t i e) : ShareBecomes s' t' i e := by
  simpa only [ShareBecomes, share_of_shares hs, share_of_shares ht] using h

theorem domainBecomes_congr {s t s' t' : State} (hs : s'.domains = s.domains) (ht : t'.domains = t.domains) {d : DomainId}
    {r : DomainRec} (h : DomainBecomes s t d r) : DomainBecomes s' t' d r := by
  simpa only [DomainBecomes, domain_of_domains hs, domain_of_domains ht] using h

theorem appliesCounts_congr {s t s' t' : State} (hsd : s'.domains = s.domains) (htd : t'.domains = t.domains)
    (hss : s'.shares = s.shares) (hts : t'.shares = t.shares) {c : Command} (h : AppliesCounts s t c) :
    AppliesCounts s' t' c := by
  cases c with
  | assign first count d rights wait =>
    refine ⟨?_, by rw [hts, h.2, hss]⟩
    rw [domain_of_domains hsd]
    exact domainBecomes_congr hsd htd h.1
  | shareRange first count i =>
    refine ⟨?_, by rw [htd, h.2, hsd]⟩
    rw [share_of_shares hss]
    exact shareBecomes_congr hss hts h.1
  | unshareRange first count i =>
    refine ⟨?_, by rw [htd, h.2, hsd]⟩
    rw [share_of_shares hss]
    exact shareBecomes_congr hss hts h.1
  | _ => trivial

theorem shareBecomes_setShare (s : State) (i : ShareIx) (e : ShareEntry) : ShareBecomes s (s.setShare i e) i e :=
  ⟨by simp [State.setShare_share], fun k hk => by simp [State.setShare_share, hk]⟩

/-- An apply skips a tag that it does not expect (R102, R112). -/
theorem markTag_of_applied_none {c : Command} {r : TagRec} (hc : (applyRow c).isSome = true) (h : applied r c = none)
    (k : Ticket) : markTag k c r = none := by
  cases c with
  | assign first count d rights wait => cases ht : r.tag <;> simp_all [applied, markTag]
  | shareRange first count i => cases ht : r.tag <;> simp_all [applied, markTag]
  | unshareRange first count i => cases ht : r.tag <;> simp_all [applied, markTag]
  | _ => simp [applyRow] at hc

/-- An apply writes the new record, changes its count and credits the granule (R102, R112). -/
theorem markTag_of_applied_some {c : Command} {r new : TagRec} (h : applied r c = some new) (k : Ticket) :
    ∃ f : State → State, markTag k c r = some (new, fun s => (f s).creditDone k) ∧
      ∀ u, OnlyChanges [.domains, .shares] u (f u) ∧ AppliesCounts u (f u) c := by
  cases c with
  | assign first count d rights wait =>
    have hfree : r.tag = .free := by
      by_contra hne
      simp [applied, hne] at h
    obtain rfl : _ = new := by simpa [applied, hfree] using h
    exact ⟨fun s => s.heldUp d, by simp [markTag, hfree], fun u => ⟨onlyChanges_mono (onlyChanges_setDomain u d _)
      (by simp), domainBecomes_setDomain u d _, by simp⟩⟩
  | shareRange first count i =>
    cases ht : r.tag with
    | owned o rights =>
      obtain rfl : _ = new := by simpa [applied, ht] using h
      exact ⟨fun s => s.refUp i, by simp [markTag, ht], fun u => ⟨onlyChanges_mono (onlyChanges_setShare u i _)
        (by simp), shareBecomes_setShare u i _, by simp⟩⟩
    | _ => simp [applied, ht] at h
  | unshareRange first count i =>
    cases ht : r.tag with
    | shared o rights j =>
      by_cases hj : j = i
      · obtain rfl : _ = new := by simpa [applied, ht, hj] using h
        exact ⟨fun s => s.refDown i, by simp [markTag, ht, hj], fun u => ⟨onlyChanges_mono (onlyChanges_setShare u i _)
          (by simp), shareBecomes_setShare u i _, by simp⟩⟩
      · simp [applied, ht, hj] at h
    | _ => simp [applied, ht] at h
  | _ => simp [applied] at h

/-- An apply's row is the engine's next unit (R102, R112). -/
theorem exec_applyRow {s : State} {w : Work} {c : Cmd} {i : Instr} (h : Engaged s w c) (hp : c.phase = .mark)
    (hi : applyRow c.command = some i) : exec i s = .next s.engineTry.settle := by
  have htag (kind : Command → Bool) (hk : kind c.command = true) :
      s.onPhase .mark kind tagUnit = .next s.engineTry.settle := onPhase_of_engaged h hp hk tagUnit
  cases hc : c.command <;> simp only [hc, applyRow, reduceCtorEq, Option.some.injEq] at hi <;> subst hi
  case assign => exact htag Command.isAssign (by rw [hc]; rfl)
  case shareRange => exact htag Command.isShareRange (by rw [hc]; rfl)
  case unshareRange => exact htag Command.isUnshareRange (by rw [hc]; rfl)

theorem notifyDone_of_cmd {s : State} {k : Ticket} {c : Cmd} (h : s.cmd k = some c) :
    s.notifyDone k = s.notify k (doneOf c) := by
  rw [State.notifyDone, h]
  rfl

/-- An apply goes on from a granule, or its command completes (R99, R102). -/
theorem markNext_apply {s y : State} {w : Work} {c c' : Cmd} (hcur : y.te.current = some w)
    (hy : CmdBecomes s y w.ticket c') (hcc : c'.command = c.command) (hc : (applyRow c.command).isSome = true)
    (hcp : y.cp = s.cp) (heu : y.eu = s.eu) :
    OnlyChanges [.te, .cp] y (y.markNext w c.command) ∧
      if c.command.stop y.tenants ≤ w.cursor + 1 then Notified s (y.markNext w c.command) c' (doneOf c')
      else GoesOn s (y.markNext w c.command) w c' ∧ (y.markNext w c.command).cp = s.cp := by
  have hw : OnlyChanges [.te] y (y.updateWork fun w => { w with cursor := w.cursor + 1 }) := onlyChanges_updateWork y _
  have hwb : CmdBecomes s (y.updateWork fun w => { w with cursor := w.cursor + 1 }) w.ticket c' := cmdBecomes_updateWork hy _
  have hwcur := updateWork_current hcur fun w => { w with cursor := w.cursor + 1 }
  by_cases hl : c.command.stop y.tenants ≤ w.cursor + 1
  · have hend : y.markNext w c.command = (y.updateWork fun w => { w with cursor := w.cursor + 1 }).notify w.ticket (doneOf c') := by
      rw [← notifyDone_of_cmd hwb.1, State.markNext]
      simp only [if_pos hl]
      cases hcmd : c.command <;> simp_all [applyRow, State.endMark]
    have hplain (u : State) : u.finishKind c'.command (doneOf c') = u := by
      rw [hcc]
      cases hcmd : c.command <;> simp_all [applyRow, State.finishKind]
    have hk := ticket_of_cmd hwb.1
    rw [if_pos hl, hend]
    refine ⟨onlyChanges_mono (onlyChanges_trans hw (onlyChanges_notify hwb.1 hplain)) (by simp), ?_⟩
    rw [← hk]
    exact notified_notify (hk ▸ hwb) ⟨_, hwcur, hk.symm⟩ ((hw.2 .cp (by simp)).trans hcp) ((hw.2 .eu (by simp)).trans heu)
  · have hend : y.markNext w c.command = y.updateWork fun w => { w with cursor := w.cursor + 1 } := if_neg hl
    rw [if_neg hl, hend]
    exact ⟨onlyChanges_mono hw (by simp), ⟨hwb, hwcur⟩, (hw.2 .cp (by simp)).trans hcp⟩

/-- Settles O46: an apply writes or skips the tag it has reached, and goes on or completes. -/
theorem applyTakesTag : Obligations.ApplyTakesTag := by
  intro s w c line i h hph hi hcached r new hroom c'
  have hs : Working s w c := working_of_engaged h
  have hx : Working (s.recent (w.cursor / 4) line) w c := hs.of_te (by simp)
  have hsome : (applyRow c.command).isSome = true := by rw [hi]; rfl
  have hnf : c.command.isFormat = false := by cases hc : c.command <;> simp_all [applyRow, Command.isFormat]
  have hexec : exec i s = .next ((s.recent (w.cursor / 4) line).markAct w c.command r).settle := by
    rw [exec_applyRow h hph hi, engineTry_of_cached hs hnf hcached, engineAct_of_working hx, hph]
  have hten : (s.recent (w.cursor / 4) line).tenants = s.tenants := by simp [State.tenants]
  have hc' : c'.command = c.command := by dsimp only [c']; split <;> rfl
  cases hnew : new with
  | none =>
    have hmark := markTag_of_applied_none hsome hnew w.ticket
    have hact : (s.recent (w.cursor / 4) line).markAct w c.command r =
        ((s.recent (w.cursor / 4) line).creditPoisoned w.ticket).markNext w c.command := by
      rw [State.markAct, hmark]
      cases hcmd : c.command <;> simp_all [applyRow, State.skipCredit, State.noteCredited]
    have hce : c' = { c with poisonedCount := c.poisonedCount + 1 } := if_pos hnew
    generalize hye : (s.recent (w.cursor / 4) line).creditPoisoned w.ticket = y at hact
    have hyc : OnlyChanges [.te] (s.recent (w.cursor / 4) line) y := hye ▸ onlyChanges_updateCmd _ _ _
    have hother (b : Block) (hte : b ≠ .te) (htc : b ≠ .tc) : b.same s y :=
      block_same_trans ((onlyChanges_recent s _ line).2 b (by simpa using htc)) (hyc.2 b (by simpa using hte))
    have hyb : CmdBecomes s y w.ticket c' := by
      rw [hce, ← hye]
      exact cmdBecomes_from (by simp) (by simp)
        (cmdBecomes_updateCmd (f := fun c => { c with poisonedCount := c.poisonedCount + 1 }) hx.cmd fun _ => rfl)
    have hycur : y.te.current = some w := by simpa [← hye, State.creditPoisoned, State.updateCmd] using hs.current
    obtain ⟨hch, hend⟩ := markNext_apply hycur hyb hc' hsome (hother .cp (by simp) (by simp)) (hother .eu (by simp) (by simp))
    rw [show y.tenants = s.tenants by simp [State.tenants, show y.mc = _ from hother .mc (by simp) (by simp)]] at hend
    rw [hact] at hexec
    have hu := onlyChanges_unit hcached (onlyChanges_trans hyc hch) (by simp)
    refine ⟨_, hexec, onlyChanges_mono hu.1 (by simp), ⟨hu.2, ?_, ?_⟩, hend⟩
    · exact (hch.2 .domains (by simp)).trans (hother .domains (by simp) (by simp))
    · exact (hch.2 .shares (by simp)).trans (hother .shares (by simp) (by simp))
  | some r' =>
    obtain ⟨f, hmark, hf⟩ := markTag_of_applied_some hnew w.ticket
    have hce : c' = { c with doneCount := c.doneCount + 1 } := if_neg (by simp [hnew])
    have hlen : (s.recent (w.cursor / 4) line).tc.writes.length < 32 := by
      rw [recent_writes hcached]
      exact hroom.resolve_left (by simp [hnew])
    have hact : (s.recent (w.cursor / 4) line).markAct w c.command r =
        ((f ((s.recent (w.cursor / 4) line).putTag w.cursor r')).creditDone w.ticket).markNext w c.command := by
      rw [State.markAct, hmark]
      exact change_of_room hlen _ _ _ _ _ _
    generalize hpe : (s.recent (w.cursor / 4) line).putTag w.cursor r' = x at hact
    have hxc : OnlyChanges [.tc] s x :=
      hpe ▸ onlyChanges_mono (onlyChanges_trans (onlyChanges_recent s _ line) (onlyChanges_putTag _ _ _)) (by simp)
    have hrw : Rewrites s x w.cursor line r' := hpe ▸ rewrites_recent hcached r'
    obtain ⟨hfc, hcounts⟩ := hf x
    generalize hye : (f x).creditDone w.ticket = y at hact
    have hyc : OnlyChanges [.te] (f x) y := hye ▸ onlyChanges_updateCmd _ _ _
    have hfte : (f x).te = s.te := (hfc.2 .te (by simp)).trans (hxc.2 .te (by simp))
    have hother (b : Block) (hb : b ∉ [Block.tc, .te, .domains, .shares]) : b.same s y :=
      (onlyChanges_trans (onlyChanges_trans hxc hfc) hyc).2 b (by simp_all)
    have hyb : CmdBecomes s y w.ticket c' := by
      rw [hce, ← hye]
      exact cmdBecomes_from (by rw [hfte]) (by rw [hfte])
        (cmdBecomes_updateCmd (f := fun c => { c with doneCount := c.doneCount + 1 }) (hs.of_te hfte).cmd fun _ => rfl)
    have hycur : y.te.current = some w := by simpa [← hye, State.creditDone, State.updateCmd, hfte] using hs.current
    obtain ⟨hch, hend⟩ := markNext_apply hycur hyb hc' hsome (hother .cp (by simp)) (hother .eu (by simp))
    rw [show y.tenants = s.tenants by simp [State.tenants, show y.mc = _ from hother .mc (by simp)]] at hend
    rw [hact] at hexec
    refine ⟨_, hexec, onlyChanges_mono (onlyChanges_trans (onlyChanges_trans (onlyChanges_trans hxc hfc) hyc) hch) (by simp),
      ⟨?_, ?_⟩, hend⟩
    · exact rewrites_of_tc ((hch.2 .tc (by simp)).trans ((hyc.2 .tc (by simp)).trans (hfc.2 .tc (by simp)))) hrw
    · exact appliesCounts_congr (hxc.2 .domains (by simp)).symm
        ((hch.2 .domains (by simp)).trans (hyc.2 .domains (by simp))) (hxc.2 .shares (by simp)).symm
        ((hch.2 .shares (by simp)).trans (hyc.2 .shares (by simp))) hcounts

end Sys2Proof.Machine

namespace Sys2Proof.Machine

open Sys2Proof.Safety

/-! # MARK of RECLAIM and RETIRE takes a tag -/

theorem markCounts_congr {s t s' t' : State} (hsd : s'.domains = s.domains) (htd : t'.domains = t.domains)
    (hss : s'.shares = s.shares) (hts : t'.shares = t.shares) {o : DomainId} {tag : Tag} (h : MarkCounts s t o tag) :
    MarkCounts s' t' o tag := by
  obtain ⟨hd, hshare⟩ := h
  refine ⟨?_, ?_⟩
  · rw [domain_of_domains hsd]
    exact domainBecomes_congr hsd htd hd
  · cases hi : tag.share with
    | none =>
      rw [hi] at hshare
      exact hts.trans (hshare.trans hss.symm)
    | some i =>
      rw [hi] at hshare
      simp only [share_of_shares hss]
      exact shareBecomes_congr hss hts hshare

/-- Whether MARK moves a tag to DRAINING: it is OWNED or SHARED of the command's domain (R104, R109). -/
def marks (t : Tag) (o : DomainId) : Prop := (t.kind = .owned ∨ t.kind = .shared) ∧ t.owner = some o

theorem markTag_of_not_marks {c : Command} {o : DomainId} (hc : draining? c = some o) {r : TagRec} (h : ¬ marks r.tag o)
    (k : Ticket) : markTag k c r = none := by
  cases c with
  | reclaim first count x force =>
    obtain rfl : x = o := Option.some.inj hc
    cases ht : r.tag <;> simp_all [marks, markTag, Tag.kind, Tag.owner]
  | retire x moved =>
    obtain rfl : x = o := Option.some.inj hc
    cases ht : r.tag <;> simp_all [marks, markTag, Tag.kind, Tag.owner]
  | _ => simp [draining?] at hc

/-- MARK takes a tag from the held count of its owner, and a SHARED one from the refcount of its entry (R11, R104). -/
theorem markTag_of_marks {c : Command} {o : DomainId} (hc : draining? c = some o) {r : TagRec} (h : marks r.tag o)
    (k : Ticket) :
    ∃ f : State → State, markTag k c r = some ({ r with tag := .draining o k }, f) ∧
      ∀ u, OnlyChanges [.domains, .shares] u (f u) ∧ MarkCounts u (f u) o r.tag := by
  have hdown (u : State) : OnlyChanges [.domains, .shares] u (u.heldDown o) :=
    onlyChanges_mono (onlyChanges_setDomain u o _) (by simp)
  have hshared (u : State) (i : ShareIx) : OnlyChanges [.domains, .shares] u ((u.heldDown o).refDown i) ∧
      DomainBecomes u ((u.heldDown o).refDown i) o { u.domain o with held := (u.domain o).held - 1 } ∧
      ShareBecomes u ((u.heldDown o).refDown i) i { u.share i with refcount := (u.share i).refcount - 1 } := by
    refine ⟨onlyChanges_mono (onlyChanges_trans (hdown u) (onlyChanges_setShare _ i _)) (by simp), ?_, ?_⟩
    · exact domainBecomes_congr rfl (by simp [State.refDown, State.heldDown]) (domainBecomes_setDomain u o _)
    · have hs := shareBecomes_setShare (u.heldDown o) i
        { (u.heldDown o).share i with refcount := ((u.heldDown o).share i).refcount - 1 }
      rw [share_of_shares (s := u) (by simp)] at hs
      exact shareBecomes_congr (by simp) rfl hs
  cases c with
  | reclaim first count x force =>
    obtain rfl : x = o := Option.some.inj hc
    cases ht : r.tag with
    | owned y rights =>
      obtain rfl : y = x := by simpa [marks, ht, Tag.owner] using h.2
      exact ⟨_, by simp [markTag, ht], fun u => ⟨hdown u, domainBecomes_setDomain u _ _, by simp [Tag.share]⟩⟩
    | shared y rights i =>
      obtain rfl : y = x := by simpa [marks, ht, Tag.owner] using h.2
      exact ⟨_, by simp [markTag, ht], fun u => hshared u i⟩
    | _ => simp [marks, ht, Tag.kind] at h
  | retire x moved =>
    obtain rfl : x = o := Option.some.inj hc
    cases ht : r.tag with
    | owned y rights =>
      obtain rfl : y = x := by simpa [marks, ht, Tag.owner] using h.2
      exact ⟨_, by simp [markTag, ht], fun u => ⟨hdown u, domainBecomes_setDomain u _ _, by simp [Tag.share]⟩⟩
    | shared y rights i =>
      obtain rfl : y = x := by simpa [marks, ht, Tag.owner] using h.2
      exact ⟨_, by simp [markTag, ht], fun u => hshared u i⟩
    | _ => simp [marks, ht, Tag.kind] at h
  | _ => simp [draining?] at hc

/-! ## The snapshot of a RECLAIM or RETIRE -/

theorem tagRec_congr {s t : State} (htc : t.tc = s.tc) (hdram : t.dram = s.dram) (hmc : t.mc = s.mc) (g : Nat) :
    t.tagRec g = s.tagRec g := by
  simp only [State.tagRec, htc, hdram, hmc]

/-- The snapshot: the FORWARDED entries whose granule carries the ticket (R105). -/
theorem takeSnapshot_draining (s : State) {c : Cmd} {o : DomainId} (hc : draining? c.command = some o) :
    s.takeSnapshot c = forwardedIn s fun g =>
      decide (g < s.tenants) && ((s.tagRec g).map fun r => r.tag.ticket) == some (some c.ticket) := by
  have hin : s.inSnapshot c = fun e => e.stage == .forwarded && (decide (granuleOf e.lineNo < s.tenants) &&
      ((s.tagRec (granuleOf e.lineNo)).map fun r => r.tag.ticket) == some (some c.ticket)) := by
    funext e
    cases hcmd : c.command <;> simp_all [State.inSnapshot, draining?]
  simp only [State.takeSnapshot, hin, forwardedIn]

/-- MARK of a RECLAIM or RETIRE goes on from a granule, or its drain begins (R99, R105). `w'` is the work as the granule
leaves it. -/
theorem markNext_drain {s y : State} {w w' : Work} {c c' : Cmd} {o : DomainId} (hcur : y.te.current = some w')
    {l : List Nat} (hw' : w' = { w with credited := l }) (hy : CmdBecomes s y w.ticket c')
    (hcc : c'.command = c.command) (hc : draining? c.command = some o) (hmc : y.mc = s.mc) :
    OnlyChanges [.te] y (y.markNext w c.command) ∧
      if c.command.stop y.tenants ≤ w.cursor + 1 then
        Drains s (y.markNext w c.command) w' c' (forwardedIn y fun g =>
          decide (g < y.tenants) && ((y.tagRec g).map fun r => r.tag.ticket) == some (some w.ticket))
      else GoesOn s (y.markNext w c.command) w' c' := by
  subst hw'
  generalize hz : (y.updateWork fun w => { w with cursor := w.cursor + 1 }) = z
  have hzc : OnlyChanges [.te] y z := hz ▸ onlyChanges_updateWork y _
  have hzb : CmdBecomes s z w.ticket c' := hz ▸ cmdBecomes_updateWork hy _
  have hzcur := updateWork_current hcur fun w => { w with cursor := w.cursor + 1 }
  rw [hz] at hzcur
  by_cases hl : c.command.stop y.tenants ≤ w.cursor + 1
  · have hend : y.markNext w c.command = z.enterDrain w.ticket := by
      rw [State.markNext, hz]
      simp only [if_pos hl]
      cases hcmd : c.command <;> simp_all [draining?, State.endMark]
    obtain ⟨hdb, hdcur⟩ := drains_enterDrain (w := { w with credited := l, cursor := w.cursor + 1 }) ⟨hzcur, hzb.1⟩
    have hsnap : z.takeSnapshot c' = forwardedIn y fun g =>
        decide (g < y.tenants) && ((y.tagRec g).map fun r => r.tag.ticket) == some (some w.ticket) := by
      rw [takeSnapshot_draining z (hcc ▸ hc), ticket_of_cmd hzb.1,
        forwardedIn_of_ports (hzc.2 .portA (by simp)) (hzc.2 .portB (by simp))]
      have htag (g : Nat) : z.tagRec g = y.tagRec g :=
        tagRec_congr (hzc.2 .tc (by simp)) (hzc.2 .dram (by simp)) (hzc.2 .mc (by simp)) g
      have hten : z.tenants = y.tenants := by
        rw [State.tenants, State.tenants, show z.mc = y.mc from hzc.2 .mc (by simp)]
      simp only [htag, hten]
    rw [hsnap] at hdb hdcur
    rw [if_pos hl, hend]
    refine ⟨onlyChanges_mono (onlyChanges_trans hzc (onlyChanges_enterDrain z _)) (by simp), cmdBecomes_trans hzb hdb, ?_⟩
    rw [hdcur, show z.mc = y.mc from hzc.2 .mc (by simp), hmc]
  · have hend : y.markNext w c.command = z := by
      rw [State.markNext, hz]
      exact if_neg hl
    rw [if_neg hl, hend]
    exact ⟨hzc, hzb, hzcur⟩

/-- The snapshot of a unit that has changed the engine alone is that of the state it leaves (R105). -/
theorem forwardedIn_unit {s y u : State} (h : OnlyChanges [.te] y u) (ha : y.portA = s.portA) (hb : y.portB = s.portB)
    (n : Nat) (k : Ticket) :
    forwardedIn y (fun g => decide (g < n) && ((y.tagRec g).map fun r => r.tag.ticket) == some (some k)) =
      forwardedIn s fun g => decide (g < n) && ((u.tagRec g).map fun r => r.tag.ticket) == some (some k) := by
  have htag (g : Nat) : u.tagRec g = y.tagRec g :=
    tagRec_congr (h.2 .tc (by simp)) (h.2 .dram (by simp)) (h.2 .mc (by simp)) g
  rw [forwardedIn_of_ports ha hb]
  simp only [htag]

/-- A granule that MARK skips: a RECLAIM credits it and notes that it has (R100). -/
theorem skipped_mark {x : State} {w : Work} {c : Cmd} (h : Working x w c) {o : DomainId} (ho : draining? c.command = some o) :
    OnlyChanges [.te] x ((x.skipCredit w.ticket c.command).noteCredited c.command w.cursor) ∧
      ∃ l, (if c.command.isReclaim = true then { w with credited := w.credited ++ [w.cursor] } else w) =
          { w with credited := l } ∧
        ((x.skipCredit w.ticket c.command).noteCredited c.command w.cursor).te.current =
          some (if c.command.isReclaim = true then { w with credited := w.credited ++ [w.cursor] } else w) ∧
        CmdBecomes x ((x.skipCredit w.ticket c.command).noteCredited c.command w.cursor) w.ticket
          { c with poisonedCount := c.poisonedCount + if c.command.isReclaim = true then 1 else 0 } := by
  cases hc : c.command with
  | reclaim first count y force =>
    refine ⟨?_, _, rfl, ?_, ?_⟩
    · exact onlyChanges_mono (onlyChanges_trans (onlyChanges_updateCmd x _ _) (onlyChanges_updateWork _ _)) (by simp)
    · exact updateWork_current (w := w) (by simpa [State.skipCredit, State.creditPoisoned, State.updateCmd] using h.current) _
    · have hb := cmdBecomes_updateCmd (f := fun c => { c with poisonedCount := c.poisonedCount + 1 }) h.cmd fun _ => rfl
      rw [hc] at hb
      exact cmdBecomes_updateWork hb _
  | retire y moved =>
    have hb : CmdBecomes x x w.ticket { c with poisonedCount := c.poisonedCount + 0 } := cmdBecomes_refl rfl rfl h.cmd
    rw [hc] at hb
    exact ⟨⟨rfl, fun b _ => by cases b <;> rfl⟩, w.credited, rfl, h.current, hb⟩
  | _ => simp [hc, draining?] at ho

theorem rewrites_congr {s v x u : State} (hv : v.tc = s.tc) (hu : u.tc = x.tc) {g : Nat} {line : TagLine} {r : TagRec}
    (h : Rewrites v x g line r) : Rewrites s u g line r := by
  simpa only [Rewrites, Cached, hv, hu] using h

/-! ## The rows -/

/-- A RETIRE passes VERIFY with its first unit (R109). -/
theorem exec_retireMark_verify {s : State} {w : Work} {c : Cmd} (h : Engaged s w c) (hr : c.command.isRetire = true)
    (hp : c.phase = .verify) :
    exec .retireMark s = .next (s.enterMark w.ticket c.command.start).engineTry.settle := by
  rw [exec, execRetireMark, onEvent_of_no_reset h.1, (working_of_engaged h).currentCmd]
  simp [hr, hp, h.2.2.2]

theorem exec_retireMark_mark {s : State} {w : Work} {c : Cmd} (h : Engaged s w c) (hr : c.command.isRetire = true)
    (hp : c.phase = .mark) : exec .retireMark s = .next s.engineTry.settle := by
  rw [exec, execRetireMark, onEvent_of_no_reset h.1, (working_of_engaged h).currentCmd]
  simp [hr, hp, h.2.2.2]

theorem start_of_isRetire {c : Command} (h : c.isRetire = true) : c.start = 0 := by
  cases c <;> first | rfl | simp [Command.isRetire] at h

/-- MARK's unit is that of a state in which the command is in MARK (R104, R109). -/
theorem exec_mark {s : State} {w : Work} {c : Cmd} {i : Instr} (h : Engaged s w c)
    (hi : (i = .reclaimMark ∧ c.command.isReclaim = true ∧ c.phase = .mark) ∨
      (i = .retireMark ∧ c.command.isRetire = true ∧ (c.phase = .mark ∨ (c.phase = .verify ∧ w.cursor = 0)))) :
    ∃ v, exec i s = .next v.engineTry.settle ∧ OnlyChanges [.te] s v ∧ Working v w { c with phase := .mark } ∧
      CmdBecomes s v w.ticket { c with phase := .mark } := by
  have hs := working_of_engaged h
  have hmark (hp : c.phase = .mark) : OnlyChanges [.te] s s ∧ Working s w { c with phase := .mark } ∧
      CmdBecomes s s w.ticket { c with phase := .mark } := by
    rw [← hp]
    exact ⟨⟨rfl, fun b _ => by cases b <;> rfl⟩, hs, cmdBecomes_refl rfl rfl hs.cmd⟩
  rcases hi with ⟨rfl, hk, hp⟩ | ⟨rfl, hk, hp | ⟨hp, h0⟩⟩
  · exact ⟨s, onPhase_of_engaged h hp (kind := Command.isReclaim) hk tagUnit, hmark hp⟩
  · exact ⟨s, exec_retireMark_mark h hk hp, hmark hp⟩
  · refine ⟨_, exec_retireMark_verify h hk hp, onlyChanges_enterMark s _ _, ?_⟩
    obtain ⟨hb, hcur⟩ := enterMark_working hs c.command.start
    have hw : { w with cursor := c.command.start } = w := by rw [start_of_isRetire hk, ← h0]
    exact ⟨⟨hw ▸ hcur, hb.1⟩, hb⟩

/-- Settles O47: MARK moves a tag to DRAINING or skips it, and goes on or begins the drain. -/
theorem markTakesTag : Obligations.MarkTakesTag := by
  constructor
  · intro s w c h hr hp
    obtain ⟨hb, hcur⟩ := enterMark_working (working_of_engaged h) c.command.start
    rw [start_of_isRetire hr] at hb hcur
    refine ⟨s.enterMark w.ticket 0, ?_, onlyChanges_enterMark s _ _, hb, hcur⟩
    have hv : Engaged (s.enterMark w.ticket 0) { w with cursor := 0 } { c with phase := .mark } :=
      ⟨by simpa using h.1, hcur, hb.1, h.2.2.2⟩
    rw [exec_retireMark_verify h hr hp, exec_retireMark_mark hv hr rfl, start_of_isRetire hr]
  · intro s w c line o i h hi ho hcached r mine hroom w'
    obtain ⟨v, hexec, hvc, hv, hvb⟩ := exec_mark h hi
    have hnf : c.command.isFormat = false := by cases hc : c.command <;> simp_all [draining?, Command.isFormat]
    have hcv : Cached v (w.cursor / 4) line := cached_of_tc (hvc.2 .tc (by simp)) hcached
    have hx : Working (v.recent (w.cursor / 4) line) w { c with phase := .mark } := hv.of_te (by simp)
    rw [engineTry_of_cached hv hnf hcv, engineAct_of_working hx] at hexec
    have hten (y : State) (hy : y.mc = s.mc) : y.tenants = s.tenants := by rw [State.tenants, State.tenants, hy]
    by_cases hmine : mine
    · obtain ⟨f, hmark, hf⟩ := markTag_of_marks ho (r := r) hmine w.ticket
      have hw' : w' = w := if_neg fun hn => hn.1 hmine
      have hlen : (v.recent (w.cursor / 4) line).tc.writes.length < 32 := by
        rw [recent_writes hcv, show v.tc = s.tc from hvc.2 .tc (by simp)]
        exact hroom.resolve_left fun hn => hn hmine
      have hact : (v.recent (w.cursor / 4) line).markAct w c.command r =
          (f ((v.recent (w.cursor / 4) line).putTag w.cursor { r with tag := .draining o w.ticket })).markNext w c.command := by
        rw [State.markAct, hmark]
        exact change_of_room hlen _ _ _ _ _ _
      generalize hpe : (v.recent (w.cursor / 4) line).putTag w.cursor { r with tag := .draining o w.ticket } = x at hact
      have hrw : Rewrites v x w.cursor line { r with tag := .draining o w.ticket } := hpe ▸ rewrites_recent hcv _
      have hxc : OnlyChanges [.tc] v x :=
        hpe ▸ onlyChanges_mono (onlyChanges_trans (onlyChanges_recent v _ line) (onlyChanges_putTag _ _ _)) (by simp)
      obtain ⟨hfc, hcounts⟩ := hf x
      have hall := onlyChanges_trans (onlyChanges_trans hvc hxc) hfc
      have hfte : (f x).te = v.te := (hfc.2 .te (by simp)).trans (hxc.2 .te (by simp))
      have hmc : (f x).mc = s.mc := hall.2 .mc (by simp)
      obtain ⟨hch, hend⟩ := markNext_drain (s := s) (c := c) (w := w) (w' := w) (by rw [hfte]; exact hv.current) rfl
        (cmdBecomes_of_table (by rw [hfte]) (by rw [hfte]) hvb) rfl ho hmc
      rw [hten _ hmc] at hend
      have hu := onlyChanges_trans hall hch
      refine ⟨_, { c with phase := .mark }, hexec.trans (by rw [hact]), onlyChanges_mono hu (by simp),
        fun _ => ⟨rfl, ?_, ?_⟩, fun hn => absurd hmine hn, ?_⟩
      · exact rewrites_congr (hvc.2 .tc (by simp)) ((hch.2 .tc (by simp)).trans (hfc.2 .tc (by simp))) hrw
      · have hvx := onlyChanges_trans hvc hxc
        exact markCounts_congr (hvx.2 .domains (by simp)).symm (hch.2 .domains (by simp)) (hvx.2 .shares (by simp)).symm
          (hch.2 .shares (by simp)) hcounts
      · rw [forwardedIn_unit hch (hall.2 .portA (by simp)) (hall.2 .portB (by simp))] at hend
        rw [hw']
        exact hend
    · have hmark := markTag_of_not_marks ho (r := r) hmine w.ticket
      have hact : (v.recent (w.cursor / 4) line).markAct w c.command r =
          (((v.recent (w.cursor / 4) line).skipCredit w.ticket c.command).noteCredited c.command w.cursor).markNext w
            c.command := by
        rw [State.markAct, hmark]
      obtain ⟨hyc, l, hl, hycur, hyb⟩ := skipped_mark hx ho
      generalize ((v.recent (w.cursor / 4) line).skipCredit w.ticket c.command).noteCredited c.command w.cursor = y
        at hact hyc hycur hyb
      have hxc := onlyChanges_recent v (w.cursor / 4) line
      have hall := onlyChanges_trans (onlyChanges_trans hvc hxc) hyc
      have hmc : y.mc = s.mc := hall.2 .mc (by simp)
      have hw' : w' = { w with credited := l } := by
        rw [← hl]
        exact if_congr (and_iff_right hmine) rfl rfl
      obtain ⟨hch, hend⟩ := markNext_drain (s := s) (c := c) hycur hl
        (cmdBecomes_trans hvb (cmdBecomes_from (by simp) (by simp) hyb)) rfl ho hmc
      rw [hten _ hmc, forwardedIn_unit hch (hall.2 .portA (by simp)) (hall.2 .portB (by simp))] at hend
      refine ⟨_, _, hexec.trans (by rw [hact]), onlyChanges_mono (onlyChanges_trans hall hch) (by simp),
        fun hm => absurd hm hmine, fun _ => ⟨rfl, ?_, ?_, ?_⟩, ?_⟩
      · have hrec := onlyRecency_of_tc (s' := s) (hvc.2 .tc (by simp)).symm rfl (onlyRecency_recent hcv)
        exact onlyRecency_of_tc rfl ((hch.2 .tc (by simp)).trans (hyc.2 .tc (by simp))) hrec
      · exact (hch.2 .domains (by simp)).trans (hall.2 .domains (by simp))
      · exact (hch.2 .shares (by simp)).trans (hall.2 .shares (by simp))
      · rw [hw', ← hl]
        exact hend

end Sys2Proof.Machine

namespace Sys2Proof.Machine

open Sys2Proof.Safety

/-! # A drain times out -/

theorem exec_drainTimeout {s : State} {w : Work} {c : Cmd} (h : Engaged s w c) (hp : c.phase = .drain) :
    exec .drainTimeout s = .next (drainUnit w c.command s).settle :=
  onPhase_of_engaged h hp (kind := fun _ => true) rfl drainUnit

/-- A tag is still DRAINING with the ticket of the command (R106). -/
theorem draining_iff (t : Tag) (k : Ticket) :
    (t.kind = .draining ∧ t.ticket = some k) ↔ ∃ o, t = .draining o k := by
  cases t <;> simp [Tag.kind, Tag.ticket]

/-- A drain timeout goes on from a granule (R106). -/
theorem timeoutNext_eq (y : State) (w : Work) (c : Command) :
    y.timeoutNext w c =
      if c.stop y.tenants ≤ w.cursor + 1 then
        (y.updateWork fun w => { w with cursor := w.cursor + 1 }).notify w.ticket .drainTimeout
      else y.updateWork fun w => { w with cursor := w.cursor + 1 } := rfl

theorem goesOn_updateWork {s y : State} {w : Work} {c : Cmd} (hcur : y.te.current = some w) (h : CmdBecomes s y w.ticket c) :
    GoesOn s (y.updateWork fun w => { w with cursor := w.cursor + 1 }) w c :=
  ⟨cmdBecomes_updateWork h _, updateWork_current hcur _⟩

/-- Settles O48: the expiry of the drain timer, and the tags that a drain timeout takes. -/
theorem drainTimesOut : Obligations.DrainTimesOut := by
  intro s w c h hp
  have hs := working_of_engaged h
  refine ⟨fun hout htimer => ?_, fun line hout hk hcached => ?_⟩
  · have hexec := exec_drainTimeout h hp
    rw [drainUnit, if_neg (by simp [hout]), if_pos (Option.isSome_iff_ne_none.2 htimer), State.expireDrain] at hexec
    have hb := cmdBecomes_updateWork (cmdBecomes_refl (t := s) rfl rfl hs.cmd)
      fun w => { w with snapshot := [], timer := none, timedOut := true, cursor := c.command.start }
    have hte := updateWork_te hs.current
      fun w => { w with snapshot := [], timer := none, timedOut := true, cursor := c.command.start }
    have hch := onlyChanges_updateWork s
      fun w => { w with snapshot := [], timer := none, timedOut := true, cursor := c.command.start }
    refine ⟨_, hexec, ?_⟩
    cases hr : c.command.isRevive
    · exact ⟨onlyChanges_mono hch (by simp), hch.2 .cp (by simp), hte⟩
    · have hplain (u : State) : u.finishKind c.command .drainTimeout = u := by
        cases hcmd : c.command <;> simp_all [Command.isRevive, State.finishKind]
      refine ⟨onlyChanges_mono (onlyChanges_trans hch (onlyChanges_notify hb.1 hplain)) (by simp), ?_⟩
      have hk := hs.ticket
      simp only [if_true, ← hk]
      exact notified_notify (by rw [hk]; exact hb) ⟨_, congrArg _ hte, hk.symm⟩ (hch.2 .cp (by simp)) (hch.2 .eu (by simp))
  · intro r mine hroom
    have hx : Working (s.recent (w.cursor / 4) line) w c := hs.of_te (by simp)
    have hnf : c.command.isFormat = false := by
      cases hcmd : c.command <;> simp_all [Command.isFormat, Command.isReclaim, Command.isRetire]
    have hexec : exec .drainTimeout s =
        .next ((s.recent (w.cursor / 4) line).timeoutAct w c.command r).settle := by
      rw [exec_drainTimeout h hp, drainUnit, if_pos hout, engineTry_of_cached hs hnf hcached, engineAct_of_working hx, hp]
    have hten (y : State) (hy : y.mc = s.mc) : y.tenants = s.tenants := by rw [State.tenants, State.tenants, hy]
    by_cases hmine : mine
    · obtain ⟨o, ho⟩ := (draining_iff r.tag w.ticket).1 hmine
      have hlen : (s.recent (w.cursor / 4) line).tc.writes.length < 32 := by
        rw [recent_writes hcached]
        exact hroom.resolve_left fun hn => hn hmine
      rw [State.timeoutAct_of_draining _ w c.command ho, change_of_room hlen, timeoutNext_eq] at hexec
      generalize hpe : (s.recent (w.cursor / 4) line).putTag w.cursor { r with tag := .poisoned (some o) .drainTimeout } = x
        at hexec
      have hxc : OnlyChanges [.tc] s x :=
        hpe ▸ onlyChanges_mono (onlyChanges_trans (onlyChanges_recent s _ line) (onlyChanges_putTag _ _ _)) (by simp)
      have hrw : Rewrites s x w.cursor line { r with tag := .poisoned (some o) .drainTimeout } := hpe ▸ rewrites_recent hcached _
      have hx' := hs.of_te (hxc.2 .te (by simp))
      have hyc : OnlyChanges [.te] x (x.creditPoisoned w.ticket) := onlyChanges_updateCmd _ _ _
      have hyb := cmdBecomes_from (s := s) (congrArg Engine.table (hxc.2 .te (by simp)))
        (congrArg Engine.counter (hxc.2 .te (by simp)))
        (cmdBecomes_updateCmd (f := fun c => { c with poisonedCount := c.poisonedCount + 1 }) hx'.cmd fun _ => rfl)
      have hycur : (x.creditPoisoned w.ticket).te.current = some w := by
        simpa [State.creditPoisoned, State.updateCmd] using hx'.current
      rw [hten _ ((hyc.2 .mc (by simp)).trans (hxc.2 .mc (by simp)))] at hexec
      have hgo := onlyChanges_updateWork (x.creditPoisoned w.ticket) fun w => { w with cursor := w.cursor + 1 }
      refine ⟨_, _, hexec, onlyChanges_mono (onlyChanges_trans (onlyChanges_trans hxc hyc) hgo) (by simp),
        goesOn_updateWork hycur hyb, fun _ => ⟨rfl, ?_⟩, fun hn => absurd hmine hn⟩
      rw [show r.tag.owner = some o by rw [ho]; rfl]
      exact rewrites_of_tc ((hgo.2 .tc (by simp)).trans (hyc.2 .tc (by simp))) hrw
    · rw [State.timeoutAct_of_other _ w c.command fun o ho => hmine ((draining_iff r.tag w.ticket).2 ⟨o, ho⟩),
        timeoutNext_eq, hten _ (by simp)] at hexec
      have hgo := onlyChanges_updateWork (s.recent (w.cursor / 4) line) fun w => { w with cursor := w.cursor + 1 }
      obtain ⟨hu, hrec⟩ := onlyChanges_unit hcached hgo (by simp)
      exact ⟨_, c, hexec, hu, goesOn_updateWork hx.current (cmdBecomes_refl (by simp) (by simp) hs.cmd),
        fun hm => absurd hm hmine, fun _ => ⟨rfl, hrec⟩⟩

end Sys2Proof.Machine

namespace Sys2Proof.Machine

open Sys2Proof.Safety

/-! # HANDOFF -/

/-- The tag that HANDOFF writes, as its record (R107, R113). -/
theorem handoffTag_eq (k : Ticket) (c : Command) (r : TagRec) :
    handoffTag k c r = (converted r.tag k c).map fun t => { r with tag := t } := by
  have hdrain (hc : converted r.tag k c =
        if r.tag.kind = .draining ∧ r.tag.ticket = some k then some (.scrubbing r.tag.owner (some k)) else none)
      (hh : handoffTag k c r =
        match r.tag with
        | .draining o t => if t = k then some { r with tag := .scrubbing (some o) (some k) } else none
        | _ => none) :
      handoffTag k c r = (converted r.tag k c).map fun t => { r with tag := t } := by
    rw [hc, hh]
    cases ht : r.tag with
    | draining o t => by_cases hk : t = k <;> simp [Tag.kind, Tag.ticket, Tag.owner, hk]
    | _ => simp [Tag.kind]
  cases c with
  | revive first count => cases ht : r.tag <;> simp [handoffTag, converted, ht, Tag.kind, Tag.owner]
  | _ => exact hdrain rfl (by cases ht : r.tag <;> simp [handoffTag, ht])

/-! ## The run at the tail -/

theorem updateTail_su (s : State) (f : Run → Run) :
    (s.updateTail f).su = { s.su with runs := s.su.runs.dropLast ++ s.su.runs.getLast?.toList.map f } := by
  unfold State.updateTail
  cases h : s.su.runs.getLast? with
  | none =>
    have hnil : s.su.runs = [] := List.getLast?_eq_none_iff.1 h
    rw [hnil]
    exact congrArg (fun runs => { s.su with runs := runs }) hnil
  | some r => simp

theorem onlyChanges_updateTail (s : State) (f : Run → Run) : OnlyChanges [.su] s (s.updateTail f) :=
  ⟨by simp, fun b hb => by cases b <;> simp_all [Block.same]⟩

theorem updateTail_runs {s : State} {older : List Run} {tail : Run} (h : s.su.runs = older ++ [tail]) (f : Run → Run) :
    (s.updateTail f).su = { s.su with runs := older ++ [f tail] } := by
  rw [updateTail_su, h]
  simp

/-- Where HANDOFF stands: the engine's work but for its run, its command, and the scrub list. -/
structure HandoffAt (s y : State) (w : Work) (c : Cmd) (runs : List Run) (isOpen : Bool) : Prop where
  current : y.te.current = some { w with busy := false, runOpen := isOpen }
  cmd : CmdBecomes s y w.ticket c
  su : y.su = { s.su with runs := runs }
  mc : y.mc = s.mc

/-- The open run is closed (R107). -/
theorem HandoffAt.close {s y : State} {w : Work} {c : Cmd} {runs : List Run} {isOpen : Bool}
    (h : HandoffAt s y w c runs isOpen) :
    HandoffAt s y.closeRun w c (runs.dropLast ++ runs.getLast?.toList.map fun r => { r with isOpen := false }) false where
  current := updateWork_current (s := y.updateTail fun r => { r with isOpen := false })
    (w := { w with busy := false, runOpen := isOpen }) (by simpa using h.current) fun w => { w with runOpen := false }
  cmd := cmdBecomes_updateWork (cmdBecomes_of_table (by simp) (by simp) h.cmd) _
  su := by
    have hsu : y.closeRun.su = (y.updateTail fun r => { r with isOpen := false }).su := by simp [State.closeRun, State.updateWork]
    rw [hsu, updateTail_su, h.su]
  mc := by simpa [State.closeRun, State.updateWork] using h.mc

theorem onlyChanges_closeRun (s : State) : OnlyChanges [.su, .te] s s.closeRun :=
  onlyChanges_mono (onlyChanges_trans (onlyChanges_updateTail s _) (onlyChanges_updateWork _ _)) (by simp)

theorem HandoffAt.tail {s y : State} {w : Work} {c : Cmd} {older : List Run} {tail : Run} {isOpen : Bool}
    (h : HandoffAt s y w c (older ++ [tail]) isOpen) (f : Run → Run) :
    HandoffAt s (y.updateTail f) w c (older ++ [f tail]) isOpen where
  current := by simpa using h.current
  cmd := cmdBecomes_of_table (by simp) (by simp) h.cmd
  su := by rw [updateTail_runs (by rw [h.su]), h.su]
  mc := by simpa using h.mc

/-- Granules are added to the open run, which is closed at 1,048,576 (R107). -/
theorem HandoffAt.grow {s y : State} {w : Work} {c : Cmd} {older : List Run} {tail : Run}
    (h : HandoffAt s y w c (older ++ [tail]) true) (n : Nat) :
    HandoffAt s (y.growRun n) w c (grown older tail n) (decide (tail.count + n < 1048576)) ∧
      OnlyChanges [.su, .te] y (y.growRun n) := by
  have hz := h.tail fun r => { r with count := r.count + n }
  have hzc := onlyChanges_updateTail y fun r => { r with count := r.count + n }
  have hcount : (y.updateTail fun r => { r with count := r.count + n }).tailCount = tail.count + n := by
    rw [State.tailCount, hz.su]
    simp
  unfold State.growRun grown
  dsimp only
  rw [hcount, show Config.maxRange = 1048576 from rfl]
  by_cases hfull : 1048576 ≤ tail.count + n
  · rw [if_pos hfull, decide_eq_false (by omega), Bool.and_false]
    have hclose := hz.close
    simp only [List.dropLast_concat, List.getLast?_concat, Option.toList_some, List.map_cons, List.map_nil] at hclose
    exact ⟨hclose, onlyChanges_mono (onlyChanges_trans hzc (onlyChanges_closeRun _)) (by simp)⟩
  · rw [if_neg hfull, decide_eq_true (by omega), Bool.and_true]
    exact ⟨hz, onlyChanges_mono hzc (by simp)⟩

/-- After the last granule the run is closed, the engine is IDLE, and the command in SCRUB (R98, R107). -/
theorem handoffNext_goes {s y : State} {w : Work} {c : Cmd} {runs : List Run} {isOpen : Bool}
    (h : HandoffAt s y w c runs isOpen) (n : Nat) :
    ∃ u, y.handoffNext w c.command n = handoffEnd s u w c n ∧ OnlyChanges [.su, .te] y u ∧
      HandoffGoes s u w c runs isOpen n := by
  have hten : y.tenants = s.tenants := by rw [State.tenants, State.tenants, h.mc]
  have hzc := onlyChanges_updateWork y fun w => { w with cursor := w.cursor + n }
  have hzcur := updateWork_current h.current fun w => { w with cursor := w.cursor + n }
  have hzb := cmdBecomes_updateWork h.cmd fun w => { w with cursor := w.cursor + n }
  have hnext : y.handoffNext w c.command n =
      if c.command.stop s.tenants ≤ w.cursor + n then
        (y.updateWork fun w => { w with cursor := w.cursor + n }).endHandoff w.ticket
      else y.updateWork fun w => { w with cursor := w.cursor + n } := by
    rw [← hten]
    rfl
  by_cases hl : c.command.stop s.tenants ≤ w.cursor + n
  · generalize y.updateWork (fun w => { w with cursor := w.cursor + n }) = z at hnext hzc hzcur hzb
    have hz1 : ∃ z1, (if (z.te.current.map Work.runOpen).getD false then z.closeRun else z) = z1 ∧
        OnlyChanges [.su, .te] z z1 ∧ CmdBecomes s z1 w.ticket c ∧ z1.su = { s.su with
          runs := if isOpen then runs.dropLast ++ runs.getLast?.toList.map fun r => { r with isOpen := false } else runs } := by
      refine ⟨_, rfl, ?_⟩
      have hsu : z.su = { s.su with runs := runs } := (hzc.2 .su (by simp)).trans h.su
      rw [hzcur]
      cases isOpen
      · exact ⟨⟨rfl, fun b _ => by cases b <;> rfl⟩, hzb, hsu⟩
      · refine ⟨onlyChanges_closeRun z, cmdBecomes_updateWork (cmdBecomes_of_table (by simp) (by simp) hzb) _, ?_⟩
        have hclose : z.closeRun.su = (z.updateTail fun r => { r with isOpen := false }).su := by
          simp [State.closeRun, State.updateWork]
        exact hclose.trans ((updateTail_su z _).trans (by rw [hsu]; rfl))
    obtain ⟨z1, he, hz1c, hz1b, hz1su⟩ := hz1
    generalize hue : (z1.updateCmd w.ticket fun c => { c with phase := .scrub }).setTe
      { (z1.updateCmd w.ticket fun c => { c with phase := .scrub }).te with current := none } = u
    have hub : CmdBecomes s u w.ticket { c with phase := .scrub } := by
      rw [← hue]
      exact cmdBecomes_of_table (by simp) (by simp)
        (cmdBecomes_trans hz1b (cmdBecomes_updateCmd (f := fun c => { c with phase := .scrub }) hz1b.1 fun _ => rfl))
    have huc : OnlyChanges [.te] z1 u :=
      hue ▸ onlyChanges_mono (onlyChanges_trans (onlyChanges_updateCmd z1 _ _) (onlyChanges_setTe _ _)) (by simp)
    refine ⟨u, ?_, onlyChanges_mono (onlyChanges_trans (onlyChanges_trans hzc hz1c) huc) (by simp), ?_⟩
    · rw [hnext, if_pos hl, State.endHandoff, he]
      dsimp only
      rw [hue, hub.1, handoffEnd]
      by_cases hr : c.runs = 0
      · rw [if_pos ⟨hl, hr⟩]
        exact (if_pos hr).trans (notifyDone_of_cmd (c := { c with phase := .scrub }) hub.1)
      · rw [if_neg fun hb => hr hb.2]
        exact if_neg hr
    · rw [HandoffGoes, if_neg (by omega)]
      exact ⟨(huc.2 .su (by simp)).trans hz1su, hub, by simp [← hue]⟩
  · refine ⟨y.updateWork fun w => { w with cursor := w.cursor + n }, ?_, onlyChanges_mono hzc (by simp), ?_⟩
    · rw [hnext, if_neg hl, handoffEnd, if_neg fun hb => hl hb.1]
    · rw [HandoffGoes, if_pos (by omega)]
      exact ⟨h.su, hzb, hzcur⟩

/-! ## Opening a run -/

/-- The engine has opened a run, or waits for a place in a full scrub list (R107, R125). -/
def Opens (s u : State) (w : Work) (c : Cmd) : Prop :=
  if s.su.runs.length < 64 then
    u.su = { s.su with
      runs := s.su.runs ++ [{ first := w.cursor, count := 0, ticket := some w.ticket, isOpen := true }] } ∧
    CmdBecomes s u w.ticket { c with runs := c.runs + 1 } ∧
    u.te.current = some { w with runOpened := true, runOpen := true, placeWait := false }
  else u.su = s.su ∧ u.te = { s.te with current := some { w with placeWait := true } }

theorem openRun_opens {s : State} {w : Work} {c : Cmd} (h : Working s w c) :
    OnlyChanges [.su, .te] s (s.openRun w) ∧ Opens s (s.openRun w) w c := by
  unfold Opens
  by_cases hroom : s.su.runs.length < 64
  · have hopen : s.openRun w = s.engineOpens w := if_pos hroom
    rw [if_pos hroom, hopen]
    refine ⟨⟨by simp, fun b hb => by cases b <;> simp_all [Block.same]⟩, by simp [State.engineOpens, State.appendRun,
      State.updateWork], ?_, ?_⟩
    · have hb := cmdBecomes_updateCmd (s := s.appendRun w.cursor (some w.ticket)) (f := fun c => { c with runs := c.runs + 1 })
        ((cmd_of_te (by simp) _).trans h.cmd) fun _ => rfl
      exact cmdBecomes_updateWork (cmdBecomes_from (by simp) (by simp) hb) _
    · exact updateWork_current (w := w) (by simpa [State.updateCmd] using h.current) _
  · have hopen : s.openRun w = s.updateWork fun w => { w with placeWait := true } := if_neg hroom
    rw [if_neg hroom, hopen]
    exact ⟨onlyChanges_mono (onlyChanges_updateWork s _) (by simp), by simp [State.updateWork], updateWork_te h.current _⟩

theorem opens_from {s x u : State} (hsu : x.su = s.su) (hte : x.te = s.te) {w : Work} {c : Cmd} (h : Opens x u w c) :
    Opens s u w c := by
  simpa only [Opens, CmdBecomes, State.cmd, hsu, hte] using h

/-! ## The row -/

theorem exec_handoffRow {s : State} {w : Work} {c : Cmd} {i : Instr} (h : Engaged s w c) (hp : c.phase = .handoff)
    (hi : handoffRow c.command = some i) (hw : w.placeWait = false) :
    exec i s = .next (if w.runOpened = false then s.openRun w else s.engineTry).settle := by
  have hunit (kind : Command → Bool) (hk : kind c.command = true) : s.onPhase .handoff kind handoffUnit =
      .next (if w.runOpened = false then s.openRun w else s.engineTry).settle := by
    rw [onPhase_of_engaged h hp hk, handoffUnit, if_neg (by simp [hw])]
  cases hc : c.command <;> simp only [hc, handoffRow, reduceCtorEq, Option.some.injEq] at hi <;> subst hi
  case reclaim => exact hunit (fun c => c.isReclaim || c.isRevive) (by rw [hc]; rfl)
  case retire => exact hunit Command.isRetire (by rw [hc]; rfl)
  case revive => exact hunit (fun c => c.isReclaim || c.isRevive) (by rw [hc]; rfl)

/-- A granule that HANDOFF cannot convert is credited, unless MARK has credited it or the command is a RETIRE (R100). -/
theorem HandoffAt.skip {s y : State} {w : Work} {c : Cmd} {runs : List Run} {isOpen : Bool}
    (h : HandoffAt s y w c runs isOpen) :
    HandoffAt s (y.creditSkipped w c.command) w { c with poisonedCount :=
        c.poisonedCount + if c.command.isRetire = true ∨ w.cursor ∈ w.credited then 0 else 1 } runs isOpen ∧
      OnlyChanges [.te] y (y.creditSkipped w c.command) := by
  have hstay : HandoffAt s y w { c with poisonedCount := c.poisonedCount + 0 } runs isOpen := h
  have hsame : OnlyChanges [.te] y y := ⟨rfl, fun b _ => by cases b <;> rfl⟩
  by_cases hcred : w.cursor ∈ w.credited
  · rw [if_pos (.inr hcred), State.creditSkipped, if_pos (by simpa using hcred)]
    exact ⟨hstay, hsame⟩
  rw [State.creditSkipped, if_neg (by simpa using hcred)]
  cases hr : c.command.isRetire
  · have hskip : y.skipCredit w.ticket c.command = y.creditPoisoned w.ticket := by
      cases hc : c.command <;> simp_all [State.skipCredit, Command.isRetire]
    rw [if_neg (by simp [hcred]), hskip]
    refine ⟨⟨?_, ?_, by simpa using h.su, by simpa using h.mc⟩, onlyChanges_updateCmd y _ _⟩
    · simpa [State.creditPoisoned, State.updateCmd] using h.current
    · exact cmdBecomes_trans h.cmd
        (cmdBecomes_updateCmd (f := fun c => { c with poisonedCount := c.poisonedCount + 1 }) h.cmd.1 fun _ => rfl)
  · have hskip : y.skipCredit w.ticket c.command = y := by
      cases hc : c.command <;> simp_all [State.skipCredit, Command.isRetire]
    rw [if_pos (.inl rfl), hskip]
    exact ⟨hstay, hsame⟩

/-- Settles O49: HANDOFF opens a run, converts a tag or passes it over, and ends. -/
theorem handoffTakesTag : Obligations.HandoffTakesTag := by
  intro s w c i h hp hi hplace opens
  have hs := working_of_engaged h
  have hexec := exec_handoffRow h hp hi hplace
  have hbusy : { w with busy := false } = w := by rw [← h.2.2.2]
  constructor
  · intro hopened
    rw [if_pos hopened] at hexec
    exact ⟨_, hexec, openRun_opens hs⟩
  intro line hopened hcached r
  have hx : Working (s.recent (w.cursor / 4) line) w c := hs.of_te (by simp)
  have hnf : c.command.isFormat = false := by cases hc : c.command <;> simp_all [handoffRow, Command.isFormat]
  rw [if_neg (by simp [hopened]), engineTry_of_cached hs hnf hcached, engineAct_of_working hx, hp] at hexec
  dsimp only at hexec
  rw [State.handoffAct, handoffTag_eq] at hexec
  have hxc := onlyChanges_recent s (w.cursor / 4) line
  have hstart (x : State) (ho : OnlyChanges [.tc] s x) : HandoffAt s x w c s.su.runs w.runOpen :=
    ⟨by rw [show x.te = s.te from ho.2 .te (by simp), hbusy]; exact hs.current, cmdBecomes_refl
      (by rw [show x.te = s.te from ho.2 .te (by simp)]) (by rw [show x.te = s.te from ho.2 .te (by simp)]) hs.cmd,
      ho.2 .su (by simp), ho.2 .mc (by simp)⟩
  refine ⟨fun tag htag hopen => ?_, fun tag older tail htag hopen hruns hroom => ?_, fun hnone => ?_⟩
  · have htag' : converted (line.get (w.cursor % 4)).tag w.ticket c.command = some tag := htag
    rw [htag', Option.map_some] at hexec
    dsimp only at hexec
    rw [if_neg (by simp [hopen])] at hexec
    obtain ⟨hch, ho⟩ := openRun_opens hx
    obtain ⟨hu, hrec⟩ := onlyChanges_unit hcached hch (by simp)
    exact ⟨_, hexec, hu, hrec, opens_from (by simp) (by simp) ho⟩
  · have htag' : converted (line.get (w.cursor % 4)).tag w.ticket c.command = some tag := htag
    have hlen : (s.recent (w.cursor / 4) line).tc.writes.length < 32 := by rwa [recent_writes hcached]
    rw [htag', Option.map_some] at hexec
    dsimp only at hexec
    rw [if_pos hopen, change_of_room hlen] at hexec
    have hyc := onlyChanges_mono (cs := [.tc]) (onlyChanges_trans hxc
      (onlyChanges_putTag _ w.cursor { line.get (w.cursor % 4) with tag := tag })) (by simp)
    have hat := hstart _ hyc
    rw [hruns, hopen] at hat
    obtain ⟨hgrown, hgc⟩ := hat.grow 1
    obtain ⟨u, he, huc, hgoes⟩ := handoffNext_goes hgrown 1
    rw [he] at hexec
    refine ⟨u, hexec, onlyChanges_mono (onlyChanges_trans (onlyChanges_trans hyc hgc) huc) (by simp), ?_, hgoes⟩
    exact rewrites_of_tc ((huc.2 .tc (by simp)).trans (hgc.2 .tc (by simp))) (rewrites_recent hcached _)
  · have hnone' : converted (line.get (w.cursor % 4)).tag w.ticket c.command = none := hnone
    rw [hnone', Option.map_none] at hexec
    dsimp only at hexec
    have hat := hstart _ hxc
    intro c'
    refine ⟨fun hopen => ?_, fun older tail hopen hruns => ?_⟩
    · have hskip : (s.recent (w.cursor / 4) line).skipInRun w = s.recent (w.cursor / 4) line := if_neg (by simp [hopen])
      rw [hskip] at hexec
      rw [hopen] at hat
      obtain ⟨hskipped, hsc⟩ := hat.skip
      obtain ⟨u, he, huc, hgoes⟩ := handoffNext_goes hskipped 1
      obtain ⟨hu, hrec⟩ := onlyChanges_unit hcached (onlyChanges_trans hsc huc) (by simp)
      exact ⟨u, hexec.trans (by rw [← he]), onlyChanges_mono hu (by simp), hrec, hgoes⟩
    · rw [hopen, hruns] at hat
      have hcount : (s.recent (w.cursor / 4) line).tailCount = tail.count := by
        rw [State.tailCount, hat.su]
        simp
      have hskip : ∃ y, (s.recent (w.cursor / 4) line).skipInRun w = y ∧
          OnlyChanges [.su, .te] (s.recent (w.cursor / 4) line) y ∧ HandoffAt s y w c
            (older ++ [if tail.count = 0 then { tail with first := w.cursor + 1 } else { tail with isOpen := false }])
            (decide (tail.count = 0)) := by
        refine ⟨_, rfl, ?_⟩
        rw [State.skipInRun, if_pos hopen, hcount]
        by_cases h0 : tail.count = 0
        · rw [if_pos h0, if_pos h0, decide_eq_true h0]
          exact ⟨onlyChanges_mono (onlyChanges_updateTail _ _) (by simp),
            hat.tail fun r => { r with first := w.cursor + 1 }⟩
        · rw [if_neg h0, if_neg h0, decide_eq_false h0]
          have hclose := hat.close
          simp only [List.dropLast_concat, List.getLast?_concat, Option.toList_some, List.map_cons, List.map_nil] at hclose
          exact ⟨onlyChanges_closeRun _, hclose⟩
      obtain ⟨y, hye, hyc, hy⟩ := hskip
      rw [hye] at hexec
      obtain ⟨hskipped, hsc⟩ := hy.skip
      obtain ⟨u, he, huc, hgoes⟩ := handoffNext_goes hskipped 1
      obtain ⟨hu, hrec⟩ := onlyChanges_unit hcached (onlyChanges_trans (onlyChanges_trans hyc hsc) huc) (by simp)
      exact ⟨u, hexec.trans (by rw [← he]), onlyChanges_mono hu (by simp), hrec, hgoes⟩

end Sys2Proof.Machine

namespace Sys2Proof.Machine

open Sys2Proof.Safety

/-! # The writes given to MI, one after another -/

theorem heldAt_of_issues {s t : State} {ws : List (Nat × List Byte)} (h : Issues s t ws) (a : Nat) :
    heldAt t a = heldAt s a := by
  rw [heldAt, heldAt, h.2.2.2.1]

theorem issues_trans {s u t : State} {ws vs : List (Nat × List Byte)} (h : Issues s u ws) (k : Issues u t vs) :
    Issues s t (ws ++ vs) := by
  have hheld := heldAt_of_issues h
  obtain ⟨h1, h2, h3, h4, h5⟩ := h
  obtain ⟨k1, k2, k3, k4, k5⟩ := k
  refine ⟨fun a => (k1 a).trans (h1 a), k2.trans h2, k3.trans h3, k4.trans h4, ?_⟩
  rw [k5, h5, List.map_append, List.append_assoc]
  simp only [hheld]

theorem issues_nil {s t : State} (h : t.dram = s.dram) : Issues s t [] := by
  refine ⟨fun a => by rw [h], by rw [h], by rw [h], by rw [h], by simp [h]⟩

/-! # A RETIRE frees the entries of its domain -/

/-- Whether an entry is IN_USE and belongs to a domain (R49). -/
def ownedBy (s : State) (d : DomainId) (i : Nat) : Bool :=
  (s.share (BitVec.ofNat 8 i)).inUse && (s.share (BitVec.ofNat 8 i)).owner == d

/-- The write of the line of an entry that is freed, the entries before it freed already (R49). -/
def freedWrite (s : State) (p : PoolCode) (d : DomainId) (i : Nat) : Nat × List Byte :=
  (shareAddress p (4 * (i / 4)), ((List.range 4).map fun b => 4 * (i / 4) + b).flatMap fun n =>
    storedShare n (if ownedBy s d n = true ∧ n ≤ i then freeEntry else s.share (BitVec.ofNat 8 n)))

/-- The entries before the `n`th that belong to the domain have been freed (R49). -/
structure Freed (s t : State) (p : PoolCode) (d : DomainId) (n : Nat) : Prop where
  changes : OnlyChanges [.shares, .dram] s t
  share : ∀ i < 256, t.share (BitVec.ofNat 8 i) =
    if ownedBy s d i = true ∧ i < n then freeEntry else s.share (BitVec.ofNat 8 i)
  issues : Issues s t (((List.range n).filter (ownedBy s d)).map (freedWrite s p d))

theorem shareLineOf_eq (s : State) (k : Nat) :
    shareLineOf s k = ((List.range 4).map fun b => 4 * k + b).flatMap fun n => storedShare n (s.share (BitVec.ofNat 8 n)) := by
  simp [shareLineOf, show List.range 4 = [0, 1, 2, 3] from rfl]

theorem ofNat8_inj {i j : Nat} (hi : i < 256) (hj : j < 256) : BitVec.ofNat 8 i = BitVec.ofNat 8 j ↔ i = j := by
  constructor
  · intro h
    have := congrArg BitVec.toNat h
    rwa [BitVec.toNat_ofNat, BitVec.toNat_ofNat, Nat.mod_eq_of_lt hi, Nat.mod_eq_of_lt hj] at this
  · rintro rfl
    rfl

/-- One more entry is looked at, and freed where it belongs to the domain (R49). -/
theorem Freed.step {s t : State} {p : PoolCode} {d : DomainId} {n : Nat} (hp : s.mc.poolCode = some p) (hn : n < 256)
    (h : Freed s t p d n) :
    Freed s (if (t.share (BitVec.ofNat 8 n)).inUse = true ∧ (t.share (BitVec.ofNat 8 n)).owner = d then
      t.writeShare (BitVec.ofNat 8 n) freeEntry else t) p d (n + 1) := by
  have hcur : t.share (BitVec.ofNat 8 n) = s.share (BitVec.ofNat 8 n) := by
    rw [h.share n hn, if_neg (by omega)]
  have hmine : ((t.share (BitVec.ofNat 8 n)).inUse = true ∧ (t.share (BitVec.ofNat 8 n)).owner = d) ↔ ownedBy s d n = true := by
    rw [hcur, ownedBy, Bool.and_eq_true, beq_iff_eq]
  by_cases hm : ownedBy s d n = true
  · rw [if_pos (hmine.2 hm)]
    have hshare : ∀ i < 256, (t.writeShare (BitVec.ofNat 8 n) freeEntry).share (BitVec.ofNat 8 i) =
        if ownedBy s d i = true ∧ i < n + 1 then freeEntry else s.share (BitVec.ofNat 8 i) := by
      intro i hi
      rw [State.writeShare_share, h.share i hi]
      by_cases he : i = n
      · rw [if_pos (by rw [he]), if_pos ⟨he ▸ hm, by omega⟩]
      · rw [if_neg (mt (ofNat8_inj hi hn).1 he)]
        exact if_congr (and_congr_right fun _ => by omega) rfl rfl
    refine ⟨onlyChanges_mono (onlyChanges_trans h.changes (onlyChanges_writeShare _ _ _)) (by simp), hshare, ?_⟩
    have hissue := issues_of_dram_issue (State.writeShare_dram t (BitVec.ofNat 8 n) freeEntry (c := p)
      (by rw [show t.mc = s.mc from h.changes.2 .mc (by simp)]; exact hp))
    have hwrite : shareWrite (t.writeShare (BitVec.ofNat 8 n) freeEntry) p (BitVec.ofNat 8 n) = freedWrite s p d n := by
      have hto : (BitVec.ofNat 8 n).toNat = n := by rw [BitVec.toNat_ofNat]; exact Nat.mod_eq_of_lt hn
      rw [shareWrite, hto, shareLineOf_eq, freedWrite]
      refine congrArg _ (List.flatMap_congr fun i hi => ?_)
      obtain ⟨b, hb, rfl⟩ := List.mem_map.1 hi
      have hb4 := List.mem_range.1 hb
      rw [hshare _ (by omega)]
      exact congrArg _ (if_congr (and_congr_right fun _ => Nat.lt_succ_iff) rfl rfl)
    rw [List.range_succ, List.filter_append, List.map_append, List.filter_singleton, hm, cond_true]
    rw [hwrite] at hissue
    exact issues_trans h.issues hissue
  · rw [if_neg (mt hmine.1 hm)]
    refine ⟨h.changes, fun i hi => (h.share i hi).trans (if_congr (and_congr_right fun ho => ?_) rfl rfl), ?_⟩
    · have hne : i ≠ n := fun he => hm (he ▸ ho)
      omega
    · rw [List.range_succ, List.filter_append, List.filter_singleton, Bool.eq_false_iff.2 hm, cond_false, List.append_nil]
      exact h.issues

theorem freed_freeShares {s : State} {p : PoolCode} (hp : s.mc.poolCode = some p) (d : DomainId) :
    Freed s (s.freeShares d) p d 256 := by
  have hall : ∀ n ≤ 256, Freed s ((List.range n).foldl (fun s i =>
      let e := s.share (BitVec.ofNat 8 i)
      if e.inUse ∧ e.owner = d then s.writeShare (BitVec.ofNat 8 i) freeEntry else s) s) p d n := by
    intro n hn
    induction n with
    | zero => exact ⟨⟨rfl, fun b _ => by cases b <;> rfl⟩, fun i _ => by simp, issues_nil rfl⟩
    | succ n ih =>
      rw [List.range_succ, List.foldl_append]
      exact (ih (by omega)).step hp (by omega)
  exact hall 256 le_rfl

/-- The end of a RETIRE: its entries are freed and its domain is CLOSED, each written as it changes (R49, R111). -/
theorem closeRetired_spec {s : State} {p : PoolCode} (hp : s.mc.poolCode = some p) (d : DomainId) :
    OnlyChanges [.domains, .shares, .dram] s (s.closeRetired d) ∧ DomainBecomes s (s.closeRetired d) d closedDomain ∧
      (∀ i : ShareIx, (s.closeRetired d).share i = if ownedBy s d i.toNat = true then freeEntry else s.share i) ∧
      Issues s (s.closeRetired d)
        (((List.range 256).filter (ownedBy s d)).map (freedWrite s p d) ++ [domainWrite (s.closeRetired d) p d]) := by
  have hfreed := freed_freeShares hp d
  have hpool : (s.freeShares d).mc.poolCode = some p := by
    rw [show _ = s.mc from hfreed.changes.2 .mc (by simp)]
    exact hp
  have hw := onlyChanges_writeDomain (s.freeShares d) d closedDomain
  refine ⟨onlyChanges_mono (onlyChanges_trans hfreed.changes hw) (by simp), ?_, fun i => ?_,
    issues_trans hfreed.issues (issues_writeDomain (s.freeShares d) d closedDomain hpool)⟩
  · exact domainBecomes_from (hfreed.changes.2 .domains (by simp)) (domainBecomes_writeDomain _ d _)
  · have hi : BitVec.ofNat 8 i.toNat = i := by rw [BitVec.ofNat_toNat, BitVec.setWidth_eq]
    have hshare := hfreed.share i.toNat i.isLt
    rw [hi] at hshare
    rw [State.closeRetired, share_of_shares (hw.2 .shares (by simp)), hshare]
    exact if_congr (and_iff_left i.isLt) rfl rfl

/-- The end of a FORMAT: the header is written complete, and the store is FORMATTED (R117). -/
theorem markFormatted_spec {s : State} {p : PoolCode} (hp : s.mc.poolCode = some p) :
    OnlyChanges [.mc, .dram] s s.markFormatted ∧ s.markFormatted.mc = { s.mc with storeState := .formatted } ∧
      Issues s s.markFormatted [(headerAddress p, storedHeader p true)] := by
  have he : s.markFormatted = (s.persistHeader p true).setMc { s.mc with storeState := .formatted } := by
    simp [State.markFormatted, hp]
  rw [he]
  exact ⟨⟨by simp, fun b hb => by cases b <;> simp_all [Block.same]⟩, by simp, issues_of_dram_issue (by simp [State.persistHeader])⟩

theorem ownedBy_of_shares {s x : State} (h : x.shares = s.shares) (d : DomainId) : ownedBy x d = ownedBy s d := by
  funext i
  rw [ownedBy, ownedBy, share_of_shares h]

theorem freedWrite_of_shares {s x : State} (h : x.shares = s.shares) (p : PoolCode) (d : DomainId) :
    freedWrite x p d = freedWrite s p d := by
  funext i
  simp only [freedWrite, ownedBy_of_shares h, share_of_shares h]

/-- Settles O51: a RETIRE closes its domain, a FORMAT completes the store, and every command's notice carries its counts. -/
theorem notifyEndsRetireAndFormat : Obligations.NotifyEndsRetireAndFormat := by
  intro s k c st p hc hp u
  generalize hxe : s.slotNotified k st = x
  have hx : OnlyChanges [.te] s x := hxe ▸ onlyChanges_slotNotified s k st
  have hfin : OnlyChanges [.cp] (x.finishKind c.command st) u := by
    dsimp only [u]
    rw [notify_of_cmd hc, hxe]
    exact onlyChanges_placeNotice _ _
  have hpool : x.mc.poolCode = some p := by rw [show x.mc = s.mc from hx.2 .mc (by simp)]; exact hp
  have hplain (he : x.finishKind c.command st = x) : OnlyChanges [.te, .cp] s u ∧ SameBytes s u := by
    rw [he] at hfin
    have hu := onlyChanges_trans hx hfin
    exact ⟨hu, fun a => by rw [show u.dram = s.dram from hu.2 .dram (by simp)]⟩
  have hretire (d : DomainId) (he : x.finishKind c.command st = x.closeRetired d) :
      OnlyChanges [.te, .cp, .domains, .shares, .dram] s u ∧ DomainBecomes s u d closedDomain ∧
        (∀ i : ShareIx, u.share i = if ownedBy s d i.toNat = true then freeEntry else s.share i) ∧
        Issues s u (((List.range 256).filter (ownedBy s d)).map (freedWrite s p d) ++ [domainWrite u p d]) := by
    rw [he] at hfin
    obtain ⟨hch, hdom, hshare, hissue⟩ := closeRetired_spec hpool d
    have hshares : x.shares = s.shares := hx.2 .shares (by simp)
    rw [ownedBy_of_shares hshares, freedWrite_of_shares hshares,
      ← domainWrite_of_domains (hfin.2 .domains (by simp))] at hissue
    refine ⟨onlyChanges_mono (onlyChanges_trans (onlyChanges_trans hx hch) hfin) (by simp),
      domainBecomes_congr (hx.2 .domains (by simp)).symm (hfin.2 .domains (by simp)) hdom, fun i => ?_,
      issues_of_dram (hfin.2 .dram (by simp)) (issues_from (hx.2 .dram (by simp)) hissue)⟩
    rw [share_of_shares (hfin.2 .shares (by simp)), hshare, ownedBy_of_shares hshares, share_of_shares hshares]
  have hformat (he : x.finishKind c.command st = x.markFormatted) :
      OnlyChanges [.te, .cp, .mc, .dram] s u ∧ u.mc = { s.mc with storeState := .formatted } ∧
        Issues s u [(headerAddress p, storedHeader p true)] := by
    rw [he] at hfin
    obtain ⟨hch, hmc, hissue⟩ := markFormatted_spec hpool
    refine ⟨onlyChanges_mono (onlyChanges_trans (onlyChanges_trans hx hch) hfin) (by simp), ?_,
      issues_of_dram (hfin.2 .dram (by simp)) (issues_from (hx.2 .dram (by simp)) hissue)⟩
    rw [show u.mc = _ from hfin.2 .mc (by simp), hmc, show x.mc = s.mc from hx.2 .mc (by simp)]
  refine ⟨cmdBecomes_notify hc st, notify_cp hc st, ?_, notify_current hc st, ?_⟩
  · cases hcmd : c.command with
    | retire d moved =>
      by_cases hst : st = .cancelled
      · exact (hplain (by rw [hcmd]; exact if_pos hst)).2
      · exact (hretire d (by rw [hcmd]; exact if_neg hst)).2.2.2.1
    | format kept =>
      by_cases hst : st = .cancelled
      · exact (hplain (by rw [hcmd]; exact if_pos hst)).2
      · exact (hformat (by rw [hcmd]; exact if_neg hst)).2.2.1
    | _ => exact (hplain (by rw [hcmd]; rfl)).2
  · split
    · next d moved hcmd =>
      by_cases hst : st = .cancelled
      · rw [if_pos hst]
        exact (hplain (by rw [hcmd]; exact if_pos hst)).1
      · rw [if_neg hst]
        exact hretire d (by rw [hcmd]; exact if_neg hst)
    · next kept hcmd =>
      by_cases hst : st = .cancelled
      · rw [if_pos hst]
        exact (hplain (by rw [hcmd]; exact if_pos hst)).1
      · rw [if_neg hst]
        exact hformat (by rw [hcmd]; exact if_neg hst)
    · next hr hf =>
      refine (hplain ?_).1
      cases hcmd : c.command with
      | retire d moved => exact absurd hcmd (hr d moved)
      | format kept => exact absurd hcmd (hf kept)
      | _ => rfl

end Sys2Proof.Machine

namespace Sys2Proof.Machine

open Sys2Proof.Safety

/-! # FORMAT: the fixed parts -/

/-- A fold of steps each of which gives MI one write. -/
theorem issues_foldl {α : Type} {P : State → Prop} {f : State → α → State} {g : α → Nat × List Byte}
    (hstep : ∀ t a, P t → P (f t a) ∧ Issues t (f t a) [g a]) (l : List α) {s : State} (hs : P s) :
    P (l.foldl f s) ∧ Issues s (l.foldl f s) (l.map g) := by
  induction l generalizing s with
  | nil => exact ⟨hs, issues_nil rfl⟩
  | cons a l ih =>
    obtain ⟨ha, hia⟩ := hstep s a hs
    obtain ⟨hl, hil⟩ := ih ha
    exact ⟨hl, issues_trans hia hil⟩

theorem domainLineOf_of_domains {s t : State} (h : t.domains = s.domains) (k : Nat) : domainLineOf t k = domainLineOf s k := by
  simp [domainLineOf, domain_of_domains h]

theorem shareLineOf_of_shares {s t : State} (h : t.shares = s.shares) (k : Nat) : shareLineOf t k = shareLineOf s k := by
  simp [shareLineOf, share_of_shares h]

theorem issues_persistHeader (s : State) (c : PoolCode) (complete : Bool) :
    OnlyChanges [.dram] s (s.persistHeader c complete) ∧
      Issues s (s.persistHeader c complete) [(headerAddress c, storedHeader c complete)] :=
  ⟨onlyChanges_setDram s _, issues_of_dram_issue (by simp [State.persistHeader])⟩

theorem issues_persistDomainLine {s : State} {p : PoolCode} (hp : s.mc.poolCode = some p) (k : Nat) :
    OnlyChanges [.dram] s (s.persistDomainLine k) ∧
      Issues s (s.persistDomainLine k) [(domainAddress p (2 * k), domainLineOf s k)] := by
  have he : s.persistDomainLine k = s.setDram (s.dram.issue (domainLineAddress p k) (s.domainLine k)) := by
    simp [State.persistDomainLine, hp]
  rw [he]
  refine ⟨onlyChanges_setDram s _, issues_of_dram_issue ?_⟩
  simp [domainLineAddress, domainLineOf, State.domainLine]

theorem issues_persistShareLine {s : State} {p : PoolCode} (hp : s.mc.poolCode = some p) (k : Nat) :
    OnlyChanges [.dram] s (s.persistShareLine k) ∧
      Issues s (s.persistShareLine k) [(shareAddress p (4 * k), shareLineOf s k)] := by
  have he : s.persistShareLine k = s.setDram (s.dram.issue (shareLineAddress p k) (s.shareLine k)) := by
    simp [State.persistShareLine, hp]
  rw [he]
  refine ⟨onlyChanges_setDram s _, issues_of_dram_issue ?_⟩
  simp [shareLineAddress, shareLineOf, State.shareLine]

/-- The part with the tables and counts of R116, of which no record has been written. -/
def State.initialTables (s : State) (c : PoolCode) : State :=
  ((s.setDomains (initialDomains (tenantGranules (some c)))).setShares []).setMc { s.mc with countsStale := false }

/-- The fixed parts of the store go to MI: the headers, then the records of the two tables (R116). -/
theorem writeFixedParts_spec {s : State} {p : PoolCode} (hp : s.mc.poolCode = some p) :
    OnlyChanges [.dram] (s.initialTables p) (s.writeFixedParts p) ∧
      Issues (s.initialTables p) (s.writeFixedParts p) ([(headerAddress p, storedHeader p false)] ++
        (([0, 1, 2, 3, 4] : List PoolCode).filter (fun k => k ≠ p)).map (fun k => (headerAddress k, storedHeader k false)) ++
        (List.range 512).map (fun k => (domainAddress p (2 * k), domainLineOf (s.initialTables p) k)) ++
        (List.range 64).map (fun k => (shareAddress p (4 * k), shareLineOf (s.initialTables p) k))) := by
  obtain ⟨hc2, hi2⟩ := issues_persistHeader (s.initialTables p) p false
  obtain ⟨hc3, hi3⟩ := issues_foldl (P := OnlyChanges [.dram] (s.initialTables p))
    (f := fun s k => s.persistHeader k false) (g := fun k => (headerAddress k, storedHeader k false))
    (fun t k ht => ⟨onlyChanges_mono (onlyChanges_trans ht (issues_persistHeader t k false).1) (by simp),
      (issues_persistHeader t k false).2⟩) (([0, 1, 2, 3, 4] : List PoolCode).filter (fun k => k ≠ p)) hc2
  have hpool {t : State} (ht : OnlyChanges [.dram] (s.initialTables p) t) : t.mc.poolCode = some p := by
    rw [show t.mc = _ from ht.2 .mc (by simp)]
    exact hp
  obtain ⟨hc4, hi4⟩ := issues_foldl (P := OnlyChanges [.dram] (s.initialTables p)) (f := State.persistDomainLine)
    (g := fun k => (domainAddress p (2 * k), domainLineOf (s.initialTables p) k))
    (fun t k ht => by
      obtain ⟨hc, hi⟩ := issues_persistDomainLine (hpool ht) k
      rw [domainLineOf_of_domains (ht.2 .domains (by simp))] at hi
      exact ⟨onlyChanges_mono (onlyChanges_trans ht hc) (by simp), hi⟩) (List.range 512) hc3
  obtain ⟨hc5, hi5⟩ := issues_foldl (P := OnlyChanges [.dram] (s.initialTables p)) (f := State.persistShareLine)
    (g := fun k => (shareAddress p (4 * k), shareLineOf (s.initialTables p) k))
    (fun t k ht => by
      obtain ⟨hc, hi⟩ := issues_persistShareLine (hpool ht) k
      rw [shareLineOf_of_shares (ht.2 .shares (by simp))] at hi
      exact ⟨onlyChanges_mono (onlyChanges_trans ht hc) (by simp), hi⟩) (List.range 64) hc4
  have he : s.writeFixedParts p = (List.range 64).foldl State.persistShareLine ((List.range 512).foldl State.persistDomainLine
      ((([0, 1, 2, 3, 4] : List PoolCode).filter (fun k => k ≠ p)).foldl (fun s k => s.persistHeader k false)
        ((s.initialTables p).persistHeader p false))) := by
    rw [List.foldl_filter]
    simp only [decide_not, Bool.not_eq_true', decide_eq_false_iff_not, ite_not]
    rfl
  rw [he]
  exact ⟨hc5, issues_trans (issues_trans (issues_trans hi2 hi3) hi4) hi5⟩

/-! # FORMAT: an install -/

theorem find_of_stuck {tc : TagCache} {j : Nat} (h : Stuck tc j) : tc.find j = .stall := by
  obtain ⟨hnone, hfull⟩ := h
  have hvalid : ∀ way line, (way, WayState.valid j line) ∉ tc.set j := fun way line hm => by
    simpa [WayState.isValid] using (hnone _ hm).1
  have hpend : tc.isPending j = false := by
    rw [TagCache.isPending, List.any_eq_false]
    exact fun x hx => by simp [(hnone x hx).2]
  rw [TagCache.find_of_not_valid hvalid, hpend]
  rcases hfull with hfull | hfull
  · simp [hfull]
  · simp [CacheSet.victim_eq_none hfull]

theorem find_of_pending {tc : TagCache} {j way : Nat} (hwf : setWf (tc.set j)) (h : (way, WayState.pending j) ∈ tc.set j) :
    tc.find j = .pending := by
  have hvalid : ∀ way line, (way, WayState.valid j line) ∉ tc.set j := fun way' line hm => by
    simpa using way_unique_of_setWf hwf h hm rfl rfl
  rw [TagCache.find_of_not_valid hvalid, if_pos (TagCache.isPending_iff.2 ⟨way, h⟩)]

/-- A line that an install can take at once: cached, or with a way to take (R88). -/
def InstallTakes (tc : TagCache) (j : Nat) : Prop :=
  (tc.validLine j).isSome = true ∨ ((∀ way, (way, WayState.pending j) ∉ tc.set j) ∧ ¬ Stuck tc j)

/-- The way that an install takes: the line's own, or one that is not PENDING where no way holds the line (R79, R88). -/
theorem find_of_takes {tc : TagCache} {j : Nat} (hwf : setWf (tc.set j)) (h : InstallTakes tc j) :
    ∃ way st, (way, st) ∈ tc.set j ∧ (st.line = some j ∨ ∀ w ∈ tc.set j, w.2.line ≠ some j) ∧
      ((∃ line, tc.find j = .hit way line) ∨ tc.find j = .room way) := by
  by_cases hv : ∃ way line, (way, WayState.valid j line) ∈ tc.set j
  · obtain ⟨way, line, hm⟩ := hv
    refine ⟨way, _, hm, .inl rfl, .inl ⟨line, ?_⟩⟩
    simp [TagCache.find, TagCache.validWay_eq_some hwf hm, TagCache.validLine_eq_some hwf hm]
  · have hvalid : ∀ way line, (way, WayState.valid j line) ∉ tc.set j := fun way line hm => hv ⟨way, line, hm⟩
    have hnone : (tc.validLine j).isSome = false := by
      rw [Bool.eq_false_iff]
      intro hsome
      obtain ⟨line, hl⟩ := Option.isSome_iff_exists.1 hsome
      obtain ⟨way, hm⟩ := (validLine_iff hwf line).1 hl
      exact hvalid way line hm
    obtain ⟨hpend, hstuck⟩ := h.resolve_left (by simp [hnone])
    have hfree : ∀ x ∈ tc.set j, x.2.isValid j = false ∧ x.2.isPendingFor j = false := by
      rintro ⟨way, st⟩ hx
      cases st with
      | empty => exact ⟨rfl, rfl⟩
      | valid k line =>
        refine ⟨?_, rfl⟩
        rw [WayState.isValid, beq_eq_false_iff_ne]
        rintro rfl
        exact hvalid way line hx
      | pending k =>
        refine ⟨rfl, ?_⟩
        rw [WayState.isPendingFor, beq_eq_false_iff_ne]
        rintro rfl
        exact hpend way hx
    have hfills : tc.fills.length < 16 := by
      by_contra hfull
      exact hstuck ⟨hfree, .inl (by omega)⟩
    obtain ⟨x, hx, hxp⟩ : ∃ x ∈ tc.set j, x.2.isPending = false := by
      by_contra hall
      refine hstuck ⟨hfree, .inr fun x hx => ?_⟩
      by_contra hxp
      exact hall ⟨x, hx, by simpa using hxp⟩
    obtain ⟨y, hy⟩ := Option.isSome_iff_exists.1 (List.find?_isSome (p := fun w => !w.2.isPending).2 ⟨x, hx, by simp [hxp]⟩)
    refine ⟨y.1, y.2, List.mem_of_find?_eq_some hy, .inr fun w hw hline => ?_, .inr ?_⟩
    · obtain ⟨hwv, hwp⟩ := hfree w hw
      rcases w with ⟨way, st⟩
      cases st <;> simp_all [WayState.line, WayState.isValid, WayState.isPendingFor]
    · have hnp : tc.isPending j = false := by
        rw [TagCache.isPending, List.any_eq_false]
        exact fun w hw => by simp [(hfree w hw).2]
      have hvictim : CacheSet.victim (tc.set j) = some y.1 := by rw [CacheSet.victim, hy]; rfl
      rw [TagCache.find_of_not_valid hvalid, hnp, hvictim]
      simp [hfills]

/-- An installed line's four granules join the open run, and HANDOFF goes on (R117). -/
theorem installed_goes {s x : State} {w : Work} {c : Cmd} (hs : Working s w c) (hx : OnlyChanges [.tc] s x)
    {older : List Run} {tail : Run} (hopen : w.runOpen = true) (hruns : s.su.runs = older ++ [tail]) :
    ∃ u, x.installed w c.command = handoffEnd s u w c 4 ∧ OnlyChanges [.su, .te] x u ∧
      HandoffGoes s u w c (grown older tail 4) (decide (tail.count + 4 < 1048576)) 4 := by
  have hte : x.te = s.te := hx.2 .te (by simp)
  have hyc := onlyChanges_updateWork x fun w => { w with busy := false }
  have hat : HandoffAt s (x.updateWork fun w => { w with busy := false }) w c (older ++ [tail]) true := by
    refine ⟨?_, cmdBecomes_updateWork (cmdBecomes_refl (by rw [hte]) (by rw [hte]) hs.cmd) _, ?_, ?_⟩
    · rw [← hopen]
      exact updateWork_current (hte ▸ hs.current) _
    · rw [← hruns]
      exact (hyc.2 .su (by simp)).trans (hx.2 .su (by simp))
    · exact (hyc.2 .mc (by simp)).trans (hx.2 .mc (by simp))
  obtain ⟨hgrown, hgc⟩ := hat.grow 4
  obtain ⟨u, he, huc, hgoes⟩ := handoffNext_goes hgrown 4
  exact ⟨u, he, onlyChanges_mono (onlyChanges_trans (onlyChanges_trans hyc hgc) huc) (by simp), hgoes⟩

theorem engineWaits_te {s : State} {w : Work} (h : s.te.current = some w) :
    s.engineWaits.te = { s.te with current := some { w with busy := true } } := updateWork_te h _

/-- The engine waits with TC as it is given (R88). -/
theorem setTc_engineWaits {s : State} {w : Work} {c : Cmd} (hs : Working s w c) (tc : TagCache) :
    OnlyChanges [.tc, .te] s (s.setTc tc).engineWaits ∧ (s.setTc tc).engineWaits.tc = tc ∧
      (s.setTc tc).engineWaits.te = { s.te with current := some { w with busy := true } } := by
  refine ⟨onlyChanges_trans (onlyChanges_setTc s tc) (onlyChanges_updateWork _ _), by simp [State.engineWaits, State.updateWork], ?_⟩
  rw [engineWaits_te (w := w) (by simpa using hs.current)]
  simp

/-! # The rows of FORMAT -/

theorem exec_formatHandoff {s : State} {w : Work} {c : Cmd} {kept : StoreState} (h : Engaged s w c)
    (hc : c.command = .format kept) (hp : c.phase = .handoff) (hw : w.placeWait = false) :
    exec .formatHandoff s = .next (if w.runOpen = false then s.openRun w else s.install w c.command).settle := by
  have hrow : exec .formatHandoff s = .next (formatUnit w c.command s).settle :=
    onPhase_of_engaged h hp (kind := Command.isFormat) (by rw [hc]; rfl) formatUnit
  have htry : s.engineTry = s.install w c.command := by
    rw [State.engineTry, (working_of_engaged h).currentCmd]
    simp only [hc]
  rw [hrow, formatUnit, if_neg (by simp [hw]), htry]

theorem exec_formatVerify {s : State} {w : Work} {c : Cmd} {kept : StoreState} (h : Engaged s w c)
    (hc : c.command = .format kept) (hp : c.phase = .verify) :
    exec .formatVerify s = .next (if s.su.runs = [] ∧ ∀ e ∈ s.portA.table ++ s.portB.table, e.stage ≠ .forwarded then
      s.enterMark w.ticket 0 else s).settle := by
  have hcond : (s.su.runs.isEmpty && !s.portA.forwarding && !s.portB.forwarding) = true ↔
      (s.su.runs = [] ∧ ∀ e ∈ s.portA.table ++ s.portB.table, e.stage ≠ .forwarded) := by
    simp [PortRec.forwarding, or_imp, forall_and, and_assoc]
  rw [exec, execFormatVerify, onPhase_of_engaged h hp (by rw [hc]; rfl), hc]
  exact congrArg (fun u : State => Host.Outcome.next u.settle) (if_congr hcond rfl rfl)

theorem exec_formatMark {s : State} {w : Work} {c : Cmd} {kept : StoreState} {p : PoolCode} (h : Engaged s w c)
    (hc : c.command = .format kept) (hp : c.phase = .mark) (hpool : s.mc.poolCode = some p) :
    exec .formatMark s =
      .next ((s.writeFixedParts p).updateCmd w.ticket fun c => { c with phase := .handoff }).settle := by
  rw [exec, execFormatMark, onPhase_of_engaged h hp (by rw [hc]; rfl), hpool]

theorem initialTables_domain (s : State) (p : PoolCode) (d : DomainId) :
    (s.initialTables p).domain d =
      if d = 0 then { state := .opened, quota := tenantGranules (some p), held := 0, score := 0, latch := false }
      else { state := .closed, quota := 0, held := 0, score := 0, latch := false } := by
  simp only [State.initialTables, State.domain, State.setMc_domains, State.setShares_domains, State.setDomains_domains,
    initialDomains]
  by_cases h : d = 0
  · subst h
    rfl
  · rw [if_neg h]
    have hne : d.toNat ≠ 0 := fun h0 => h (BitVec.eq_of_toNat_eq h0)
    simp [smapGet, hne.symm, closedDomain]

/-- Settles O50: FORMAT's VERIFY, its MARK and its HANDOFF. -/
theorem formatPhases : Obligations.FormatPhases := by
  intro s w c kept h hc
  have hs := working_of_engaged h
  refine ⟨fun hp => ?_, fun p hp hpool => ?_, fun hp hplace => ⟨fun hopen => ?_, ?_⟩⟩
  · have hexec := exec_formatVerify h hc hp
    split_ifs with hidle
    · rw [if_pos hidle] at hexec
      exact ⟨_, hexec, onlyChanges_enterMark s _ _, enterMark_working hs 0⟩
    · rw [if_neg hidle] at hexec
      exact hexec
  · have hexec := exec_formatMark h hc hp hpool
    obtain ⟨hch, hissue⟩ := writeFixedParts_spec hpool
    have htab : OnlyChanges [.domains, .shares, .mc] s (s.initialTables p) :=
      ⟨by simp [State.initialTables], fun b hb => by cases b <;> simp_all [Block.same, State.initialTables]⟩
    have hall := onlyChanges_trans htab hch
    have hte : (s.writeFixedParts p).te = s.te := hall.2 .te (by simp)
    have hu := onlyChanges_updateCmd (s.writeFixedParts p) w.ticket fun c => { c with phase := .handoff }
    have hfix := onlyChanges_trans hch hu
    refine ⟨_, hexec, onlyChanges_mono (onlyChanges_trans hall hu) (by simp), fun d => ?_, fun i => ?_, ?_, ?_, ?_, ?_⟩
    · rw [domain_of_domains (hfix.2 .domains (by simp)), initialTables_domain]
    · rw [share_of_shares (hfix.2 .shares (by simp))]
      simp [State.initialTables, State.share, smapGet, freeEntry]
    · rw [show _ = (s.initialTables p).mc from hfix.2 .mc (by simp)]
      simp [State.initialTables]
    · exact cmdBecomes_from (by rw [hte]) (by rw [hte]) (cmdBecomes_updateCmd (f := fun c => { c with phase := .handoff })
        (hs.of_te hte).cmd fun _ => rfl)
    · simp [State.updateCmd]
    · simp only [domainLineOf_of_domains (hfix.2 .domains (by simp)), shareLineOf_of_shares (hfix.2 .shares (by simp))]
      exact issues_of_dram (hu.2 .dram (by simp)) (issues_from (by simp [State.initialTables]) hissue)
  · have hexec := exec_formatHandoff h hc hp hplace
    rw [if_pos hopen] at hexec
    exact ⟨_, hexec, openRun_opens hs⟩
  · intro older tail j hopen hruns hcursor hwf r recs takes waits
    have hexec := exec_formatHandoff h hc hp hplace
    rw [if_neg (by simp [hopen])] at hexec
    have hj : lineOf w.cursor = j := by rw [lineOf, hcursor]; omega
    have hrecs : formatLine w.ticket = recs := rfl
    refine ⟨fun ht hroom => ?_, fun ht hfull => ?_, fun ⟨way, hm⟩ => ?_, fun hstuck => ?_⟩
    · obtain ⟨way, st, hm, hl, hfind⟩ := find_of_takes hwf ht
      have hi : s.install w c.command =
          (s.setTc ((s.tc.putValid way j recs).pushWrite j recs)).installed w c.command := by
        rw [State.install, hj]
        rcases hfind with ⟨line, hfind⟩ | hfind
        · rw [hfind, hrecs]
          exact if_pos (hasRoom_iff.2 hroom)
        · rw [hfind, hrecs]
          exact if_pos (hasRoom_iff.2 hroom)
      obtain ⟨u, he, huc, hgoes⟩ := installed_goes hs
        (onlyChanges_setTc s ((s.tc.putValid way j recs).pushWrite j recs)) hopen hruns
      obtain ⟨hwf', hm'⟩ := putValid_valid hwf hm hl recs
      have htc : u.tc = (s.tc.putValid way j recs).pushWrite j recs := by
        rw [show u.tc = _ from huc.2 .tc (by simp), State.setTc_tc]
      refine ⟨u, hexec.trans (by rw [hi, he]), onlyChanges_mono (onlyChanges_trans (onlyChanges_setTc s _) huc) (by simp),
        ?_, ?_, ?_, ?_, ?_, ?_, hgoes⟩
      · rw [htc]; exact hwf'
      · rw [htc]; exact TagCache.validLine_eq_some hwf' hm'
      · rw [htc]; rfl
      · rw [htc]; rfl
      · rw [htc]; rfl
      · rw [htc]; rfl
    · obtain ⟨way, st, hm, hl, hfind⟩ := find_of_takes hwf ht
      have hno : ¬ s.tc.hasRoom = true := fun hr => by have := hasRoom_iff.1 hr; omega
      have hi : s.install w c.command = (s.setTc { s.tc with held := s.tc.held ++ [.install j] }).engineWaits := by
        rw [State.install, hj]
        rcases hfind with ⟨line, hfind⟩ | hfind
        · rw [hfind]
          exact if_neg hno
        · rw [hfind]
          exact if_neg hno
      exact ⟨_, hexec.trans (by rw [hi]), setTc_engineWaits hs _⟩
    · have hi : s.install w c.command = (s.setTc { s.tc with
          fills := s.tc.fills.map fun f => if f.line = j then { f with install := some recs } else f }).engineWaits := by
        rw [State.install, hj, find_of_pending hwf hm, hrecs]
      exact ⟨_, hexec.trans (by rw [hi]), setTc_engineWaits hs _⟩
    · have hi : s.install w c.command =
          (s.setTc { s.tc with stalled := s.tc.stalled ++ [(.engine, j)] }).engineWaits := by
        rw [State.install, hj, find_of_stuck hstuck]
      exact ⟨_, hexec.trans (by rw [hi]), setTc_engineWaits hs _⟩

end Sys2Proof.Machine

namespace Sys2Proof.Machine

open Sys2Proof.Safety

/-! # What the scrubber may change when it goes on -/

theorem scrubberGoesOn_of {s t : State} (h : OnlyChanges [.dram, .tc, .domains, .shares, .te, .su] s t) (hb : SameBytes s t)
    (hr : t.dram.selfRefresh = s.dram.selfRefresh) : ScrubberGoesOn s t := by
  have hmc : t.mc = s.mc := h.2 .mc (by simp)
  have hcp : t.cp = s.cp := h.2 .cp (by simp)
  exact ⟨onlyChanges_mono h (by simp), hb, hr, by rw [hmc], by rw [hcp], by rw [hcp], by rw [hcp]⟩

theorem scrubberGoesOn_of_dram {s t : State} (h : OnlyChanges [.tc, .te, .su] s t) : ScrubberGoesOn s t := by
  have hd : t.dram = s.dram := h.2 .dram (by simp)
  exact scrubberGoesOn_of (onlyChanges_mono h (by simp)) (fun a => by rw [hd]) (by rw [hd])

theorem scrubberGoesOn_refl (s : State) : ScrubberGoesOn s s :=
  scrubberGoesOn_of_dram (onlyChanges_mono (onlyChanges_refl s) (by simp))

theorem scrubberGoesOn_trans {s u t : State} (h : ScrubberGoesOn s u) (k : ScrubberGoesOn u t) : ScrubberGoesOn s t := by
  obtain ⟨h1, h2, h3, h4, h5, h6, h7⟩ := h
  obtain ⟨k1, k2, k3, k4, k5, k6, k7⟩ := k
  exact ⟨onlyChanges_mono (onlyChanges_trans h1 k1) (by simp), fun a => (k2 a).trans (h2 a), k3.trans h3,
    by rw [k4, h4], k5.trans h5, k6.trans h6, k7.trans h7⟩

theorem scrubberGoesOn_setMc (s : State) (st : StoreState) (r : Option Recovery) :
    ScrubberGoesOn s (s.setMc { s.mc with storeState := st, recovery := r }) :=
  ⟨onlyChanges_mono (onlyChanges_setMc s _) (by simp), fun _ => rfl, rfl, rfl, rfl, rfl, rfl⟩

theorem scrubberGoesOn_placeNotice (s : State) (n : Notice) : ScrubberGoesOn s (s.placeNotice n) :=
  ⟨onlyChanges_mono (onlyChanges_placeNotice s n) (by simp), fun a => by simp, by simp, by simp, by simp, by simp, by simp⟩

theorem persistDomain_selfRefresh (s : State) (d : DomainId) : (s.persistDomain d).dram.selfRefresh = s.dram.selfRefresh := by
  unfold State.persistDomain State.persistDomainLine
  split <;> simp [Dram.issue]

theorem persistShare_selfRefresh (s : State) (i : ShareIx) : (s.persistShare i).dram.selfRefresh = s.dram.selfRefresh := by
  unfold State.persistShare State.persistShareLine
  split <;> simp [Dram.issue]

theorem scrubberGoesOn_writeDomain (s : State) (d : DomainId) (r : DomainRec) : ScrubberGoesOn s (s.writeDomain d r) :=
  scrubberGoesOn_of (onlyChanges_mono (onlyChanges_writeDomain s d r) (by simp)) (sameBytes_writeDomain s d r)
    (by rw [State.writeDomain, persistDomain_selfRefresh]; rfl)

theorem scrubberGoesOn_writeShare (s : State) (i : ShareIx) (e : ShareEntry) : ScrubberGoesOn s (s.writeShare i e) :=
  scrubberGoesOn_of (onlyChanges_mono (onlyChanges_writeShare s i e) (by simp)) (sameBytes_writeShare s i e)
    (by rw [State.writeShare, persistShare_selfRefresh]; rfl)

theorem scrubberGoesOn_foldl {α : Type} (f : State → α → State) (h : ∀ s a, ScrubberGoesOn s (f s a)) (l : List α) (s : State) :
    ScrubberGoesOn s (l.foldl f s) := by
  induction l generalizing s with
  | nil => exact scrubberGoesOn_refl s
  | cons a l ih => exact scrubberGoesOn_trans (h s a) (ih (f s a))

theorem scrubberGoesOn_freeShares (s : State) (d : DomainId) : ScrubberGoesOn s (s.freeShares d) := by
  refine scrubberGoesOn_foldl _ (fun s i => ?_) _ s
  dsimp only
  split
  · exact scrubberGoesOn_writeShare _ _ _
  · exact scrubberGoesOn_refl s

theorem scrubberGoesOn_persistHeader (s : State) (c : PoolCode) (b : Bool) : ScrubberGoesOn s (s.persistHeader c b) :=
  scrubberGoesOn_of (onlyChanges_mono (onlyChanges_setDram s _) (by simp)) (fun _ => rfl) rfl

theorem scrubberGoesOn_markFormatted (s : State) : ScrubberGoesOn s s.markFormatted := by
  unfold State.markFormatted
  split
  · exact scrubberGoesOn_setMc s _ _
  · exact scrubberGoesOn_trans (scrubberGoesOn_persistHeader s _ _) (scrubberGoesOn_setMc _ _ _)

theorem scrubberGoesOn_finishKind (s : State) (c : Command) (st : Completion) : ScrubberGoesOn s (s.finishKind c st) := by
  cases c with
  | retire d w =>
    simp only [State.finishKind]
    split
    · exact scrubberGoesOn_refl s
    · exact scrubberGoesOn_trans (scrubberGoesOn_freeShares s d) (scrubberGoesOn_writeDomain _ _ _)
  | format p =>
    simp only [State.finishKind]
    split
    · exact scrubberGoesOn_refl s
    · exact scrubberGoesOn_markFormatted s
  | _ => exact scrubberGoesOn_refl s

theorem scrubberGoesOn_notifyDone (s : State) (k : Ticket) : ScrubberGoesOn s (s.notifyDone k) := by
  cases hc : s.cmd k with
  | none => rw [State.notifyDone, hc]; exact scrubberGoesOn_refl s
  | some c =>
    rw [notifyDone_of_cmd hc, notify_of_cmd hc]
    exact scrubberGoesOn_trans (scrubberGoesOn_trans
      (scrubberGoesOn_of_dram (onlyChanges_mono (onlyChanges_slotNotified s k _) (by simp))) (scrubberGoesOn_finishKind _ _ _))
      (scrubberGoesOn_placeNotice _ _)

/-! # What the scrubber does changes no more than that -/

theorem scrubberGoesOn_reportRun (s : State) (k : Option Ticket) : ScrubberGoesOn s (s.reportRun k) := by
  have hcount (k : Ticket) : ScrubberGoesOn s (s.updateCmd k fun c => { c with runs := c.runs - 1 }) :=
    scrubberGoesOn_of_dram (onlyChanges_mono (onlyChanges_updateCmd s k _) (by simp))
  unfold State.reportRun
  split
  · exact scrubberGoesOn_refl s
  · dsimp only
    split
    · split
      · exact scrubberGoesOn_trans (hcount _) (scrubberGoesOn_notifyDone _ _)
      · exact hcount _
    · exact hcount _

theorem scrubberGoesOn_setSu (s : State) (x : Scrubber) : ScrubberGoesOn s (s.setSu x) :=
  scrubberGoesOn_of_dram ⟨rfl, fun b hb => by cases b <;> simp_all [Block.same]⟩

theorem scrubberGoesOn_engineOpens (s : State) (w : Work) : ScrubberGoesOn s (s.engineOpens w) :=
  scrubberGoesOn_of_dram ⟨by simp, fun b hb => by cases b <;> simp_all [Block.same]⟩

theorem scrubberGoesOn_placeFreed (s : State) : ScrubberGoesOn s s.placeFreed := by
  unfold State.placeFreed
  split
  · split
    · exact scrubberGoesOn_engineOpens s _
    · exact scrubberGoesOn_refl s
  · split
    · split
      · exact scrubberGoesOn_trans (scrubberGoesOn_setSu s _) (scrubberGoesOn_setMc _ _ _)
      · exact scrubberGoesOn_refl s
    · exact scrubberGoesOn_refl s

theorem scrubberGoesOn_removeRuns (n : Nat) (s : State) : ScrubberGoesOn s (State.removeRuns n s) := by
  induction n generalizing s with
  | zero => exact scrubberGoesOn_refl s
  | succ n ih =>
    unfold State.removeRuns
    split
    · exact scrubberGoesOn_refl s
    · split
      · exact scrubberGoesOn_trans (scrubberGoesOn_trans (scrubberGoesOn_trans (scrubberGoesOn_setSu s _)
          (scrubberGoesOn_reportRun _ _)) (scrubberGoesOn_placeFreed _)) (ih _)
      · exact scrubberGoesOn_refl s

theorem onlyChanges_scrubPump (s : State) : OnlyChanges [.tc, .te, .su] s s.scrubPump :=
  ⟨by simp, fun b hb => by cases b <;> simp_all [Block.same]⟩

theorem scrubberGoesOn_scrubSettle (s : State) : ScrubberGoesOn s s.scrubSettle := by
  unfold State.scrubSettle
  split
  · exact scrubberGoesOn_refl s
  · dsimp only
    have hpump := scrubberGoesOn_trans (scrubberGoesOn_of_dram (onlyChanges_scrubPump s))
      (scrubberGoesOn_of_dram (onlyChanges_scrubPump s.scrubPump))
    refine scrubberGoesOn_trans (scrubberGoesOn_trans hpump (scrubberGoesOn_removeRuns (Config.runCapacity + 1) _)) ?_
    split
    · exact scrubberGoesOn_setSu _ _
    · exact scrubberGoesOn_trans (scrubberGoesOn_setSu _ _) (scrubberGoesOn_setSu _ _)

/-! # A scrubber that has nothing to do -/

theorem scrubSettle_of_suspended {s : State} (h : s.mc.mode = .suspended) : s.scrubSettle = s := by
  rw [State.scrubSettle, if_pos h]

/-- A scrubber that writes nothing, with no change waiting, its timer stopped and the head of its list open or absent,
has nothing to do (R127, R128). -/
theorem scrubSettle_of_rest {s : State} (hw : s.su.write = none) (hc : s.su.waiting = none) (hp : s.su.pacing = none)
    (hr : ∀ r ∈ s.su.runs.head?, r.isOpen = true) : s.scrubSettle = s := by
  by_cases hm : s.mc.mode = .suspended
  · exact scrubSettle_of_suspended hm
  have hpump : s.scrubPump = s := State.scrubPump_of_rest s (by simp [hw]) (by simp [hc])
  have hruns : State.removeRuns (Config.runCapacity + 1) s = s :=
    State.removeRuns_of_head _ s fun r rest e => .inl (hr r (by simp [e]))
  have hhead : s.su.headClosed = false := by
    unfold Scrubber.headClosed
    split
    · next r rest e => simp [hr r (by simp [e])]
    · rfl
  have hstop : ({ s.su with pacing := none } : Scrubber) = s.su := by rw [← hp]
  have hburst : s.su.burst s.mc.scrubInterval = s.su := by rw [Scrubber.burst, if_pos (by rw [hhead]; simp)]
  rw [State.scrubSettle, if_neg hm]
  simp only [hpump, hruns, hhead, hstop, Bool.false_eq_true, if_false]
  show s.setSu (s.su.burst s.mc.scrubInterval) = s
  rw [hburst]
  rfl

/-! # The end of the step -/

theorem inFlight_iff (s : State) (a : Nat) : InFlight s a ↔ a ∈ s.inFlight := by
  cases hp : s.mc.poolCode <;> cases hw : s.su.write <;>
    simp [InFlight, State.inFlight, hp, hw, @eq_comm _ a, and_assoc, or_assoc]

/-- In SUSPENDED with no return asked for exactly the idle channels enter self-refresh, or stay in it (R184). -/
theorem enterSelfRefresh_settleChannels {s : State} (h : s.mc.mode = .suspended ∧ s.mc.pendingTarget = none) :
    OnlyChanges [.dram] s s.settleChannels ∧ EnterSelfRefresh s s.settleChannels := by
  rw [State.settleChannels, if_pos h]
  refine ⟨onlyChanges_setDram s _, rfl, fun ch => ?_⟩
  have hall : ch ∈ channels := by revert ch; decide
  show ch ∈ List.filter _ _ ↔ _
  rw [List.mem_filter]
  simp [hall, inFlight_iff]

theorem settleChannels_of_not {s : State} (h : ¬ (s.mc.mode = .suspended ∧ s.mc.pendingTarget = none)) :
    s.settleChannels = s := by rw [State.settleChannels, if_neg h]

theorem canSuspend_iff (s : State) : s.canSuspend = true ↔ s.mc.pendingTarget = some .suspended ∧
    s.portA.table = [] ∧ s.portB.table = [] ∧ s.te.current = none ∧ s.cp.executing = none := by
  simp [State.canSuspend, and_assoc]

theorem trySuspend_of_not {s : State} (h : ¬ (s.mc.pendingTarget = some .suspended ∧
    s.portA.table = [] ∧ s.portB.table = [] ∧ s.te.current = none ∧ s.cp.executing = none)) : s.trySuspend = s := by
  rw [State.trySuspend, if_neg (mt (canSuspend_iff s).1 h)]

theorem settleMode_of_not {s : State} (hm : s.mc.mode ≠ .suspended) (h : ¬ (s.mc.pendingTarget = some .suspended ∧
    s.portA.table = [] ∧ s.portB.table = [] ∧ s.te.current = none ∧ s.cp.executing = none)) : s.settleMode = s := by
  rw [State.settleMode, trySuspend_of_not h, settleChannels_of_not (mt And.left hm)]

/-- The change to SUSPENDED takes effect (R127, R184). -/
theorem trySuspend_spec {s : State} (h : s.mc.pendingTarget = some .suspended ∧
    s.portA.table = [] ∧ s.portB.table = [] ∧ s.te.current = none ∧ s.cp.executing = none) :
    OnlyChanges [.su, .eu, .mc, .cp] s s.trySuspend ∧ s.trySuspend.su = { s.su with pacing := none } ∧
      s.trySuspend.mc = { s.mc with mode := .suspended, suspendOrigin := some s.mc.mode, pendingTarget := none } ∧
      FlagsSet s s.trySuspend [.modeChanged] := by
  rw [State.trySuspend, if_pos ((canSuspend_iff s).2 h)]
  refine ⟨⟨by simp, fun b hb => by cases b <;> simp_all [Block.same]⟩, by simp, by simp, ?_⟩
  exact flagsSet_of_eu_eq rfl (flagsSet_setFlag _ _)

/-- The change to SUSPENDED takes effect, and the idle channels enter self-refresh (R184). -/
theorem settleMode_suspends {s : State} (h : s.mc.pendingTarget = some .suspended ∧
    s.portA.table = [] ∧ s.portB.table = [] ∧ s.te.current = none ∧ s.cp.executing = none) :
    OnlyChanges [.dram, .su, .eu, .mc, .cp] s s.settleMode ∧ EnterSelfRefresh s s.settleMode ∧
      s.settleMode.su = { s.su with pacing := none } ∧
      s.settleMode.mc = { s.mc with mode := .suspended, suspendOrigin := some s.mc.mode, pendingTarget := none } ∧
      FlagsSet s s.settleMode [.modeChanged] := by
  obtain ⟨hoc, hsu, hmc, hfs⟩ := trySuspend_spec h
  obtain ⟨hch, hself⟩ := enterSelfRefresh_settleChannels (s := s.trySuspend) (by rw [hmc]; exact ⟨rfl, rfl⟩)
  have hin (a : Nat) : InFlight s.trySuspend a ↔ InFlight s a := by simp [InFlight]
  have hdram : s.trySuspend.dram = s.dram := hoc.2 .dram (by simp)
  simp only [EnterSelfRefresh, hin, hdram] at hself
  refine ⟨onlyChanges_mono (onlyChanges_trans hoc hch) (by simp), hself, (hch.2 .su (by simp)).trans hsu,
    (hch.2 .mc (by simp)).trans hmc, ?_⟩
  rw [FlagsSet, show s.settleMode.eu = s.trySuspend.eu from hch.2 .eu (by simp)]
  exact hfs

theorem settle_of_suspended {s : State} (hm : s.mc.mode = .suspended) (hp : s.mc.pendingTarget ≠ some .suspended) :
    s.settle = s.settleChannels := by
  rw [State.settle, scrubSettle_of_suspended hm, State.settleMode, trySuspend_of_not (mt And.left hp)]

/-- The return from SUSPENDED: MI issues what it held, and the mode becomes the suspend origin (R185). -/
theorem resume_spec {s : State} {origin : Mode} (h : s.mc.suspendOrigin = some origin) :
    OnlyChanges [.dram, .eu, .mc, .cp] s s.resume ∧
      s.resume.mc = { s.mc with mode := origin, suspendOrigin := none, pendingTarget := none } ∧
      s.resume.dram = { s.dram with
        selfRefresh := [], persist := s.dram.persist.map fun w => { w with held := false } } ∧
      FlagsSet s s.resume [.modeChanged] := by
  simp only [State.resume, h]
  refine ⟨⟨by simp, fun b hb => by cases b <;> simp_all [Block.same]⟩, by simp, by simp, ?_⟩
  exact flagsSet_of_eu_eq rfl (flagsSet_setFlag _ _)

/-- Settles O34: SUSPENDED takes effect where its four conditions hold, the idle channels enter self-refresh, and the
last exit from it brings the suspend origin back. -/
theorem suspendAndReturn : Obligations.SuspendAndReturn := by
  refine ⟨⟨?_, fun s hm hp => settleMode_of_not hm (mt And.left hp), ?_, ?_, ?_⟩, fun s => ⟨scrubberGoesOn_scrubSettle s, ?_⟩, ?_⟩
  · rintro s ⟨hw, hc, hp, hr, hm, ht⟩
    rw [State.settle, scrubSettle_of_rest hw hc hp hr, settleMode_of_not hm (mt And.left ht)]
  · intro s hm hp
    refine ⟨fun h => settleMode_suspends ⟨hp, h⟩, fun h => settleMode_of_not ?_ (mt And.right h)⟩
    rcases hm with hm | hm <;> simp [hm]
  · intro s hm hp
    rw [settle_of_suspended hm (by simp [hp])]
    exact enterSelfRefresh_settleChannels ⟨hm, hp⟩
  · intro s hm hp hn
    rw [settle_of_suspended hm hn, settleChannels_of_not (mt And.right hp)]
  · rintro (hm | ⟨hr, hw, hc, hp⟩)
    · exact scrubSettle_of_suspended hm
    · exact scrubSettle_of_rest hw hc hp (by simp [hr])
  · intro s origin target hr hm hp ho
    refine ⟨s.resume, ?_, resume_spec ho⟩
    rw [exec, execSelfRefreshExit, onEvent_of_no_reset hr, if_pos ⟨hm, by simp [hp]⟩]

end Sys2Proof.Machine

namespace Sys2Proof.Machine

open Sys2Proof.Safety

/-! # Replies after a change that leaves the frame and the replies as they are -/

theorem inbound_answer {s u : State} {f : List Byte} {rest : List (List Byte)} (h : Begins s f rest)
    (hk : (messageLength (kindOf f)).isSome = true) (hin : u.cp.inbound = s.cp.inbound)
    (hrep : u.cp.replies = s.cp.replies) (st : Status) (results : List Byte) :
    (u.answer st results).cp.inbound = rest ∧
      (u.answer st results).cp.replies =
        s.cp.replies ++ [{ kind := f.headD 0 + 0x80, seq := f.getD 1 0, status := st, results := results }] := by
  obtain ⟨-, -, -, -, hf⟩ := h
  rw [answer_eq u (hin.trans hf) hk, ← hrep]
  exact ⟨rfl, rfl⟩

theorem answer_onlyChanges (u : State) (st : Status) (results : List Byte) : OnlyChanges [.cp] u (u.answer st results) :=
  onlyChanges_mono (onlyChanges_answer (onlyChanges_refl u) st results) (by simp)

theorem enterSelfRefresh_answer {s u : State} (h : EnterSelfRefresh s u) (st : Status) (results : List Byte) :
    EnterSelfRefresh s (u.answer st results) := by
  rw [EnterSelfRefresh, show (u.answer st results).dram = u.dram by simp]
  exact h

/-! # The moves between modes (R182) -/

/-- The mode that a target byte of MODE_REQUEST names. -/
theorem targetOf_eq {x : Byte} (h0 : x ≠ 0) (h4 : x.toNat ≤ 4) :
    targetOf x = some (if x = 1 then .config else if x = 2 then .enforce else if x = 3 then .monitor else .suspended) := by
  revert x
  decide

theorem targetOf_eq_none {x : Byte} (h : x = 0 ∨ 4 < x.toNat) : targetOf x = none := by
  revert x
  decide

variable {m t : Mode} {o : Option Mode}

theorem moveOf_atOnce (hne : t ≠ m) (ht : t = .enforce ∨ t = .monitor) (hm : m = .config ∨ m = .enforce ∨ m = .monitor) :
    moveOf m o t = some .atOnce := by
  rcases ht with rfl | rfl <;> rcases hm with rfl | rfl | rfl <;> simp_all [moveOf]

theorem moveOf_toConfig (hm : m = .enforce ∨ m = .monitor) : moveOf m o .config = some .afterCommands := by
  rcases hm with rfl | rfl <;> rfl

theorem moveOf_toSuspended (hm : m = .enforce ∨ m = .monitor) : moveOf m o .suspended = some .suspend := by
  rcases hm with rfl | rfl <;> rfl

theorem moveOf_back (ho : o = some t) : moveOf .suspended o t = some .wake := by
  rw [moveOf, if_pos ho]

/-- Any other move is none of the table's. -/
theorem moveOf_none (h : ¬ ((t ≠ m ∧ (t = .enforce ∨ t = .monitor) ∧ (m = .config ∨ m = .enforce ∨ m = .monitor)) ∨
    (t = .config ∧ (m = .enforce ∨ m = .monitor)) ∨ (t = .suspended ∧ (m = .enforce ∨ m = .monitor)) ∨
    (m = .suspended ∧ o = some t))) : moveOf m o t = none := by
  cases m <;> cases t <;> simp_all [moveOf]

/-! # MODE_REQUEST -/

section
variable {s : State} {seq x : Byte} {rest : List (List Byte)}

theorem modeRequest_refused (h : Begins s [0x48, seq, x] rest) {st : Status}
    (hexec : execModeRequest s = .next (s.answer st [])) :
    ∃ t, exec .modeRequest s = .next t ∧ Refused s t [0x48, seq, x] rest st :=
  ⟨_, hexec, refused_of_answer h rfl st⟩

theorem execModeRequest_recovering (h : Begins s [0x48, seq, x] rest) (hm : s.mc.mode = .recovering) :
    execModeRequest s = .next (s.answer .wrongMode []) :=
  (onMessage_of_begins (kind := 0x48) h rfl rfl _).trans (congrArg _ (if_pos hm))

theorem execModeRequest_badValue (h : Begins s [0x48, seq, x] rest) (hm : s.mc.mode ≠ .recovering)
    (ht : targetOf x = none) : execModeRequest s = .next (s.answer .badValue []) := by
  refine (onMessage_of_begins (kind := 0x48) h rfl rfl _).trans (congrArg _ ?_)
  rw [if_neg hm, show param8 [0x48, seq, x] 0 = x from rfl, ht]

theorem execModeRequest_busy (h : Begins s [0x48, seq, x] rest) (hm : s.mc.mode ≠ .recovering) {target : Mode}
    (ht : targetOf x = some target) (hp : s.mc.pendingTarget ≠ none) :
    execModeRequest s = .next (s.answer .busy []) := by
  refine (onMessage_of_begins (kind := 0x48) h rfl rfl _).trans (congrArg _ ?_)
  rw [if_neg hm, show param8 [0x48, seq, x] 0 = x from rfl, ht]
  exact if_pos hp

theorem execModeRequest_noMove (h : Begins s [0x48, seq, x] rest) (hm : s.mc.mode ≠ .recovering) {target : Mode}
    (ht : targetOf x = some target) (hp : s.mc.pendingTarget = none)
    (hmove : moveOf s.mc.mode s.mc.suspendOrigin target = none) :
    execModeRequest s = .next (s.answer .wrongMode []) := by
  refine (onMessage_of_begins (kind := 0x48) h rfl rfl _).trans (congrArg _ ?_)
  rw [if_neg hm, show param8 [0x48, seq, x] 0 = x from rfl, ht]
  dsimp only
  rw [if_neg (not_not_intro hp), hmove]

theorem execModeRequest_move (h : Begins s [0x48, seq, x] rest) {target : Mode} (ht : targetOf x = some target)
    (hp : s.mc.pendingTarget = none) {m : Move} (hmove : moveOf s.mc.mode s.mc.suspendOrigin target = some m) :
    execModeRequest s = .next (if s.mc.mode = .config ∧ s.mc.storeState ≠ .formatted then s.answer .notFormatted []
      else (s.move m target).answer .ok []) := by
  have hm : s.mc.mode ≠ .recovering := fun he => by simp [he, moveOf] at hmove
  refine (onMessage_of_begins (kind := 0x48) h rfl rfl _).trans (congrArg _ ?_)
  rw [if_neg hm, show param8 [0x48, seq, x] 0 = x from rfl, ht]
  dsimp only
  rw [if_neg (not_not_intro hp), hmove]

/-- A move that is taken is made, or set pending, and answered OK. -/
theorem exec_modeRequest_moves (h : Begins s [0x48, seq, x] rest) {target : Mode} (ht : targetOf x = some target)
    (hp : s.mc.pendingTarget = none) {m : Move} (hm : moveOf s.mc.mode s.mc.suspendOrigin target = some m)
    (hf : s.mc.mode = .config → s.mc.storeState = .formatted) :
    execModeRequest s = .next ((s.move m target).answer .ok []) :=
  (execModeRequest_move h ht hp hm).trans (congrArg _ (if_neg fun hc => hc.2 (hf hc.1)))

/-- A change that takes no effect is set pending, and nothing else changes. -/
theorem modeRequest_pending (h : Begins s [0x48, seq, x] rest) {target : Mode} {u : State}
    (hexec : execModeRequest s = .next (u.answer .ok []))
    (hu : u = s.setMc { s.mc with pendingTarget := some target }) :
    ∃ t, exec .modeRequest s = .next t ∧ OnlyChanges [.mc, .cp] s t ∧
      t.cp = answeredCp s.cp [0x48, seq, x] rest .ok [] ∧ t.mc = { s.mc with pendingTarget := some target } := by
  subst hu
  exact ⟨_, hexec, onlyChanges_answer (onlyChanges_setMc s _) .ok [],
    answer_cp_of_begins h rfl (by simp) .ok [], by simp⟩

/-- The mode changes at once, MODE_CHANGED becomes set, and the reply follows. -/
theorem modeRequest_changes (h : Begins s [0x48, seq, x] rest) {mc : ModeController} {u : State}
    (hexec : execModeRequest s = .next (u.answer .ok []))
    (hu : u = (s.setMc mc).setFlag .modeChanged) :
    ∃ t, exec .modeRequest s = .next t ∧ OnlyChanges [.mc, .eu, .cp] s t ∧
      (t.cp.inbound = rest ∧
        t.cp.replies = s.cp.replies ++ [{ kind := 0xC8, seq := seq, status := .ok, results := [] }]) ∧
      t.mc = mc ∧ FlagsSet s t [.modeChanged] := by
  subst hu
  have hoc := onlyChanges_trans (onlyChanges_setMc s mc) (onlyChanges_setFlag (s.setMc mc) .modeChanged)
  exact ⟨_, hexec, onlyChanges_mono (onlyChanges_answer hoc .ok []) (by simp),
    inbound_answer h rfl (by simp) (by simp) .ok [], by simp,
    flagsSet_answer (flagsSet_of_eu_eq rfl (flagsSet_setFlag (s.setMc mc) _)) .ok []⟩

end

/-- Settles O33: MODE_REQUEST is refused by its checks in order; a move is made at once where its condition holds, and
is otherwise set pending. -/
theorem modeRequest : Obligations.ModeRequest := by
  intro s seq x rest f m target live atOnce toConfig toSuspended idle back ok h
  refine ⟨fun hm => modeRequest_refused h (execModeRequest_recovering h hm),
    fun hm hx => modeRequest_refused h (execModeRequest_badValue h hm (targetOf_eq_none hx)), fun hm h0 h4 => ?_⟩
  have ht : targetOf x = some target := targetOf_eq h0 h4
  refine ⟨fun hp => modeRequest_refused h (execModeRequest_busy h hm ht hp), fun hp => ?_⟩
  have hlive (hl : live) : s.mc.mode = .config → s.mc.storeState = .formatted :=
    fun he => by rcases hl with hl | hl <;> cases he.symm.trans hl
  have hconfig (hto : target = .config) (hl : live) :=
    exec_modeRequest_moves h (ht.trans (congrArg some hto)) hp (moveOf_toConfig hl) (hlive hl)
  have hsuspend (hto : target = .suspended) (hl : live) :=
    exec_modeRequest_moves h (ht.trans (congrArg some hto)) hp (moveOf_toSuspended hl) (hlive hl)
  have hback (hs : s.mc.mode = .suspended) (ho : s.mc.suspendOrigin = some target) :=
    exec_modeRequest_moves h ht hp (hs ▸ moveOf_back ho) fun hc => by cases hc.symm.trans hs
  refine ⟨fun hno => modeRequest_refused h (execModeRequest_noMove h hm ht hp (moveOf_none hno)),
    fun ⟨hne, hto, hfrom⟩ hc hf => modeRequest_refused h ?_,
    fun ⟨hne, hto, hfrom⟩ hf => modeRequest_changes h (exec_modeRequest_moves h ht hp (moveOf_atOnce hne hto hfrom) hf) rfl,
    fun ⟨hto, hl⟩ he => modeRequest_changes h (hconfig hto hl) ?_,
    fun ⟨hto, hl⟩ he => modeRequest_pending h (hconfig hto hl) (tryConfig_of_not fun hc => he hc.2),
    fun ⟨hto, hl⟩ hi => modeRequest_pending h (hsuspend hto hl) ?_,
    fun ⟨hto, hl⟩ hi => ?_, fun ⟨hs, ho⟩ hr => modeRequest_pending h (hback hs ho) ?_, fun ⟨hs, ho⟩ hr => ?_⟩
  · exact (execModeRequest_move h ht hp (moveOf_atOnce hne hto hfrom)).trans (congrArg _ (if_pos ⟨hc, hf⟩))
  · rw [State.move, State.tryConfig, if_pos ⟨rfl, he⟩]
    simp [← hp]
  · refine settleMode_of_not (fun hc => ?_) fun hc => hi ⟨hc.2.1, hc.2.2.1, hc.2.2.2.1⟩
    rcases hl with hl | hl <;> cases hc.symm.trans hl
  · obtain ⟨hoc, hself, hsu, hmc, hfs⟩ := settleMode_suspends (s := s.setMc { s.mc with pendingTarget := some .suspended })
      ⟨rfl, hi.1, hi.2.1, hi.2.2, h.2.1⟩
    refine ⟨_, hsuspend hto hl, onlyChanges_mono (onlyChanges_answer (onlyChanges_trans (onlyChanges_setMc s _) hoc) .ok [])
      (by simp), inbound_answer h rfl (by simp [State.move]) (by simp [State.move]) .ok [], ?_,
      flagsSet_answer (flagsSet_of_eu_eq rfl hfs) .ok [], ?_, enterSelfRefresh_answer hself .ok []⟩
    · rw [show ∀ u : State, (u.answer .ok []).mc = u.mc by simp, State.move, hmc, State.setMc_mc, ← hp]
    · rw [show ∀ u : State, (u.answer .ok []).su = u.su by simp, State.move, hsu, State.setMc_su]
  · simp [State.move, State.wake, hr]
  · obtain ⟨hoc, hmc, hdram, hfs⟩ := resume_spec (s := s.setMc { s.mc with pendingTarget := some target }) ho
    have hwake : s.move .wake target = (s.setMc { s.mc with pendingTarget := some target }).resume.scrubSettle := by
      simp [State.move, State.wake, hr]
    have hexec := hback hs ho
    rw [hwake] at hexec
    refine ⟨_, _, hexec, onlyChanges_mono (onlyChanges_trans (onlyChanges_setMc s _) hoc) (by simp), hmc, ?_,
      flagsSet_of_eu_eq rfl hfs, answer_onlyChanges _ .ok [], inbound_answer h rfl (by simp) (by simp) .ok []⟩
    rw [hdram, State.setMc_dram, ← hr]

end Sys2Proof.Machine

namespace Sys2Proof.Machine

open Sys2Proof.Safety

/-! # The pool size changes (R20, R151, R187) -/

/-- An aperture that reaches the new `T` is disabled (R151). -/
theorem trimAperture_eq (p : PortRec) (n : Nat) :
    p.trimAperture n = { p with apertureOn := p.apertureOn && decide (p.apertureLast < n) } := by
  unfold PortRec.trimAperture
  split
  · next h => rw [decide_eq_false (Nat.not_lt.2 h.2), Bool.and_false]
  · next h =>
    cases ho : p.apertureOn
    · rw [Bool.false_and, ← ho]
    · rw [decide_eq_true (Nat.lt_of_not_le fun hle => h ⟨ho, hle⟩), Bool.and_true, ← ho]

theorem onlyChanges_setQuota0 (s : State) : OnlyChanges [.domains, .dram] s s.setQuota0 :=
  ⟨by simp, fun b hb => by cases b <;> simp_all [Block.same]⟩

theorem domainBecomes_setQuota0 (s : State) : DomainBecomes s s.setQuota0 0 { s.domain 0 with quota := s.tenants } := by
  unfold State.setQuota0
  split
  · next h => exact ⟨by rw [← h], fun e _ => rfl⟩
  · exact domainBecomes_writeDomain s 0 _

/-- Domain 0's record is written where its quota changes, at its place in the pool as it now stands (R22). -/
theorem setQuota0_writes (s : State) :
    (∀ c, s.mc.poolCode = some c →
      if (s.domain 0).quota = s.tenants then s.setQuota0.dram = s.dram
      else Issues s s.setQuota0 [domainWrite s.setQuota0 c 0]) ∧
    (s.mc.poolCode = none → s.setQuota0.dram = s.dram) := by
  by_cases h : (s.domain 0).quota = s.tenants
  · rw [State.setQuota0, if_pos h]
    exact ⟨fun c _ => by rw [if_pos h], fun _ => rfl⟩
  · rw [State.setQuota0, if_neg h]
    exact ⟨fun c hc => by rw [if_neg h]; exact issues_writeDomain s 0 _ hc,
      fun hn => by simp [State.writeDomain, State.persistDomain, State.persistDomainLine, hn]⟩

/-- The state after a change of the pool size, before the apertures are looked at. -/
def State.pooled (s : State) (code : Option PoolCode) : State := (s.setMc { s.mc with poolCode := code }).setQuota0

theorem setPool_eq (s : State) (code : Option PoolCode) :
    s.setPool code = ((s.pooled code).updatePort .a fun p => p.trimAperture (tenantGranules code)).updatePort .b
      fun p => p.trimAperture (tenantGranules code) := rfl

theorem onlyChanges_pooled (s : State) (code : Option PoolCode) :
    OnlyChanges [.mc, .domains, .dram] s (s.pooled code) :=
  onlyChanges_mono (onlyChanges_trans (onlyChanges_setMc s _) (onlyChanges_setQuota0 _)) (by simp)

theorem onlyChanges_setPool (s : State) (code : Option PoolCode) :
    OnlyChanges [.portA, .portB] (s.pooled code) (s.setPool code) :=
  onlyChanges_mono (onlyChanges_trans (onlyChanges_updatePort _ .a _) (onlyChanges_updatePort _ .b _)) (by simp [portBlock])

/-- What a change of the pool size leaves in each block (R20, R151, R187). -/
theorem setPool_spec {s u t : State} {code : Option PoolCode} (hu : u = s.setPool code) (ht : OnlyChanges [.mc, .cp] u t) :
    OnlyChanges [.mc, .domains, .dram, .portA, .portB, .cp] s t ∧
      DomainBecomes s t 0 { s.domain 0 with quota := tenantGranules code } ∧
      (∀ c, code = some c →
        if (s.domain 0).quota = tenantGranules code then t.dram = s.dram else Issues s t [domainWrite t c 0]) ∧
      (code = none → t.dram = s.dram) ∧
      t.portA = { s.portA with apertureOn := s.portA.apertureOn && decide (s.portA.apertureLast < tenantGranules code) } ∧
      t.portB = { s.portB with apertureOn := s.portB.apertureOn && decide (s.portB.apertureLast < tenantGranules code) } := by
  subst hu
  have hports := onlyChanges_trans (onlyChanges_setPool s code) ht
  have hdom : t.domains = (s.pooled code).domains := hports.2 .domains (by simp)
  have hdram : t.dram = (s.pooled code).dram := hports.2 .dram (by simp)
  obtain ⟨hissue, hnone⟩ := setQuota0_writes (s.setMc { s.mc with poolCode := code })
  refine ⟨onlyChanges_mono (onlyChanges_trans (onlyChanges_pooled s code) hports) (by simp),
    domainBecomes_to hdom (domainBecomes_setQuota0 (s.setMc { s.mc with poolCode := code })), fun c hc => ?_,
    fun hc => hdram.trans (hnone hc), ?_, ?_⟩
  · have hi := hissue c hc
    by_cases hq : (s.domain 0).quota = tenantGranules code
    · rw [if_pos hq]
      exact hdram.trans ((if_pos hq).mp hi)
    · rw [if_neg hq, domainWrite_of_domains hdom]
      exact issues_of_dram hdram ((if_neg hq).mp hi)
  · rw [show t.portA = (s.setPool code).portA from ht.2 .portA (by simp), ← trimAperture_eq]
    simp [setPool_eq, State.pooled, State.updatePort, State.port, State.setPort]
  · rw [show t.portB = (s.setPool code).portB from ht.2 .portB (by simp), ← trimAperture_eq]
    simp [setPool_eq, State.pooled, State.updatePort, State.port, State.setPort]

/-! # SETTINGS -/

section
variable {s : State} {seq keep size interval decay timeout : Byte} {rest : List (List Byte)}

theorem execSettings_answers (h : Begins s [0x49, seq, keep, size, interval, decay, timeout] rest) :
    execSettings s = .next (
      if s.mc.mode = .recovering then s.answer .wrongMode []
      else if keep.getLsbD 0 then s.settingsTaken [0x49, seq, keep, size, interval, decay, timeout]
      else if s.mc.mode ≠ .config ∨ s.mc.storeState ≠ .unformatted then s.answer .wrongMode []
      else if size ≠ 0x0F ∧ 4 < size.toNat then s.answer .badValue []
      else (s.setPool (if h : size.toNat < 5 then some ⟨size.toNat, h⟩ else none)).settingsTaken
        [0x49, seq, keep, size, interval, decay, timeout]) := by
  refine (onMessage_of_begins (kind := 0x49) h rfl rfl _).trans (congrArg _ ?_)
  refine if_congr Iff.rfl rfl (if_congr Iff.rfl rfl (if_congr Iff.rfl rfl ?_))
  rw [show param8 [0x49, seq, keep, size, interval, decay, timeout] 1 = size from rfl, poolCodeOf]
  by_cases hf : size = 0x0F
  · subst hf
    rfl
  by_cases h5 : size.toNat < 5
  · rw [if_neg hf, dif_pos h5, dif_pos h5, if_neg fun hc => by omega]
  · rw [if_neg hf, dif_neg h5, if_pos ⟨hf, by omega⟩]

/-- A SETTINGS that is taken loads the settings without their keep bit, and answers with the settings as they stand. -/
theorem settingsTaken_spec (u : State) (hin : u.cp = s.cp)
    (h : Begins s [0x49, seq, keep, size, interval, decay, timeout] rest) :
    let t := u.settingsTaken [0x49, seq, keep, size, interval, decay, timeout]
    OnlyChanges [.mc, .cp] u t ∧
      t.mc = { u.mc with
        scrubInterval := if keep.getLsbD 1 then u.mc.scrubInterval else interval
        decayCode := if keep.getLsbD 2 then u.mc.decayCode else decay
        drainTimeout := if keep.getLsbD 3 then u.mc.drainTimeout else if timeout = 0 then 1 else timeout } ∧
      t.cp = answeredCp s.cp [0x49, seq, keep, size, interval, decay, timeout] rest .ok
        [poolCodeByte t.mc.poolCode, t.mc.scrubInterval, t.mc.decayCode, t.mc.drainTimeout] := by
  intro t
  refine ⟨onlyChanges_answer (onlyChanges_setMc u _) .ok _, by simp [t, State.settingsTaken]; rfl, ?_⟩
  have hcp := answer_cp_of_begins (u := u.setMc (u.mc.loadSettings [0x49, seq, keep, size, interval, decay, timeout])) h rfl
    (by simpa using hin) .ok (u.mc.loadSettings [0x49, seq, keep, size, interval, decay, timeout]).settingBytes
  refine hcp.trans ?_
  simp [t, State.settingsTaken, ModeController.settingBytes]

end

/-- Settles O35: SETTINGS goes through its checks to a refusal, to the settings alone, or to a change of the pool size. -/
theorem settings : Obligations.Settings := by
  intro s seq keep size interval decay timeout rest f loaded reply h
  refine ⟨_, execSettings_answers h, ?_⟩
  have hreply (m : ModeController) : reply m = [poolCodeByte m.poolCode, m.scrubInterval, m.decayCode, m.drainTimeout] := by
    cases hp : m.poolCode <;> simp [reply, hp, poolCodeByte]
  by_cases hm : s.mc.mode = .recovering
  · rw [if_pos hm, if_pos hm]
    exact refused_of_answer h rfl _
  rw [if_neg hm, if_neg hm]
  by_cases hk : keep.getLsbD 0 = true
  · rw [if_pos hk, if_pos hk, hreply]
    exact settingsTaken_spec s rfl h
  rw [if_neg hk, if_neg hk]
  by_cases hc : s.mc.mode ≠ .config ∨ s.mc.storeState ≠ .unformatted
  · rw [if_pos hc, if_pos hc]
    exact refused_of_answer h rfl _
  rw [if_neg hc, if_neg hc]
  by_cases hv : size ≠ 0x0F ∧ 4 < size.toNat
  · rw [if_pos hv, if_pos hv]
    exact refused_of_answer h rfl _
  rw [if_neg hv, if_neg hv]
  intro code trimmed
  rw [show (if h : size.toNat < 5 then some (⟨size.toNat, h⟩ : PoolCode) else none) = code from rfl]
  clear_value code
  obtain ⟨hoc, hmc, hcp⟩ := settingsTaken_spec (s.setPool code) (by simp) h
  obtain ⟨hall, hdomain, hwrite, hnone, hA, hB⟩ := setPool_spec rfl hoc
  have hpool : (s.setPool code).mc = { s.mc with poolCode := code } := by
    rw [show _ = (s.pooled code).mc from (onlyChanges_setPool s code).2 .mc (by simp)]
    simp [State.pooled]
  refine ⟨hall, ?_, by rw [hreply]; exact hcp, hdomain, ?_, hA, hB⟩
  · rw [hmc, hpool]
  · cases code with
    | none => exact hnone rfl
    | some c => exact hwrite c rfl

end Sys2Proof.Machine

namespace Sys2Proof.Machine

open Sys2Proof.Safety

/-! # The words of SURVEY (R75, R76) -/

theorem getLsbD_foldl_bits (bit : Nat → Bool) (l : List Nat) (w : BitVec 16) {x : Nat} (hx : x < 16) :
    (l.foldl (fun w j => if bit j then w ||| (1#16 <<< j) else w) w).getLsbD x =
      (w.getLsbD x || l.any fun j => j == x && bit j) := by
  induction l generalizing w with
  | nil => simp
  | cons j l ih =>
    rw [List.foldl_cons, ih, List.any_cons]
    cases hb : bit j
    · simp
    · by_cases hj : j = x
      · subst hj
        simp [hx]
      · have hone : (1#16 <<< j).getLsbD x = false := by
          rw [BitVec.getLsbD_shiftLeft]
          by_cases hlt : x < j
          · simp [hlt]
          · have : x - j ≠ 0 := by omega
            simp [BitVec.getLsbD_one, this]
        simp [hone, beq_eq_false_iff_ne.2 hj]

theorem getLsbD_wordOf (bit : Nat → Bool) {x : Nat} (hx : x < 16) : (wordOf bit).getLsbD x = bit x := by
  rw [wordOf, getLsbD_foldl_bits bit _ _ hx, Bool.eq_iff_iff]
  simp [List.any_eq_true, hx]

theorem getD_transpose (rows : List (BitVec 16)) {g x : Nat} (hg : g < 16) (hx : x < 16) :
    ((transpose rows).getD g 0).getLsbD x = (rows.getD x 0).getLsbD g := by
  have hrow : (transpose rows).getD g 0 = wordOf fun i => (rows.getD i 0).getLsbD g := by
    simp [transpose, hg]
  rw [hrow, getLsbD_wordOf _ hx]

/-- A bit of SURVEY: whether the tag alone would let the domain make the access (R75). -/
theorem surveyBit_eq (s : State) (t : Tag) (d : DomainId) (op : Opcode) :
    s.surveyBit t d op = match s.applicableRights d t with
      | none => false
      | some .rw => true
      | some .ro => decide (op = .read) := by
  unfold State.surveyBit
  cases s.applicableRights d t with
  | none => rfl
  | some r => cases r <;> cases op <;> rfl

theorem surveyLine_length (s : State) (line : TagLine) (base : Nat) (op : Opcode) :
    (s.surveyLine line base op).length = 4 := rfl

theorem getD_surveyLine (s : State) (line : TagLine) (base : Nat) (op : Opcode) {i x : Nat} (hi : i < 4) (hx : x < 16) :
    ((s.surveyLine line base op).getD i 0).getLsbD x =
      s.surveyBit (line.get i).tag (BitVec.ofNat 10 (base + x)) op := by
  have hrow : (s.surveyLine line base op).getD i 0 = s.surveyRow (line.get i).tag base op := by
    match i, hi with
    | 0, _ | 1, _ | 2, _ | 3, _ => rfl
  rw [hrow, State.surveyRow, getLsbD_wordOf _ hx]

/-! # Lines that are looked up and found, one after another -/

/-- Between two states the cached lines `a` to `b - 1` have been looked up, and nothing else has been done. -/
structure Looked (s v : State) (a b : Nat) : Prop where
  changes : OnlyChanges [.tc] s v
  fills : v.tc.fills = s.tc.fills
  stalled : v.tc.stalled = s.tc.stalled
  writes : v.tc.writes = s.tc.writes
  held : v.tc.held = s.tc.held
  valid : ∀ n, v.tc.validLine n = s.tc.validLine n
  set : ∀ n, (∀ i, a ≤ i → i < b → Machine.setOf n ≠ Machine.setOf i) → v.tc.set n = s.tc.set n

theorem looked_refl (s : State) (a : Nat) : Looked s s a a :=
  ⟨onlyChanges_mono (onlyChanges_refl s) (by simp), rfl, rfl, rfl, rfl, fun _ => rfl, fun _ _ => rfl⟩

theorem Looked.step {s v : State} {a b : Nat} (h : Looked s v a b) (hab : a ≤ b) {line : TagLine} (hc : Cached v b line) :
    Looked s (v.recent b line) a (b + 1) := by
  have hr := onlyRecency_recent hc
  have hvalid := validLine_of_onlyRecency hr hc.1
  obtain ⟨hf, hs, hw, hh, hset, -⟩ := hr
  exact ⟨onlyChanges_mono (onlyChanges_trans h.changes (onlyChanges_recent v b line)) (by simp), hf.trans h.fills,
    hs.trans h.stalled, hw.trans h.writes, hh.trans h.held, fun n => (hvalid n).trans (h.valid n),
    fun n hn => (hset n (hn b hab (by omega))).trans (h.set n fun i ha hb => hn i ha (by omega))⟩

/-- Lines close to one another lie in sets of their own (R7). -/
theorem setOf_ne {a b i : Nat} (ha : a ≤ i) (hb : i < b) (h : b ≤ a + 4) : Machine.setOf b ≠ Machine.setOf i := by
  simp only [Machine.setOf, show Config.cacheSets = 128 from rfl]
  omega

theorem Looked.cached {s v : State} {a b : Nat} (h : Looked s v a b) (hab : b ≤ a + 4) {line : TagLine} (hc : Cached s b line) :
    Cached v b line := by
  rw [Cached, h.set b fun i ha hb => setOf_ne ha hb hab]
  exact hc

/-! # The query that is being executed -/

theorem queryTry_of_idle {s : State} (h : s.cp.executing = none) (n : Nat) : State.queryTry n s = s := by
  cases n with
  | zero => rfl
  | succ n => rw [State.queryTry, h]

theorem queryTry_of_not_cached {s : State} {q : Query} (h : s.cp.executing = some q)
    (hn : ∀ x ∈ s.tc.set q.nextLine, x.2.isValid q.nextLine = false) (n : Nat) :
    State.queryTry (n + 1) s = s.setTc (s.tc.lookup .message q.nextLine).1 := by
  rw [State.queryTry, h]
  exact lookup_of_not_valid hn _ _ _

theorem queryTry_of_cached {s : State} {q : Query} (h : s.cp.executing = some q) {line : TagLine}
    (hc : Cached s q.nextLine line) (n : Nat) :
    State.queryTry (n + 1) s = State.queryTry n ((s.recent q.nextLine line).queryAct q line) := by
  rw [State.queryTry, h]
  exact lookup_of_cached hc _ _ _

theorem answer_executing {s : State} {f : List Byte} {rest : List (List Byte)} (hin : s.cp.inbound = f :: rest)
    (hk : (messageLength (kindOf f)).isSome = true) (st : Status) (results : List Byte) :
    (s.answer st results).cp.executing = none := by
  rw [answer_eq s hin hk]
  rfl

/-- TAG_READ on a cached line (R16). -/
theorem queryTry_tagRead {s : State} {g : Nat} {line : TagLine} {f : List Byte} {rest : List (List Byte)}
    (he : s.cp.executing = some (.tagRead g)) (hin : s.cp.inbound = f :: rest)
    (hk : (messageLength (kindOf f)).isSome = true) (hc : Cached s (g / 4) line) (n : Nat) :
    let u := State.queryTry (n + 1) s
    OnlyChanges [.tc, .cp] s u ∧ OnlyRecency s u (g / 4) ∧
      u.cp = answeredCp s.cp f rest .ok ((line.get (g % 4)).carried g) := by
  intro u
  have hu : u = (s.recent (g / 4) line).answer .ok ((line.get (g % 4)).carried g) := by
    refine (queryTry_of_cached he hc n).trans (queryTry_of_idle ?_ n)
    exact answer_executing (f := f) (rest := rest) (by simpa using hin) hk _ _
  rw [hu]
  refine ⟨onlyChanges_answer (onlyChanges_recent s _ _) .ok _, ?_, ?_⟩
  · exact onlyRecency_of_tc rfl (by simp) (onlyRecency_recent hc)
  · rw [answer_eq _ (by simpa using hin) hk]
    simp

/-! # SURVEY goes through its lines -/

/-- The state while SURVEY has read some of its rows. -/
def State.surveying (s : State) (j base : Nat) (op : Opcode) (byDomain : Bool) (rows : List (BitVec 16)) : State :=
  s.setCp { s.cp with executing := some (.survey (4 * j) base op byDomain rows) }

theorem surveying_of_executing {s : State} {j base : Nat} {op : Opcode} {byDomain : Bool} {rows : List (BitVec 16)}
    (h : s.cp.executing = some (.survey (4 * j) base op byDomain rows)) :
    s.surveying j base op byDomain rows = s := by
  rw [State.surveying, ← h]
  rfl

theorem recent_setCp (s : State) (cp : ControlPort) (j : Nat) (line : TagLine) :
    (s.setCp cp).recent j line = (s.recent j line).setCp cp := by
  simp only [State.recent, State.setCp_tc]
  split <;> rfl

section
variable {s v : State} {j k m base : Nat} {op : Opcode} {byDomain : Bool} {rows : List (BitVec 16)} {lines : Nat → TagLine}

theorem survey_nextLine (hl : rows.length = 4 * k) :
    Query.nextLine (.survey (4 * j) base op byDomain rows) = j + k := by
  rw [Query.nextLine, lineOf, hl]
  omega

/-- The answer that SURVEY reads for granule `g` and domain `x` of its square, the first `4 * k` rows read before. -/
def surveyRead (s : State) (k base : Nat) (op : Opcode) (rows : List (BitVec 16)) (lines : Nat → TagLine) (g x : Nat) : Bool :=
  if g < 4 * k then (rows.getD g 0).getLsbD x
  else s.surveyBit ((lines (g / 4)).get (g % 4)).tag (BitVec.ofNat 10 (base + x)) op

theorem surveyLine_of_shares (h : v.shares = s.shares) (line : TagLine) (base : Nat) (op : Opcode) :
    v.surveyLine line base op = s.surveyLine line base op := by
  have hrights (d : DomainId) (t : Tag) : v.applicableRights d t = s.applicableRights d t := by
    unfold State.applicableRights
    simp only [share_of_shares h]
  simp only [State.surveyLine, State.surveyRow, State.surveyBit, hrights]

/-- A cached line that is not the last one adds its four rows. -/
theorem queryTry_surveying (hl : rows.length = 4 * k) (hk : k < 3) {line : TagLine} (hc : Cached v (j + k) line) (n : Nat) :
    State.queryTry (n + 1) (v.surveying j base op byDomain rows) =
      State.queryTry n ((v.recent (j + k) line).surveying j base op byDomain (rows ++ v.surveyLine line base op)) := by
  have hnext := survey_nextLine (j := j) (base := base) (op := op) (byDomain := byDomain) hl
  rw [queryTry_of_cached (q := .survey (4 * j) base op byDomain rows) rfl (by rw [hnext]; exact hc), hnext,
    State.surveying, recent_setCp, State.queryAct, if_neg]
  · rw [surveyLine_of_shares (s := v) (by simp)]
    simp [State.surveying]
  · rw [List.length_append, surveyLine_length, hl]
    omega

/-- The last line is cached: the reply is formed (R76). -/
theorem queryTry_surveyed (hl : rows.length = 4 * 3) {line : TagLine} (hc : Cached v (j + 3) line)
    {f : List Byte} {rest : List (List Byte)} (hin : v.cp.inbound = f :: rest)
    (hk : (messageLength (kindOf f)).isSome = true) (n : Nat) :
    State.queryTry (n + 1) (v.surveying j base op byDomain rows) =
      ((v.recent (j + 3) line).surveying j base op byDomain rows).answer .ok
        (surveyBytes byDomain (rows ++ v.surveyLine line base op)) := by
  have hnext := survey_nextLine (j := j) (base := base) (op := op) (byDomain := byDomain) hl
  rw [queryTry_of_cached (q := .survey (4 * j) base op byDomain rows) rfl (by rw [hnext]; exact hc), hnext,
    State.surveying, recent_setCp, State.queryAct, if_pos, surveyLine_of_shares (s := v) (by simp)]
  · have hu : (v.recent (j + 3) line).setCp { v.cp with executing := some (.survey (4 * j) base op byDomain rows) } =
        (v.recent (j + 3) line).surveying j base op byDomain rows := by simp [State.surveying]
    rw [hu]
    exact queryTry_of_idle (answer_executing (f := f) (rest := rest) (by simpa [State.surveying] using hin) hk _ _) n
  · rw [List.length_append, surveyLine_length, hl]

theorem surveyRead_append {rows' : List (BitVec 16)} (hkm : k ≤ m) (hl : rows'.length = 4 * m)
    (hr : ∀ g < 4 * m, ∀ x < 16, (rows'.getD g 0).getLsbD x = surveyRead s k base op rows lines g x) :
    ∀ g < 4 * (m + 1), ∀ x < 16,
      ((rows' ++ s.surveyLine (lines m) base op).getD g 0).getLsbD x = surveyRead s k base op rows lines g x := by
  intro g hg x hx
  by_cases hlt : g < 4 * m
  · rw [List.getD_append _ _ _ _ (by omega)]
    exact hr g hlt x hx
  · rw [List.getD_append_right _ _ _ _ (by omega), getD_surveyLine _ _ _ _ (by omega) hx, surveyRead, if_neg (by omega),
      show g / 4 = m by omega, show g - rows'.length = g % 4 by omega]

/-- The lines up to one of the first four that are cached are read, in the same step (R76). -/
theorem survey_reads (hl : rows.length = 4 * k) (hkm : k ≤ m) (hm : m ≤ 3)
    (hc : ∀ i, k ≤ i → i < m → Cached s (j + i) (lines i)) (n : Nat) :
    ∃ (v : State) (rows' : List (BitVec 16)), Looked s v (j + k) (j + m) ∧ rows'.length = 4 * m ∧
      (∀ g < 4 * m, ∀ x < 16, (rows'.getD g 0).getLsbD x = surveyRead s k base op rows lines g x) ∧
      State.queryTry (n + (m - k)) (s.surveying j base op byDomain rows) =
        State.queryTry n (v.surveying j base op byDomain rows') := by
  induction m, hkm using Nat.le_induction generalizing n with
  | base =>
    refine ⟨s, rows, looked_refl s _, hl, fun g hg x hx => by rw [surveyRead, if_pos hg], by rw [Nat.sub_self]; rfl⟩
  | succ m hkm ih =>
    obtain ⟨v, rows', hv, hl', hread, htry⟩ := ih (by omega) (fun i hi hm => hc i hi (by omega)) (n + 1)
    have hcv := hv.cached (by omega) (hc m hkm (by omega))
    refine ⟨v.recent (j + m) (lines m), rows' ++ s.surveyLine (lines m) base op, hv.step (by omega) hcv, ?_,
      surveyRead_append hkm hl' hread, ?_⟩
    · rw [List.length_append, surveyLine_length, hl']
      omega
    · rw [show n + (m + 1 - k) = n + 1 + (m - k) by omega, htry, queryTry_surveying hl' (by omega) hcv,
        surveyLine_of_shares (hv.changes.2 .shares (by simp))]

/-- What is left when SURVEY has read its four lines: its reply, and the recency of the lines it has read. -/
theorem survey_ends (hl : rows.length = 4 * k) (hk : k < 4) (hc : ∀ i, k ≤ i → i < 4 → Cached s (j + i) (lines i))
    {f : List Byte} {rest : List (List Byte)} (hin : s.cp.inbound = f :: rest)
    (hkind : (messageLength (kindOf f)).isSome = true) :
    let u := State.queryTry 4 (s.surveying j base op byDomain rows)
    ∃ (v : State) (words : List (BitVec 16)), Looked s v (j + k) (j + 4) ∧ OnlyChanges [.cp] v u ∧
      u.cp = answeredCp s.cp f rest .ok (words.flatMap fun w : BitVec 16 => beBytes 2 w.toNat) ∧ words.length = 16 ∧
      ∀ g < 16, ∀ x < 16, (words.getD g 0).getLsbD x =
        if byDomain then surveyRead s k base op rows lines x g else surveyRead s k base op rows lines g x := by
  intro u
  obtain ⟨v, rows', hv, hl', hread, htry⟩ := survey_reads (s := s) (j := j) (base := base) (op := op) (byDomain := byDomain)
    (m := 3) (lines := lines) hl (by omega) le_rfl (fun i hi hm => hc i hi (by omega)) (k + 1)
  have hcv := hv.cached (by omega) (hc 3 (by omega) (by omega))
  have hvin : v.cp.inbound = f :: rest := by
    rw [show v.cp = s.cp from hv.changes.2 .cp (by simp)]
    exact hin
  have hu : u = ((v.recent (j + 3) (lines 3)).surveying j base op byDomain rows').answer .ok
      (surveyBytes byDomain (rows' ++ s.surveyLine (lines 3) base op)) := by
    rw [show u = _ from (congrArg (State.queryTry · _) (by omega : 4 = k + 1 + (3 - k))).trans htry,
      queryTry_surveyed hl' hcv hvin hkind, surveyLine_of_shares (hv.changes.2 .shares (by simp))]
  have hrows := surveyRead_append (lines := lines) (by omega : k ≤ 3) hl' hread
  refine ⟨v.recent (j + 3) (lines 3), if byDomain then transpose (rows' ++ s.surveyLine (lines 3) base op)
    else rows' ++ s.surveyLine (lines 3) base op, hv.step (by omega) hcv, ?_, ?_, ?_, fun g hg x hx => ?_⟩
  · rw [hu]
    exact onlyChanges_mono (onlyChanges_answer (onlyChanges_setCp _ _) .ok _) (by simp)
  · rw [hu, answer_eq _ (by simpa [State.surveying] using hvin) hkind]
    simp only [State.surveying, State.setCp_cp, State.recent_frame, surveyBytes, show v.cp = s.cp from hv.changes.2 .cp (by simp)]
    rfl
  · cases byDomain
    · simp [surveyLine_length, hl']
    · simp [transpose]
  · cases byDomain
    · exact hrows g hg x hx
    · exact (getD_transpose _ hg hx).trans (hrows x hx g hg)

/-- What is left when SURVEY has read some of its lines and waits for the next, which is not cached. -/
theorem survey_waits (hl : rows.length = 4 * k) (hkm : k ≤ m) (hm : m < 4)
    (hc : ∀ i, k ≤ i → i < m → Cached s (j + i) (lines i))
    (hn : ∀ x ∈ s.tc.set (j + m), x.2.isValid (j + m) = false) :
    ∃ (v : State) (rows' : List (BitVec 16)), Looked s v (j + k) (j + m) ∧ rows'.length = 4 * m ∧
      (∀ g < 4 * m, ∀ x < 16, (rows'.getD g 0).getLsbD x = surveyRead s k base op rows lines g x) ∧
      State.queryTry 4 (s.surveying j base op byDomain rows) =
        (v.setTc (v.tc.lookup .message (j + m)).1).surveying j base op byDomain rows' := by
  obtain ⟨v, rows', hv, hl', hread, htry⟩ := survey_reads (s := s) (j := j) (base := base) (op := op) (byDomain := byDomain)
    (lines := lines) hl hkm (by omega) hc (3 - m + k + 1)
  refine ⟨v, rows', hv, hl', hread, ?_⟩
  have hset : v.tc.set (j + m) = s.tc.set (j + m) := hv.set _ fun i ha hb => setOf_ne ha hb (by omega)
  have hnext := survey_nextLine (j := j) (base := base) (op := op) (byDomain := byDomain) hl'
  rw [show State.queryTry 4 = State.queryTry (3 - m + k + 1 + (m - k)) from congrArg _ (by omega), htry,
    queryTry_of_not_cached (q := .survey (4 * j) base op byDomain rows') rfl (by rw [hnext]; exact hset ▸ hn), hnext]
  rfl

end

end Sys2Proof.Machine

namespace Sys2Proof.Machine

open Sys2Proof.Safety

/-! # TAG_READ and SURVEY are taken -/

theorem tableRefusal_of_open {s : State} (h : TablesOpen s) (own : Option Status) : tableRefusal s own = own := by
  obtain ⟨hr, hs, hf⟩ := h
  rw [tableRefusal, if_neg (not_or.2 ⟨hr, hs⟩), if_neg (not_not_intro hf)]

theorem execTagRead_answers {s : State} {seq : Byte} {g : BitVec 32} {rest : List (List Byte)}
    (h : Begins s ([0x30, seq] ++ beBytes 4 g.toNat) rest) :
    execTagRead s = .next (s.refuseOr
      (tableRefusal s (if granules s.mc.poolCode ≤ g.toNat then some .badRange else none))
      (if s.tenants ≤ g.toNat then s.answer .ok (carriedPrivate g.toNat) else s.beginQuery (.tagRead g.toNat))) := by
  refine (onMessage_of_begins (kind := 0x30) h rfl rfl _).trans (congrArg _ ?_)
  have hg : param32 ([0x30, seq] ++ beBytes 4 g.toNat) 0 = g.toNat :=
    param32_eq (pre := [0x30, seq]) (post := []) g (by simp) rfl
  rw [State.refuseOr_tableRefusal, hg, State.refuseOr_ite]
  rfl

theorem executing_beginQuery {s : State} {f : List Byte} {rest : List (List Byte)} (h : Begins s f rest) (q : Query) :
    (s.setCp { s.cp with executing := some q }).cp.inbound = f :: rest := by
  obtain ⟨-, -, -, -, hin⟩ := h
  rw [State.setCp_cp, hin]

/-- The access and the orientation of a SURVEY (R74). -/
theorem opcodeOf_eq {b : Byte} (h : b.toNat ≤ 1) : opcodeOf b = some (if b = 0 then .read else .write) := by
  revert b
  decide

theorem eq_zero_or_one_of_le {b : Byte} (h : b.toNat ≤ 1) : b = 0 ∨ b = 1 := by
  revert b
  decide

theorem opcodeOf_eq_none {b : Byte} (h : 1 < b.toNat) : opcodeOf b = none := by
  revert b
  decide

theorem surveyGranule_iff (s : State) (g : Nat) : s.surveyGranule g = true ↔ g % 16 = 0 ∧ g + 16 ≤ s.tenants := by
  simp [State.surveyGranule]

theorem surveyDomain_iff (d : Nat) : surveyDomain d = true ↔ d % 16 = 0 ∧ d ≤ 1008 := by
  simp [surveyDomain]

theorem execSurvey_answers {s : State} {seq access orient : Byte} {first : BitVec 32} {base : BitVec 16}
    {rest : List (List Byte)}
    (h : Begins s ([0x31, seq] ++ beBytes 4 first.toNat ++ beBytes 2 base.toNat ++ [access, orient]) rest) :
    execSurvey s = .next (s.refuseOr
      (tableRefusal s (if 1 < access.toNat ∨ 1 < orient.toNat then some .badValue
        else if first.toNat % 16 ≠ 0 ∨ s.tenants < first.toNat + 16 ∨ base.toNat % 16 ≠ 0 ∨ 1008 < base.toNat then
          some .badRange
        else none))
      (s.beginQuery (.survey first.toNat base.toNat (if access = 0 then .read else .write) (decide (orient = 1)) []))) := by
  refine (onMessage_of_begins (kind := 0x31) h rfl rfl _).trans (congrArg _ ?_)
  have hfirst : param32 ([0x31, seq] ++ beBytes 4 first.toNat ++ beBytes 2 base.toNat ++ [access, orient]) 0 = first.toNat :=
    param32_eq (pre := [0x31, seq]) (post := beBytes 2 base.toNat ++ [access, orient]) first (by simp) rfl
  have hbase : param16 ([0x31, seq] ++ beBytes 4 first.toNat ++ beBytes 2 base.toNat ++ [access, orient]) 4 = base.toNat :=
    param16_eq (pre := [0x31, seq] ++ beBytes 4 first.toNat) (post := [access, orient]) base (by simp) rfl
  have haccess : param8 ([0x31, seq] ++ beBytes 4 first.toNat ++ beBytes 2 base.toNat ++ [access, orient]) 6 = access := rfl
  have horient : param8 ([0x31, seq] ++ beBytes 4 first.toNat ++ beBytes 2 base.toNat ++ [access, orient]) 7 = orient := rfl
  rw [State.refuseOr_tableRefusal, hfirst, hbase, haccess, horient]
  cases hcheck : s.tableCheck with
  | some st => rfl
  | none =>
    rw [State.refuseOr_none, State.refuseOr_ite, State.refuseOr_ite]
    dsimp only
    by_cases ha : 1 < access.toNat
    · rw [opcodeOf_eq_none ha, if_pos (.inl ha)]
      rfl
    by_cases ho : 1 < orient.toNat
    · rw [opcodeOf_eq (by omega), yesNoOf_eq, if_pos ho,
        if_pos (show 1 < access.toNat ∨ 1 < orient.toNat from .inr ho)]
      rfl
    rw [opcodeOf_eq (by omega), yesNoOf_eq, if_neg ho, if_neg (not_or.2 ⟨ha, ho⟩)]
    dsimp only
    by_cases hg : s.surveyGranule first.toNat = true
    · obtain ⟨hg16, hgt⟩ := (surveyGranule_iff s _).1 hg
      rw [hg, Bool.not_true, if_neg Bool.false_ne_true]
      by_cases hd : surveyDomain base.toNat = true
      · obtain ⟨hd16, hdt⟩ := (surveyDomain_iff _).1 hd
        have hok : ¬ (first.toNat % 16 ≠ 0 ∨ s.tenants < first.toNat + 16 ∨ base.toNat % 16 ≠ 0 ∨ 1008 < base.toNat) := by omega
        rw [hd, Bool.not_true, if_neg Bool.false_ne_true, if_neg hok, State.refuseOr_none]
      · have hbad := mt (surveyDomain_iff _).2 hd
        have hno : first.toNat % 16 ≠ 0 ∨ s.tenants < first.toNat + 16 ∨ base.toNat % 16 ≠ 0 ∨ 1008 < base.toNat := by omega
        rw [Bool.eq_false_iff.2 hd, Bool.not_false, if_pos rfl, if_pos hno, State.refuseOr_some]
    · have hbad := mt (surveyGranule_iff s _).2 hg
      have hno : first.toNat % 16 ≠ 0 ∨ s.tenants < first.toNat + 16 ∨ base.toNat % 16 ≠ 0 ∨ 1008 < base.toNat := by omega
      rw [Bool.eq_false_iff.2 hg, Bool.not_false, if_pos rfl, if_pos hno, State.refuseOr_some]

/-- Settles O36: TAG_READ and SURVEY go through their checks, and are answered from the lines where those are cached. -/
theorem tagQueries : Obligations.TagQueries := by
  constructor
  · intro s seq g rest f h
    have hexec : exec .tagRead s = _ := execTagRead_answers h
    have htaken (hopen : TablesOpen s) (ht : g.toNat < s.tenants) :
        exec .tagRead s = .next (s.beginQuery (.tagRead g.toNat)) := by
      have hpool : s.tenants ≤ granules s.mc.poolCode := Nat.sub_le _ _
      rw [hexec, tableRefusal_of_open hopen, if_neg (by omega), State.refuseOr_none, if_neg (by omega)]
    refine ⟨fun st hst => ⟨_, hexec, refused_of_refuseOr h rfl hst⟩, fun hopen hpriv hbig => ⟨_, hexec, ?_⟩, htaken,
      ?_⟩
    · rw [tableRefusal_of_open hopen, if_neg (by omega), State.refuseOr_none, if_pos hpriv]
      exact answered_of_answer h rfl _ _
    · intro line hopen ht hc r
      refine ⟨_, htaken hopen ht, ?_⟩
      obtain ⟨honly, hrec, hcp⟩ := queryTry_tagRead (s := s.setCp { s.cp with executing := some (.tagRead g.toNat) }) rfl
        (executing_beginQuery h _) rfl (cached_of_tc rfl hc) 3
      refine ⟨onlyChanges_mono (onlyChanges_trans (onlyChanges_setCp s _) honly) (by simp),
        onlyRecency_of_tc rfl rfl hrec, ?_⟩
      rw [hcp]
      simp [answeredCp, TagRec.carried, TagRec.fieldBytes, r]
  · intro s seq first base access orient rest f h
    have hexec : exec .survey s = _ := execSurvey_answers h
    have htaken (hopen : TablesOpen s) (ha : access.toNat ≤ 1) (ho : orient.toNat ≤ 1) (hf : first.toNat % 16 = 0)
        (ht : first.toNat + 16 ≤ s.tenants) (hb : base.toNat % 16 = 0) (hd : base.toNat ≤ 1008) :
        exec .survey s = .next (s.beginQuery (.survey first.toNat base.toNat (if access = 0 then .read else .write)
          (decide (orient = 1)) [])) := by
      rw [hexec, tableRefusal_of_open hopen, if_neg (by omega), if_neg (by omega), State.refuseOr_none]
    refine ⟨fun st hst => ⟨_, hexec, refused_of_refuseOr h rfl hst⟩, htaken, ?_⟩
    intro lines hopen ha ho hf ht hb hd hc allowed
    have hj : first.toNat = 4 * (first.toNat / 4) := by omega
    have hbegin := htaken hopen ha ho hf ht hb hd
    obtain ⟨v, words, hv, hcpc, hcp, hlen, hwords⟩ := survey_ends (s := s) (j := first.toNat / 4) (k := 0)
      (base := base.toNat) (op := if access = 0 then .read else .write) (byDomain := decide (orient = 1)) (rows := [])
      (lines := lines) rfl (by omega) (fun i _ hi => hc i hi) h.2.2.2.2 (f := f) rfl
    have hread (i j : Nat) : surveyRead s 0 base.toNat (if access = 0 then .read else .write) [] lines i j = allowed i j := by
      rw [surveyRead, if_neg (by omega), surveyBit_eq]
      by_cases h0 : access = 0 <;> simp [allowed, h0] <;> rfl
    have htc := hcpc.2 .tc (by simp)
    refine ⟨_, words, hbegin.trans (congrArg _ ?_), onlyChanges_mono (onlyChanges_trans hv.changes hcpc) (by simp),
      (congrArg TagCache.fills htc).trans hv.fills, (congrArg TagCache.writes htc).trans hv.writes,
      fun k => (congrArg (TagCache.validLine · k) htc).trans (hv.valid k), hcp, hlen, fun i hi j hj => ?_⟩
    · rw [State.surveying, ← hj]
      rfl
    · rw [hwords i hi j hj, hread, hread]
      rcases eq_zero_or_one_of_le ho with rfl | rfl <;> rfl

end Sys2Proof.Machine

namespace Sys2Proof.Machine

open Sys2Proof.Safety

/-! # A request is taken after a wait (R56, R72, R84) -/

theorem refuseEntry_spec (s : State) (p : Port) (e : Entry) (reason : Reason) :
    OnlyChanges [portBlock p, .te] s (s.refuseEntry p e reason) ∧
      (s.refuseEntry p e reason).port p = portDecides (s.port p) e false reason ∧
      if e.orphan = true then SnapshotLoses s (s.refuseEntry p e reason) [(p, e.tag)]
      else (s.refuseEntry p e reason).te = s.te := by
  cases ho : e.orphan with
  | true =>
    have hu : s.refuseEntry p e reason = s.removeEntry p e.tag := by rw [State.refuseEntry, if_pos ho]
    rw [hu, if_pos rfl]
    refine ⟨onlyChanges_removeEntry s p e.tag, ?_, snapshotLoses_removeEntry s p e.tag⟩
    simp [removeEntry_port, portDecides, ho, PortRec.without]
  | false =>
    have hu : s.refuseEntry p e reason = s.updatePort p fun r =>
        r.respond e.tag { outcome := refusedOutcome r.poison e.op, reason := reason, data := [] } := by
      rw [State.refuseEntry, if_neg (by simp [ho])]
    rw [hu, if_neg Bool.false_ne_true]
    refine ⟨onlyChanges_mono (onlyChanges_updatePort s p _) (by simp), ?_, by simp⟩
    simp [portDecides, ho, PortRec.respond, PortRec.updateEntry, refusedOutcome_eq]

theorem serveEntry_spec (s : State) (p : Port) (e : Entry) (reason : Reason) :
    OnlyChanges [portBlock p] s (s.serveEntry p e) ∧ (s.serveEntry p e).port p = portDecides (s.port p) e true reason ∧
      (s.serveEntry p e).te = s.te :=
  ⟨onlyChanges_updatePort s p _, by simp [State.serveEntry, portDecides, PortRec.updateEntry], by simp [State.serveEntry]⟩

/-- What a ruling leaves of its entry and of the drain snapshot, an orphan's entry removed where it is refused. -/
theorem applyRuling_spec (s : State) (p : Port) (e : Entry) (r : Ruling) :
    let u := s.applyRuling p e r
    let v := s.ruleEffects p e r
    OnlyChanges [portBlock p, .te] v u ∧ u.port p = portDecides (s.port p) e r.served r.reason ∧
      if r.served = false ∧ e.orphan = true then SnapshotLoses s u [(p, e.tag)] else u.te = s.te := by
  intro u v
  have hv : v.te = s.te := by simp [v]
  have hport : v.port p = s.port p := ruleEffects_port s p p e r
  cases hr : r.served with
  | true =>
    have hu : u = v.serveEntry p e := by simp [u, v, State.applyRuling, hr]
    obtain ⟨hoc, hp, ht⟩ := serveEntry_spec v p e r.reason
    rw [hu, if_neg (by simp), ← hport]
    exact ⟨onlyChanges_mono hoc (by simp), hp, ht.trans hv⟩
  | false =>
    have hu : u = v.refuseEntry p e r.reason := by simp [u, v, State.applyRuling, hr]
    obtain ⟨hoc, hp, ht⟩ := refuseEntry_spec v p e r.reason
    rw [hu, ← hport]
    refine ⟨hoc, hp, ?_⟩
    cases ho : e.orphan with
    | true =>
      rw [if_pos ho] at ht
      rw [if_pos ⟨rfl, rfl⟩]
      exact snapshotLoses_of_te hv.symm rfl ht
    | false =>
      rw [if_neg (by simp [ho])] at ht
      rw [if_neg (by simp)]
      exact ht.trans hv

theorem retakeRequest_of_entry {s : State} {p : Port} {e : Entry} (h : (s.port p).entry e.tag = some e) :
    s.retake (.request p e.tag) = s.lookupRequest p e := by
  rw [State.retake, State.retakeRequest, h]

theorem decideRequest_of_tag (s : State) (e : Entry) (r : TagRec) : s.decideRequest e (some r) ≠ .needTag := by
  by_cases h : s.mc.mode = .enforce ∨ s.mc.mode = .monitor
  · obtain ⟨x, hx⟩ := decideRequest_tagged h e r
    simp [hx]
  · rw [not_or] at h
    cases hm : s.mc.mode <;> simp_all [State.decideRequest]

/-! # The stalled list (R80) -/

theorem stuck_of_stall {tc : TagCache} {j : Nat} (h : tc.find j = .stall) : Stuck tc j := by
  have hvalid : ∀ x ∈ tc.set j, x.2.isValid j = false := by
    intro x hx
    by_contra hv
    have hv : x.2.isValid j = true := by simpa using hv
    have hway : (tc.validWay j).isSome = true := by
      rw [TagCache.validWay, Option.isSome_map, List.find?_isSome]
      exact ⟨x, hx, hv⟩
    have hline : (tc.validLine j).isSome = true := by
      rw [TagCache.validLine, List.findSome?_isSome_iff]
      refine ⟨x, hx, ?_⟩
      cases hs : x.2 <;> simp_all [WayState.isValid]
    obtain ⟨way, hway⟩ := Option.isSome_iff_exists.1 hway
    obtain ⟨line, hline⟩ := Option.isSome_iff_exists.1 hline
    simp [TagCache.find, hway, hline] at h
  rw [TagCache.find_of_not_valid fun way line hm => by simpa [WayState.isValid] using hvalid _ hm] at h
  have hp : tc.isPending j = false := by
    cases hp : tc.isPending j
    · rfl
    · simp [hp] at h
  refine ⟨fun x hx => ⟨hvalid x hx, ?_⟩, ?_⟩
  · rw [TagCache.isPending, List.any_eq_false] at hp
    simpa using hp x hx
  · by_contra hroom
    obtain ⟨hfills, hway⟩ := not_or.1 hroom
    cases hv : CacheSet.victim (tc.set j) with
    | none =>
      refine hway fun x hx => ?_
      rw [CacheSet.victim, Option.map_eq_none_iff, List.find?_eq_none] at hv
      simpa using hv x hx
    | some way => simp [hp, hv, Nat.lt_of_not_le hfills] at h

theorem canTake_iff (tc : TagCache) (j : Nat) : tc.canTake j = true ↔ ¬ Stuck tc j := by
  unfold TagCache.canTake
  split
  · next h => simp [stuck_of_stall h]
  · next h => simpa using fun hs => h (find_of_stuck hs)

theorem stalledOne_of_stuck {s : State} {x : Party × Nat} (h : Stuck s.tc x.2) : s.stalledOne x = s := by
  have hno : s.tc.canTake x.2 = false := Bool.eq_false_iff.2 fun hc => (canTake_iff _ _).1 hc h
  rw [State.stalledOne, hno, Bool.and_false, if_neg Bool.false_ne_true]

theorem foldl_stalledOne_of_stuck {s : State} {l : List (Party × Nat)} (h : ∀ x ∈ l, Stuck s.tc x.2) :
    l.foldl State.stalledOne s = s := by
  induction l with
  | nil => rfl
  | cons x l ih =>
    rw [List.foldl_cons, stalledOne_of_stuck (h x List.mem_cons_self)]
    exact ih fun y hy => h y (List.mem_cons_of_mem _ hy)

/-- The oldest stalled party whose line can be taken leaves the list, and those after it are looked at next. -/
theorem stalledPass_takes {s : State} {older newer : List (Party × Nat)} {x : Party × Nat}
    (hold : ∀ y ∈ older, Stuck s.tc y.2) (hs : s.tc.stalled = older ++ x :: newer) (hx : ¬ Stuck s.tc x.2) :
    s.stalledPass = newer.foldl State.stalledOne ((s.setTc { s.tc with stalled := older ++ newer }).retake x.1) := by
  have herase : (older ++ x :: newer).erase x = older ++ newer := by
    rw [List.erase_append_right _ fun hm => hx (hold x hm), List.erase_cons_head]
  have hone : s.stalledOne x = (s.setTc { s.tc with stalled := older ++ newer }).retake x.1 := by
    rw [State.stalledOne, if_pos, hs, herase]
    rw [(canTake_iff _ _).2 hx, hs]
    simp
  rw [State.stalledPass, hs, List.foldl_append, foldl_stalledOne_of_stuck hold, List.foldl_cons, hone]

/-! # The engine and the walk take their units -/

/-- A row that takes tags is the engine's next unit. -/
theorem exec_tagRow {s : State} {w : Work} {c : Cmd} {i : Instr} (h : Engaged s w c) (hi : tagRow w c = some i) :
    exec i s = .next s.engineTry.settle := by
  have hunit {phase : Phase} {kind : Command → Bool} (hp : c.phase = phase) (hk : kind c.command = true) :
      s.onPhase phase kind tagUnit = .next s.engineTry.settle := onPhase_of_engaged h hp hk tagUnit
  unfold tagRow at hi
  split at hi
  · next hp hc => cases hi; exact hunit hp (kind := Command.isRecount) (by rw [hc]; rfl)
  · next hp hc => cases hi; exact hunit hp (kind := Command.isReclaim) (by rw [hc]; rfl)
  · next hp hc => cases hi; exact hunit hp (kind := Command.isRevive) (by rw [hc]; rfl)
  · next hp _ _ _ =>
    split at hi
    · next hw => exact exec_verifyRow h hp hi (.inl hw.1) hw.2
    · cases hi
  · next hp hc => cases hi; exact hunit hp (kind := Command.isReclaim) (by rw [hc]; rfl)
  · next hp hc => cases hi; exact exec_retireMark_mark h (by rw [hc]; rfl) hp
  · next hp _ _ => exact exec_applyRow h hp hi
  · cases hi
  · next hp _ =>
    split at hi
    · next ht =>
      cases hi
      rw [exec_drainTimeout h hp, drainUnit, if_pos ht]
    · cases hi
  · next hp hc =>
    split at hi
    · next hw =>
      cases hi
      have hrow : exec .formatHandoff s = .next (formatUnit w c.command s).settle :=
        onPhase_of_engaged h hp (kind := Command.isFormat) (by rw [hc]; rfl) formatUnit
      rw [hrow, formatUnit, if_neg (by simp [hw.2]), if_neg (by simp [hw.1])]
    · cases hi
  · next hp _ =>
    split at hi
    · next hw => rw [exec_handoffRow h hp hi hw.2, if_neg (by simp [hw.1])]
    · cases hi
  · cases hi

theorem engineRetry_of_current {s : State} {w : Work} (h : s.te.current = some w) :
    s.engineRetry = (s.setTe { s.te with current := some { w with busy := false } }).engineTry := by
  rw [State.engineRetry, State.updateWork, h]
  rfl

theorem engineTry_of_not_cached {s : State} {w : Work} {c : Cmd} (h : Working s w c) (hf : c.command.isFormat = false)
    (hn : ∀ x ∈ s.tc.set (w.cursor / 4), x.2.isValid (w.cursor / 4) = false) :
    s.engineTry = (s.setTc (s.tc.lookup .engine (w.cursor / 4)).1).engineWaits := by
  rw [State.engineTry, h.currentCmd]
  have hlookup : s.lookup .engine (lineOf w.cursor) State.engineAct State.engineWaits =
      (s.setTc (s.tc.lookup .engine (w.cursor / 4)).1).engineWaits := lookup_of_not_valid hn .engine _ _
  cases hcmd : c.command with
  | format kept => simp [hcmd, Command.isFormat] at hf
  | _ => simpa only [hcmd] using hlookup

theorem walk_of_recovery {s : State} {w : Walk} (h : s.mc.recovery = some (.walk w)) : s.walk = w := by
  rw [State.walk, h]

theorem walkRetry_of_recovery {s : State} {w : Walk} (h : s.mc.recovery = some (.walk w)) :
    s.retake .walk = (s.setMc { s.mc with recovery := some (.walk { w with busy := false }) }).walkTry := by
  simp only [State.retake, h]
  rw [State.walkRetry, walk_of_recovery h]
  rfl

/-! # The scrubber's change is taken (R129, R130) -/

/-- The scrubber's list and its waiting change once a granule has left the head run (R126, R129). -/
def Scrubber.granuleLeft (u : Scrubber) (head : Run) (rest : List Run) : Scrubber :=
  { u with waiting := none, runs := { head with first := head.first + 1, count := head.count - 1 } :: rest }

theorem changeDone_eq {s : State} {head : Run} {rest : List Run} (hruns : s.su.runs = head :: rest) (g : Nat) (freed : Bool) :
    s.changeDone g freed = (s.setSu (s.su.granuleLeft head rest)).reportGranule g head.ticket freed := by
  simp [State.changeDone, State.leaveRun, hruns, Scrubber.granuleLeft]

/-- The report of a granule credits the command of its run, and lets an ASSIGN that waits on it go on (R131). -/
theorem reportGranule_spec (s : State) (g : Nat) (t : Option Ticket) (freed : Bool) :
    let u := s.reportGranule g t freed
    OnlyChanges [.te] s u ∧ (t = none → u.te.table = s.te.table) ∧
      (∀ k c, t = some k → s.cmd k = some c → CmdBecomes s u k
        (if freed then { c with doneCount := c.doneCount + 1 } else { c with poisonedCount := c.poisonedCount + 1 })) ∧
      u.te.current = s.te.current.map fun w => if w.scrubWait = some g then { w with scrubWait := none } else w := by
  intro u
  refine ⟨⟨by simp [u], fun b hb => by cases b <;> simp_all [Block.same, u]⟩, fun ht => ?_, fun k c ht hc => ?_, ?_⟩
  · simp [u, ht, State.reportGranule, State.updateWork]
  · subst ht
    cases freed with
    | true => exact cmdBecomes_updateWork (cmdBecomes_updateCmd hc (f := fun c => { c with doneCount := c.doneCount + 1 })
        fun _ => rfl) _
    | false => exact cmdBecomes_updateWork (cmdBecomes_updateCmd hc
        (f := fun c => { c with poisonedCount := c.poisonedCount + 1 }) fun _ => rfl) _
  · cases t <;> cases freed <;>
      simp [u, State.reportGranule, State.updateWork, State.creditDone, State.creditPoisoned, State.updateCmd]

/-- A granule leaves the head run, and its command is credited (R126, R131). -/
theorem changeDone_spec {s : State} {head : Run} {rest : List Run} (hruns : s.su.runs = head :: rest) (g : Nat) (freed : Bool) :
    let u := s.changeDone g freed
    OnlyChanges [.su, .te] s u ∧ u.su = s.su.granuleLeft head rest ∧
      (head.ticket = none → u.te.table = s.te.table) ∧
      (∀ k c, head.ticket = some k → s.cmd k = some c → CmdBecomes s u k
        (if freed then { c with doneCount := c.doneCount + 1 } else { c with poisonedCount := c.poisonedCount + 1 })) ∧
      u.te.current = s.te.current.map fun w => if w.scrubWait = some g then { w with scrubWait := none } else w := by
  intro u
  obtain ⟨hoc, hnone, hcmd, hcur⟩ := reportGranule_spec (s.setSu (s.su.granuleLeft head rest)) g head.ticket freed
  have hsu : OnlyChanges [.su] s (s.setSu (s.su.granuleLeft head rest)) :=
    ⟨rfl, fun b hb => by cases b <;> simp_all [Block.same]⟩
  rw [show u = _ from changeDone_eq hruns g freed]
  exact ⟨onlyChanges_trans hsu hoc, hoc.2 .su (by simp), hnone, hcmd, hcur⟩

/-- The scrubber's change on a cached line: the tag is rewritten where it is SCRUBBING, and the granule leaves its run
(R129, R130). -/
theorem scrubAct_eq {v : State} {x : WaitingChange} {line : TagLine} (hc : Cached v (x.granule / 4) line)
    (hroom : v.tc.writes.length < 32 ∨ (line.get (x.granule % 4)).tag.kind ≠ .scrubbing) :
    let r := line.get (x.granule % 4)
    ∃ y, State.scrubAct x line (v.recent (x.granule / 4) line) =
        y.changeDone x.granule (decide (r.tag.kind = .scrubbing) && !x.failed) ∧ OnlyChanges [.tc] v y ∧
      (r.tag.kind = .scrubbing → Rewrites v y x.granule line
        { r with tag := if x.failed then .poisoned r.tag.owner .scrubFail else .free }) ∧
      (r.tag.kind ≠ .scrubbing → OnlyRecency v y (x.granule / 4)) := by
  intro r
  have hrecent : OnlyChanges [.tc] v (v.recent (x.granule / 4) line) := onlyChanges_recent _ _ _
  by_cases hk : r.tag.kind = .scrubbing
  · obtain ⟨o, k, ht⟩ : ∃ o k, r.tag = .scrubbing o k := by
      cases ht : r.tag <;> simp_all [Tag.kind]
    have htag : (if x.failed then Tag.poisoned r.tag.owner .scrubFail else .free) = scrubbedTag x.failed o := by
      rw [ht]
      rfl
    have hw : (v.recent (x.granule / 4) line).tc.writes.length < 32 := by
      rw [recent_writes hc]
      exact hroom.resolve_right (not_not_intro hk)
    refine ⟨(v.recent (x.granule / 4) line).putTag x.granule { r with tag := scrubbedTag x.failed o }, ?_,
      onlyChanges_mono (onlyChanges_trans hrecent (onlyChanges_putTag _ _ _)) (by simp), fun _ => ?_, fun h => absurd hk h⟩
    · rw [hk]
      refine Eq.trans ?_ (change_of_room hw .scrubber x.granule { r with tag := scrubbedTag x.failed o }
        (fun s => s.changeDone x.granule !x.failed) id id)
      simp only [State.scrubAct]
      split
      · next o' k' ht' =>
        cases ht'.symm.trans ht
        rfl
      · next hno => exact absurd ht (hno o k)
    · rw [htag]
      exact rewrites_recent hc _
  · refine ⟨_, ?_, hrecent, fun h => absurd h hk, fun _ => onlyRecency_recent hc⟩
    rw [decide_eq_false hk, Bool.false_and]
    simp only [State.scrubAct]
    split
    · next ht => exact absurd (by simp only [r, ht]; rfl) hk
    · rfl

/-- The scrubber's change of a granule whose record is `r`, the line cached (R129, R130). -/
theorem scrubAct_spec {s v : State} {x : WaitingChange} {line : TagLine} {head : Run} {rest : List Run}
    (hv : OnlyChanges [.su] s v) (hvsu : v.su = { s.su with waiting := some { x with issued := true } })
    (hruns : s.su.runs = head :: rest) (hc : Cached s (x.granule / 4) line)
    (hroom : s.tc.writes.length < 32 ∨ (line.get (x.granule % 4)).tag.kind ≠ .scrubbing) :
    let r := line.get (x.granule % 4)
    let u := State.scrubAct x line (v.recent (x.granule / 4) line)
    let freed := decide (r.tag.kind = .scrubbing) && !x.failed
    OnlyChanges [.tc, .su, .te] s u ∧
      (r.tag.kind = .scrubbing → Rewrites s u x.granule line
        { r with tag := if x.failed then .poisoned r.tag.owner .scrubFail else .free }) ∧
      (r.tag.kind ≠ .scrubbing → OnlyRecency s u (x.granule / 4)) ∧
      u.su = s.su.granuleLeft head rest ∧
      (head.ticket = none → u.te.table = s.te.table) ∧
      (∀ k c, head.ticket = some k → s.cmd k = some c → CmdBecomes s u k
        (if freed then { c with doneCount := c.doneCount + 1 } else { c with poisonedCount := c.poisonedCount + 1 })) ∧
      u.te.current = s.te.current.map fun w =>
        if w.scrubWait = some x.granule then { w with scrubWait := none } else w := by
  intro r u freed
  have htc : v.tc = s.tc := hv.2 .tc (by simp)
  obtain ⟨y, hu, hvy, hrewrites, hrecency⟩ := scrubAct_eq (cached_of_tc htc hc) (by rw [htc]; exact hroom)
  have hysu : y.su = v.su := hvy.2 .su (by simp)
  have hte : y.te = s.te := (hvy.2 .te (by simp)).trans (hv.2 .te (by simp))
  obtain ⟨hoc, hsu, hnone, hcmd, hcur⟩ :=
    changeDone_spec (s := y) (head := head) (rest := rest) (by rw [hysu, hvsu]; exact hruns) x.granule freed
  have hutc : u.tc = y.tc := by
    rw [show u = _ from hu]
    exact hoc.2 .tc (by simp)
  refine ⟨?_, fun hk => rewrites_congr htc hutc (hrewrites hk), fun hk => onlyRecency_of_tc htc.symm hutc (hrecency hk), ?_⟩
  · rw [show u = _ from hu]
    exact onlyChanges_mono (onlyChanges_trans (onlyChanges_trans hv hvy) hoc) (by simp)
  · rw [show u = _ from hu, ← hte]
    refine ⟨by rw [hsu, hysu, hvsu]; rfl, hnone, fun k c ht hk => ?_, hcur⟩
    exact cmdBecomes_from (by rw [hte]) (by rw [hte]) (hcmd k c ht (by rw [State.cmd, hte]; exact hk))

end Sys2Proof.Machine

namespace Sys2Proof.Machine

open Sys2Proof.Safety

/-! # Parties taken after a wait -/

/-- A request taken after a wait, on a line that is cached and on one that is not (R56, R72, R84). -/
theorem request_retaken {s : State} {p : Port} {e : Entry} (h : (s.port p).entry e.tag = some e) :
    let g := 64 * e.lineNo.toNat / 4096
    let u := s.retake (.request p e.tag)
    let decided (served : Bool) (reason : Reason) : Prop :=
      u.port p = portDecides (s.port p) e served reason ∧
        if served = false ∧ e.orphan = true then SnapshotLoses s u [(p, e.tag)] else u.te = s.te
    ((∀ x ∈ s.tc.set (g / 4), x.2.isValid (g / 4) = false) →
      u = s.setTc (s.tc.lookup (.request p e.tag) (g / 4)).1) ∧
    ∀ line, Cached s (g / 4) line → OnlyRecency s u (g / 4) ∧
      match s.decideRequest e (some (line.get (g % 4))) with
      | .ruled r =>
        let v := s.ruleEffects p e r
        OnlyChanges [portBlock p, .tc, .te, .domains, .dram, .vl, .eu, .cp] s u ∧ decided r.served r.reason ∧
          u.domains = v.domains ∧ u.dram = v.dram ∧ u.vl = v.vl ∧ u.eu = v.eu ∧ u.cp = v.cp
      | .notReady => OnlyChanges [portBlock p, .tc, .te] s u ∧ decided false .notReady
      | .needTag => False := by
  intro g u decided
  have hu : u = s.lookupRequest p e := retakeRequest_of_entry h
  refine ⟨fun hn => hu.trans (lookup_of_not_valid hn (.request p e.tag) _ _), fun line hc => ?_⟩
  have hlook : u = (s.recent (g / 4) line).decideWithTag p e line := hu.trans (lookup_of_cached hc (.request p e.tag) _ _)
  have hdec := decideRequest_congr (s := s) (t := s.recent (g / 4) line) (by simp) (by simp) (by simp) e (some (line.get (g % 4)))
  have hrec := onlyRecency_recent hc
  have hport : (s.recent (g / 4) line).port p = s.port p := State.recent_port _ _ _ p
  have hte : (s.recent (g / 4) line).te = s.te := by simp
  cases hd : s.decideRequest e (some (line.get (g % 4))) with
  | needTag => exact absurd hd (decideRequest_of_tag s e _)
  | notReady =>
    have hue : u = (s.recent (g / 4) line).refuseEntry p e .notReady := by
      rw [hlook, State.decideWithTag, show (s.recent (g / 4) line).decideRequest e (some (line.get (granuleOf e.lineNo % 4))) = _
        from hdec.trans hd]
    obtain ⟨hoc, hp, hsnap⟩ := refuseEntry_spec (s.recent (g / 4) line) p e .notReady
    rw [hport] at hp
    rw [← hue] at hoc hp hsnap
    refine ⟨onlyRecency_of_tc rfl (hoc.2 .tc (by cases p <;> simp [portBlock])) hrec,
      onlyChanges_mono (onlyChanges_trans (onlyChanges_recent s _ _) hoc) (by simp), hp, ?_⟩
    cases ho : e.orphan with
    | true =>
      rw [if_pos ho] at hsnap
      rw [if_pos ⟨rfl, rfl⟩]
      exact snapshotLoses_of_te hte.symm rfl hsnap
    | false =>
      rw [if_neg (by simp [ho])] at hsnap
      rw [if_neg (by simp)]
      exact hsnap.trans hte
  | ruled r =>
    have hue : u = (s.recent (g / 4) line).applyRuling p e r := hlook.trans (decideWithTag_of_ruled (hdec.trans hd) p)
    obtain ⟨hoc, hp, hsnap⟩ := applyRuling_spec (s.recent (g / 4) line) p e r
    have halike : RulesAlike s (s.recent (g / 4) line) := by constructor <;> simp
    have heff := halike.ruleEffects (p := p) (by rw [hport]; exact ⟨rfl, rfl⟩) e r
    rw [← hue] at hoc hp hsnap
    rw [hport] at hp
    have hvtc : ((s.recent (g / 4) line).ruleEffects p e r).tc = (s.recent (g / 4) line).tc := by simp
    refine ⟨onlyRecency_of_tc rfl ((hoc.2 .tc (by cases p <;> simp [portBlock])).trans hvtc) hrec,
      onlyChanges_mono (onlyChanges_trans (onlyChanges_trans (onlyChanges_recent s _ _) (onlyChanges_ruleEffects _ p e r)) hoc)
        (by simp), ⟨hp, ?_⟩, ?_, ?_, ?_, ?_, ?_⟩
    · by_cases ho : r.served = false ∧ e.orphan = true
      · rw [if_pos ho] at hsnap ⊢
        exact snapshotLoses_of_te hte.symm rfl hsnap
      · rw [if_neg ho] at hsnap ⊢
        exact hsnap.trans hte
    · exact (hoc.2 .domains (by cases p <;> simp [portBlock])).trans heff.domains
    · exact (hoc.2 .dram (by cases p <;> simp [portBlock])).trans heff.dram
    · exact (hoc.2 .vl (by cases p <;> simp [portBlock])).trans heff.vl
    · exact (hoc.2 .eu (by cases p <;> simp [portBlock])).trans heff.eu
    · exact (hoc.2 .cp (by cases p <;> simp [portBlock])).trans heff.cp

theorem tagRead_retaken {s : State} {g : Nat} {line : TagLine} {f : List Byte} {rest : List (List Byte)}
    (he : s.cp.executing = some (.tagRead g)) (hin : s.cp.inbound = f :: rest) (hf : f.headD 0 = 0x30)
    (hc : Cached s (g / 4) line) :
    let r := line.get (g % 4)
    let u := s.retake .message
    OnlyChanges [.tc, .cp] s u ∧ OnlyRecency s u (g / 4) ∧
      u.cp = answeredCp s.cp f rest .ok (beBytes 4 g ++ [r.tag.kind.code, r.tag.presence] ++
        beBytes 2 (r.tag.owner.getD 0).toNat ++ [(r.tag.rights.getD .ro).code, r.tag.share.getD 0] ++
        beBytes 2 (r.tag.ticket.getD 0).toNat ++ [(r.tag.cause.getD .scrubFail).code, r.generation]) := by
  intro r u
  obtain ⟨hoc, hrec, hcp⟩ := queryTry_tagRead he hin (by rw [kindOf_eq, hf]; rfl) hc 3
  exact ⟨hoc, hrec, hcp.trans (by simp [TagRec.carried, TagRec.fieldBytes, r])⟩

/-- A SURVEY taken after a wait (R76, R84). -/
theorem survey_retaken {s : State} {j k m base : Nat} {op : Opcode} {byDomain : Bool} {rows : List (BitVec 16)}
    {lines : Nat → TagLine} {f : List Byte} {rest : List (List Byte)}
    (he : s.cp.executing = some (.survey (4 * j) base op byDomain rows)) (hin : s.cp.inbound = f :: rest)
    (hf : f.headD 0 = 0x31) (hl : rows.length = 4 * k) (hk : k < 4) (hkm : k ≤ m)
    (hc : ∀ i, k ≤ i → i < m → Cached s (j + i) (lines i)) :
    let u := s.retake .message
    (m = 4 → ∃ words : List (BitVec 16), OnlyChanges [.tc, .cp] s u ∧
      u.tc.fills = s.tc.fills ∧ u.tc.stalled = s.tc.stalled ∧ u.tc.writes = s.tc.writes ∧ u.tc.held = s.tc.held ∧
      (∀ n, u.tc.validLine n = s.tc.validLine n) ∧
      u.cp = answeredCp s.cp f rest .ok (words.flatMap fun w : BitVec 16 => beBytes 2 w.toNat) ∧ words.length = 16 ∧
      ∀ g < 16, ∀ x < 16, (words.getD g 0).getLsbD x =
        if byDomain then surveyRead s k base op rows lines x g else surveyRead s k base op rows lines g x) ∧
    (m < 4 → (∀ x ∈ s.tc.set (j + m), x.2.isValid (j + m) = false) →
      ∃ (v : State) (rows' : List (BitVec 16)), OnlyChanges [.tc] s v ∧
        v.tc.fills = s.tc.fills ∧ v.tc.stalled = s.tc.stalled ∧ v.tc.writes = s.tc.writes ∧ v.tc.held = s.tc.held ∧
        (∀ n, v.tc.validLine n = s.tc.validLine n) ∧ v.tc.set (j + m) = s.tc.set (j + m) ∧
        u = (v.setTc (v.tc.lookup .message (j + m)).1).setCp
          { s.cp with executing := some (.survey (4 * j) base op byDomain rows') } ∧
        rows'.length = 4 * m ∧
        ∀ g < 4 * m, ∀ x < 16, (rows'.getD g 0).getLsbD x = surveyRead s k base op rows lines g x) := by
  intro u
  have hu : u = State.queryTry 4 (s.surveying j base op byDomain rows) := by
    rw [surveying_of_executing he]
    rfl
  refine ⟨fun hm => ?_, fun hm hn => ?_⟩
  · subst hm
    obtain ⟨v, words, hv, hcp, hucp, hlen, hread⟩ := survey_ends hl hk hc hin (by rw [kindOf_eq, hf]; rfl)
    rw [← hu] at hcp hucp
    have htc : u.tc = v.tc := hcp.2 .tc (by simp)
    refine ⟨words, onlyChanges_mono (onlyChanges_trans hv.changes hcp) (by simp), ?_, ?_, ?_, ?_, fun n => ?_, hucp, hlen,
      hread⟩
    · rw [htc, hv.fills]
    · rw [htc, hv.stalled]
    · rw [htc, hv.writes]
    · rw [htc, hv.held]
    · rw [htc, hv.valid]
  · obtain ⟨v, rows', hv, hl', hread, htry⟩ := survey_waits (base := base) (op := op) (byDomain := byDomain) hl hkm hm hc hn
    refine ⟨v, rows', hv.changes, hv.fills, hv.stalled, hv.writes, hv.held, hv.valid,
      hv.set _ fun i ha hb => setOf_ne ha hb (by omega), ?_, hl', hread⟩
    rw [hu, htry, State.surveying, State.setTc_cp, show v.cp = s.cp from hv.changes.2 .cp (by simp)]

theorem exec_walkStep {s : State} {w : Walk} (hr : s.mc.inReset = none) (hrec : s.mc.recovery = some (.walk w))
    (hb : w.busy = false) (hp : w.placeWait = false) : exec .walkStep s = .next s.walkTry.settle := by
  rw [exec, execWalkStep, onEvent_of_no_reset hr, hrec]
  simp [hb, hp]

theorem scrubIssue_of_cached {s : State} {x : WaitingChange} {line : TagLine} (hc : Cached s (x.granule / 4) line) :
    s.scrubIssue x = State.scrubAct x line
      ((s.setSu { s.su with waiting := some { x with issued := true } }).recent (x.granule / 4) line) :=
  lookup_of_cached (s := s.setSu { s.su with waiting := some { x with issued := true } }) (cached_of_tc rfl hc) .scrubber _ _

theorem scrubIssue_of_not_cached {s : State} {x : WaitingChange}
    (hn : ∀ y ∈ s.tc.set (x.granule / 4), y.2.isValid (x.granule / 4) = false) :
    s.scrubIssue x = (s.setTc (s.tc.lookup .scrubber (x.granule / 4)).1).setSu
      { s.su with waiting := some { x with issued := true } } :=
  lookup_of_not_valid (s := s.setSu { s.su with waiting := some { x with issued := true } }) hn .scrubber _ _

theorem scrubRetry_of_waiting {s : State} {x : WaitingChange} (h : s.su.waiting = some x) (hm : s.mc.mode ≠ .suspended) :
    s.retake .scrubber = s.scrubIssue x := by
  simp only [State.retake, State.scrubRetry, h, if_neg hm]

/-- Settles O39: how each party is taken after a wait in TC, and which stalled party is. -/
theorem waitingPartiesTaken : Obligations.WaitingPartiesTaken := by
  refine ⟨fun s p e he => request_retaken he, fun s g he hn => queryTry_of_not_cached he hn 3,
    fun s g line f rest he hin hf hc => tagRead_retaken he hin hf hc, ?_, ?_, ?_, ?_, ?_, ?_, ?_, ?_⟩
  · intro s j k m base op byDomain rows lines f rest he hin hf hl hk hkm hm4 hc read u
    have hread (g x : Nat) : surveyRead s k base op rows lines g x = read g x := by
      rw [surveyRead, surveyBit_eq] <;> rfl
    have h := survey_retaken he hin hf hl hk hkm hc
    simp only [hread] at h
    exact h
  · intro s w c i hr hcur hcmd hi
    have he : Engaged (s.setTe { s.te with current := some { w with busy := false } }) { w with busy := false } c :=
      ⟨hr, rfl, hcmd, rfl⟩
    rw [exec_tagRow he hi, State.retake, engineRetry_of_current hcur]
  · intro s w c hcur hcmd hf hn
    have hs : Working (s.setTe { s.te with current := some { w with busy := false } }) { w with busy := false } c :=
      ⟨rfl, hcmd⟩
    rw [State.retake, engineRetry_of_current hcur, engineTry_of_not_cached hs hf hn]
    rfl
  · intro s w hr hrec hp
    rw [walkRetry_of_recovery hrec]
    exact exec_walkStep hr rfl rfl hp
  · intro s w hrec hn
    rw [walkRetry_of_recovery hrec]
    exact lookup_of_not_valid (s := s.setMc { s.mc with recovery := some (.walk { w with busy := false }) }) hn .walk _ _
  · intro s x hw hm hn
    rw [scrubRetry_of_waiting hw hm, scrubIssue_of_not_cached hn]
  · intro s x line head rest hw hruns u r
    refine ⟨fun hm => ?_, fun hm hc hroom => ?_⟩
    · simp [u, State.retake, State.scrubRetry, hw, hm]
    · have hu : u = _ := (scrubRetry_of_waiting hw hm).trans (scrubIssue_of_cached hc)
      rw [hu]
      exact scrubAct_spec (v := s.setSu { s.su with waiting := some { x with issued := true } })
        ⟨rfl, fun b hb => by cases b <;> simp_all [Block.same]⟩ rfl hruns hc hroom
  · intro s older hold
    exact ⟨fun hs => by rw [State.stalledPass, hs, foldl_stalledOne_of_stuck hold],
      fun x newer hs hx => stalledPass_takes hold hs hx⟩

end Sys2Proof.Machine

namespace Sys2Proof.Machine

open Sys2Proof.Safety

/-! # The report of lost tags (R83) -/

theorem handsOver_foldl {α : Type} (g : α → LogEvent) (hg : ∀ a d, g a ≠ .standing d .quarantined) (l : List α) (s : State) :
    HandsOver s (l.foldl (fun s a => s.logRecord (g a)) s) (l.map g) [] := by
  induction l generalizing s with
  | nil => exact HandsOver.refl s
  | cons a l ih => exact (handsOver_logRecord s (hg a)).trans (ih _)

theorem onlyChanges_foldl {α : Type} {bs : List Block} (f : State → α → State) (h : ∀ s a, OnlyChanges bs s (f s a))
    (l : List α) (s : State) : OnlyChanges bs s (l.foldl f s) := by
  induction l generalizing s with
  | nil => exact onlyChanges_mono (onlyChanges_refl s) (by simp)
  | cons a l ih => exact onlyChanges_mono (onlyChanges_trans (h s a) (ih _)) (by simp)

theorem onlyChanges_reportLoss (s : State) : OnlyChanges [.te] s s.reportLoss := by
  unfold State.reportLoss
  split
  · split
    · exact onlyChanges_updateWork s _
    · exact onlyChanges_mono (onlyChanges_refl s) (by simp)
  · exact onlyChanges_mono (onlyChanges_refl s) (by simp)

/-- A loss is told to a RECOUNT that the engine holds (R83, R114). -/
theorem reportLoss_te (s : State) :
    s.reportLoss.te.table = s.te.table ∧ s.reportLoss.te.counter = s.te.counter ∧
      (s.te.current = none → s.reportLoss.te.current = none) ∧
      ∀ w c, s.te.current = some w → s.cmd w.ticket = some c →
        s.reportLoss.te.current = some { w with lossReported := w.lossReported || decide (c.command = .recount) } := by
  refine ⟨?_, ?_, fun hw => ?_, fun w c hw hc => ?_⟩
  · unfold State.reportLoss
    repeat' split
    all_goals simp [State.updateWork]
  · unfold State.reportLoss
    repeat' split
    all_goals simp [State.updateWork]
  · simp [State.reportLoss, State.currentCmd, hw]
  · have hcur : s.currentCmd = some (w, c) := (Working.mk hw hc : Working s w c).currentCmd
    by_cases hk : c.command = .recount
    · simp [State.reportLoss, hcur, hk, State.updateWork, hw]
    · simp [State.reportLoss, hcur, hk, hw]

/-- The report outside RECOVERING: the counts are stale, TE is told, a record for each tag, and the flag. -/
theorem reportLost_spec (s : State) (f : Fill) {lost : List Nat} (hl : lost ≠ []) :
    let x := s.reportLost f.line f.origin lost
    OnlyChanges [.te, .vl, .eu, .mc, .cp] s x ∧ x.mc = { s.mc with countsStale := true } ∧
      x.vl = (lost.map fun i => LogEvent.tagLost f.origin (4 * f.line + i)).foldl (storeEvent s.mc.timestamp) s.vl ∧
      FlagsSet s x ([.tagLost] ++ storingFlags s x) ∧ x.te = (s.setMc { s.mc with countsStale := true }).reportLoss.te := by
  intro x
  generalize hv : (s.setMc { s.mc with countsStale := true }).reportLoss = v
  have hsv : OnlyChanges [.mc, .te] s v := hv ▸ onlyChanges_trans (onlyChanges_setMc s _) (onlyChanges_reportLoss _)
  have hvmc : v.mc = { s.mc with countsStale := true } := by
    rw [← hv, show _ = (s.setMc _).mc from (onlyChanges_reportLoss (s.setMc { s.mc with countsStale := true })).2 .mc (by simp)]
    rfl
  have hvvl : v.vl = s.vl := hsv.2 .vl (by simp)
  have hveu : v.eu = s.eu := hsv.2 .eu (by simp)
  have hx : x = (lost.foldl (fun s i => s.logRecord (.tagLost f.origin (4 * f.line + i))) v).setFlag .tagLost := by
    rw [← hv]
    rfl
  have hand := (handsOver_foldl (fun i => LogEvent.tagLost f.origin (4 * f.line + i)) (fun _ _ => by simp) lost v).trans
    (handsOver_setFlag _ .tagLost)
  have honly := onlyChanges_trans (onlyChanges_foldl (fun s i => s.logRecord (.tagLost f.origin (4 * f.line + i)))
    (fun s i => onlyChanges_logRecord s _) lost v) (onlyChanges_setFlag _ .tagLost)
  rw [← hx] at hand honly
  refine ⟨onlyChanges_mono (onlyChanges_trans hsv honly) (by simp), hand.mc.trans hvmc, ?_, ?_, honly.2 .te (by simp)⟩
  · rw [hand.log, List.append_nil, hvvl, hvmc]
  · have hflags := hand.flags
    rw [storingFlags_congr (s := s) (t := x) hvvl rfl] at hflags
    exact flagsSet_of_eu_eq hveu (by simpa [hl] using hflags)

theorem lossReported_lostTags {s v : State} {f : Fill} (hv : OnlyChanges [.tc] s v) (lost : List Nat) :
    LossReported s (v.lostTags f.line f.origin lost) f lost := by
  have hmc : v.mc = s.mc := hv.2 .mc (by simp)
  have hte : v.te = s.te := hv.2 .te (by simp)
  by_cases hl : lost = []
  · subst hl
    rw [LossReported, if_pos rfl]
    exact hv
  by_cases hm : s.mc.mode = .recovering
  · have hx : v.lostTags f.line f.origin lost = v.countLost f.line lost := by simp [State.lostTags, hl, hmc, hm]
    rw [hx, LossReported, if_neg hl, if_pos hm]
    unfold State.countLost
    rw [hmc]
    cases hrec : s.mc.recovery with
    | none => exact ⟨onlyChanges_mono hv (by simp), hmc⟩
    | some r =>
      cases r with
      | walk w =>
        refine ⟨onlyChanges_mono (onlyChanges_trans hv (onlyChanges_setMc v _)) (by simp), ?_⟩
        exact congrArg (fun m : ModeController => { m with
          recovery := some (.walk { w with
            recountMark := w.recountMark || decide (f.line < lineOf w.cursor), tagsLost := w.tagsLost + lost.length }) }) hmc
      | _ => exact ⟨onlyChanges_mono hv (by simp), hmc⟩
  · have hx : v.lostTags f.line f.origin lost = v.reportLost f.line f.origin lost := by simp [State.lostTags, hl, hmc, hm]
    rw [hx, LossReported, if_neg hl, if_neg hm]
    obtain ⟨hoc, hxmc, hvl, hfl, hxte⟩ := reportLost_spec v f hl
    obtain ⟨htab, hcount, hnone, hcur⟩ := reportLoss_te (v.setMc { v.mc with countsStale := true })
    have hvvl : v.vl = s.vl := hv.2 .vl (by simp)
    rw [hmc] at hxmc
    refine ⟨onlyChanges_mono (onlyChanges_trans hv hoc) (by simp), hxmc, ?_, ?_, ?_, ?_, ?_⟩
    · rw [hvl, hvvl, hmc]
    · rw [storingFlags_congr (s := s) (t := v.reportLost f.line f.origin lost) hvvl rfl] at hfl
      exact flagsSet_of_eu_eq (hv.2 .eu (by simp)) hfl
    · rw [hxte, htab, State.setMc_te, hte]
    · rw [hxte, hcount, State.setMc_te, hte]
    · rw [hxte]
      rw [State.setMc_te, hte] at hnone hcur
      cases hw : s.te.current with
      | none => exact hnone hw
      | some w => exact fun c hc => hcur w c hw (by rw [State.cmd, State.setMc_te, hte]; exact hc)

/-! # The completion of a fill -/

/-- TC once a fill is complete with its records in its way (R82, R88). -/
def TagCache.filled (tc : TagCache) (f : Fill) (recs : TagLine) (write : Bool) : TagCache :=
  let tc1 := { tc.putValid f.way f.line recs with fills := tc.fills.filter fun x => x.line != f.line }
  if write then tc1.pushWrite f.line recs else tc1

theorem filled_of_tc {s x : State} {f : Fill} {recs : TagLine} {write : Bool} (h : x.tc = s.tc.filled f recs write) :
    Filled s x f recs write := by
  have hset (k : Nat) : x.tc.set k = (s.tc.putValid f.way f.line recs).set k := by
    rw [h, TagCache.filled]
    cases write <;> rfl
  refine ⟨?_, fun k hk => ?_, ?_, ?_, ?_, ?_⟩
  · rw [hset, putValid_set, if_pos rfl]
    rfl
  · rw [hset, putValid_set, if_neg hk]
  all_goals cases write <;> simp [h, TagCache.filled, TagCache.pushWrite, TagCache.putValid, TagCache.putSet]

/-- HANDOFF goes on where the engine has installed the line of a fill (R88). -/
def State.handedOff (s : State) : State :=
  match s.currentCmd with
  | some (w, c) => s.installed w c.command
  | none => s

theorem handedOff_tc (s : State) : s.handedOff.tc = s.tc := by
  unfold State.handedOff
  split <;> simp

theorem fillTaken_finishFill (s : State) (f : Fill) (read : TagLine) (lost : List Nat) :
    FillTaken s (s.finishFill f (f.install.getD read) (f.install.isSome || !lost.isEmpty)
      (if f.install.isSome then [] else lost)) f read (if f.install = none then lost else []) := by
  cases hi : f.install with
  | none =>
    refine ⟨(s.setTc (s.tc.filled f read !lost.isEmpty)).lostTags f.line f.origin lost, ?_, ?_⟩
    · simp only [State.finishFill, hi, Option.isSome_none, Bool.false_or, Bool.false_eq_true, if_false, Option.getD_none]
      rfl
    · rw [hi]
      have hwrite : decide (lost ≠ []) = !lost.isEmpty := by cases lost <;> rfl
      simp only [if_true]
      rw [hwrite]
      exact ⟨filled_of_tc (by simp), lossReported_lostTags (onlyChanges_setTc s _) lost⟩
  | some recs =>
    refine ⟨(s.setTc (s.tc.filled f recs true)).handedOff, ?_, ?_⟩
    · simp only [State.finishFill, hi, Option.isSome_some, Bool.true_or, if_true, Option.getD_some]
      split
      · next _ w c _ hcur =>
        rw [State.handedOff, show (s.setTc (s.tc.filled f recs true)).currentCmd = some (w, c) from hcur]
        rfl
      · next hno =>
        have hcur : (s.setTc (s.tc.filled f recs true)).currentCmd = none := by
          by_contra hcur
          obtain ⟨⟨w, c⟩, hwc⟩ := Option.ne_none_iff_exists'.1 hcur
          exact hno recs w c rfl hwc
        rw [State.handedOff, hcur]
        rfl
    · rw [hi]
      refine ⟨filled_of_tc (by simp [handedOff_tc]), fun w c older tail hw hc hopen hruns => ?_⟩
      have hs : Working s w c := ⟨hw, hc⟩
      obtain ⟨y, hy, hoc, hgoes⟩ := installed_goes hs (onlyChanges_setTc s (s.tc.filled f recs true)) hopen hruns
      refine ⟨y, ?_, onlyChanges_mono (onlyChanges_trans (onlyChanges_setTc s _) hoc) (by simp), hgoes⟩
      rw [State.handedOff, (hs.of_te (x := s.setTc (s.tc.filled f recs true)) rfl).currentCmd]
      exact hy

theorem fillTaken_completeFill {s : State} {f : Fill} {read : TagLine} {lost : List Nat}
    (h : (f.install = none ∧ lost = []) ∨ s.tc.writes.length < 32) :
    FillTaken s (s.completeFill f read lost) f read (if f.install = none then lost else []) := by
  rw [State.completeFill, if_pos]
  · exact fillTaken_finishFill s f read lost
  · rcases h with ⟨hi, hl⟩ | hw
    · simp [hi, hl]
    · simp [hasRoom_iff.2 hw]

theorem completeFill_held {s : State} {f : Fill} {lost : List Nat} (h : ¬ (f.install = none ∧ lost = []))
    (hw : 32 ≤ s.tc.writes.length) (read : TagLine) :
    s.completeFill f read lost = s.setTc { s.tc with held := s.tc.held ++ [.fill f.line read lost] } := by
  have hroom : s.tc.hasRoom = false := Bool.eq_false_iff.2 fun hr => by have := hasRoom_iff.1 hr; omega
  rw [State.completeFill, if_neg]
  · rfl
  · rw [hroom, Bool.or_false]
    cases hi : f.install
    · cases lost <;> simp_all
    · simp

end Sys2Proof.Machine

namespace Sys2Proof.Machine

open Sys2Proof.Safety

/-! # A fill completes (R82 to R84) -/

theorem readTags_getD (d : Dram) (c : PoolCode) (j : Nat) (read : ReadOutcome) {i : Nat} (hi : i < 4) :
    (d.readTags c j read).getD i none = readTag d c j read i := by
  simp [Dram.readTags, readTag, hi]

theorem lostPlaces_readTags (d : Dram) (c : PoolCode) (j : Nat) (read : ReadOutcome) :
    lostPlaces (d.readTags c j read) = lostIn d c j read :=
  List.filter_congr fun i hi => by rw [readTags_getD d c j read (List.mem_range.1 hi)]

theorem checkedLine_readTags (d : Dram) (c : PoolCode) (j : Nat) (read : ReadOutcome) :
    checkedLine (d.readTags c j read) = filledLine d c j read := by
  simp only [checkedLine, filledLine, readTags_getD d c j read (show 0 < 4 by decide),
    readTags_getD d c j read (show 1 < 4 by decide), readTags_getD d c j read (show 2 < 4 by decide),
    readTags_getD d c j read (show 3 < 4 by decide)]
  rfl

theorem fillHeld_eq_false {tc : TagCache} {j : Nat} (h : ∀ recs lost, Held.fill j recs lost ∉ tc.held) :
    tc.fillHeld j = false := by
  rw [TagCache.fillHeld, List.any_eq_false]
  intro x hm
  cases x with
  | fill k recs lost =>
    have hne : k ≠ j := fun he => h recs lost (he ▸ hm)
    simpa using hne
  | _ => simp

theorem exec_fillComplete {s : State} {f : Fill} {c : PoolCode} {read : ReadOutcome} (h : Reading s f)
    (hc : s.mc.poolCode = some c) (hr : read.fits 64 = true) :
    let v := s.setDram (s.dram.decay (tagLineAddress c f.line) read)
    exec (.fillComplete f.line read) s =
      .next (v.completeFill f (filledLine v.dram c f.line read) (lostIn v.dram c f.line read)).settle := by
  intro v
  obtain ⟨hreset, hfill, hstage, hheld⟩ := h
  rw [exec, execFillComplete, onEvent_of_no_reset hreset, TagCache.fill, hfill, hc]
  dsimp only
  rw [if_pos ⟨hstage, fillHeld_eq_false hheld, hr⟩, lostPlaces_readTags, checkedLine_readTags]
  rfl

/-- Settles O38: the fill is complete, or is held while the write list has no room for its line. -/
theorem fillCompletes : Obligations.FillCompletes := by
  intro s f c read h hc hr v lost recs
  refine ⟨_, exec_fillComplete h hc hr, ?_⟩
  by_cases hroom : (f.install = none ∧ lost = []) ∨ s.tc.writes.length < 32
  · rw [if_pos hroom]
    exact fillTaken_completeFill (s := v) hroom
  · rw [if_neg hroom]
    obtain ⟨hwrite, hfull⟩ := not_or.1 hroom
    exact completeFill_held (s := v) hwrite (Nat.not_lt.1 hfull) _

end Sys2Proof.Machine

namespace Sys2Proof.Machine

open Sys2Proof.Safety

/-! # The units of a tag line -/

/-- A tag line lies in whole units of its own (R2, R7). -/
theorem tagLineAddress_mod (c : PoolCode) (j : Nat) : tagLineAddress c j % 16 = 0 := by
  have hbase : ∀ c : PoolCode, privateBase c % 16 = 0 := by decide
  have := hbase c
  rw [tagLineAddress]
  omega

theorem unitsOf_one (a : Nat) : unitsOf a 16 = [a / 16] := by
  simp [unitsOf]

theorem mem_unitsOf_line {c : PoolCode} {j i : Nat} (hi : i < 4) :
    (tagLineAddress c j + 16 * i) / 16 ∈ unitsOf (tagLineAddress c j) 64 := by
  have := tagLineAddress_mod c j
  simp only [unitsOf, List.mem_map, List.mem_range]
  exact ⟨i, by omega, by omega⟩

theorem tagRecord_eq (d : Dram) (c : PoolCode) (j i : Nat) :
    d.tagRecord c (4 * j + i) = (d.record (tagLineAddress c j + 16 * i) 16 .ok).bind TagRec.ofStored := by
  rw [Dram.tagRecord, tagLineAddress]
  congr 2
  omega

theorem isBad_unit (d : Dram) (a : Nat) : d.isBad a 16 = d.badUnits.contains (a / 16) := by
  simp [Dram.isBad, unitsOf_one]

theorem read_part (d : Dram) (a : Nat) {k n m : Nat} (h : k + n ≤ m) : d.read (a + k) n = ((d.read a m).drop k).take n := by
  refine List.ext_getElem (by simp [Dram.read]; omega) fun i h1 h2 => ?_
  simp [Dram.read, Nat.add_assoc]

theorem stored_length (l : TagLine) : l.stored.length = 64 := by
  simp [TagLine.stored, TagRec.stored_length]

theorem stored_part (l : TagLine) {i : Nat} (hi : i < 4) : (l.stored.drop (16 * i)).take 16 = (l.get i).stored := by
  have hlen (r : TagRec) : r.stored.length = 16 := TagRec.stored_length r
  match i, hi with
  | 0, _ => simp [TagLine.stored, TagLine.get, hlen]
  | 1, _ => simp [TagLine.stored, TagLine.get, hlen]
  | 2, _ => simp [TagLine.stored, TagLine.get, hlen, List.drop_append, List.drop_eq_nil_of_le]
  | 3, _ => simp [TagLine.stored, TagLine.get, hlen, List.drop_append, List.drop_eq_nil_of_le]

/-- A tag line that has been written OK reads back, record by record (R7, R9). -/
theorem tagRecord_write (d : Dram) (c : PoolCode) (j : Nat) (l : TagLine) {i : Nat} (hi : i < 4) :
    (d.write (tagLineAddress c j) l.stored).tagRecord c (4 * j + i) = some (l.get i) := by
  have hgood : (d.write (tagLineAddress c j) l.stored).isBad (tagLineAddress c j + 16 * i) 16 = false := by
    rw [isBad_unit, Bool.eq_false_iff]
    intro hc
    have hm := mem_unitsOf_line (c := c) (j := j) hi
    simp [Dram.write, stored_length, hm] at hc
  obtain ⟨hread, -⟩ := writesAt_complete_ok d (tagLineAddress c j) l.stored
  have hbytes : (d.write (tagLineAddress c j) l.stored).read (tagLineAddress c j + 16 * i) 16 = (l.get i).stored := by
    rw [read_part _ _ (m := l.stored.length) (by rw [stored_length]; omega)]
    exact (congrArg (fun bs => (List.drop (16 * i) bs).take 16) hread).trans (stored_part l hi)
  rw [tagRecord_eq, Dram.record, if_neg (by simp [hgood]), hbytes]
  exact (l.get i).ofStored_stored

/-- The records of a tag line whose write completed UNCORRECTABLE are unsound (R87). -/
theorem tagRecord_damage (d : Dram) (c : PoolCode) (j : Nat) {i : Nat} (hi : i < 4) :
    (d.damage (tagLineAddress c j) 64).tagRecord c (4 * j + i) = none := by
  have hbad : (d.damage (tagLineAddress c j) 64).isBad (tagLineAddress c j + 16 * i) 16 = true := by
    have hm := mem_unitsOf_line (c := c) (j := j) hi
    rw [isBad_unit]
    by_cases hold : (tagLineAddress c j + 16 * i) / 16 ∈ d.badUnits <;> simp [Dram.damage, hold, hm]
  rw [tagRecord_eq, Dram.record, if_pos (.inr hbad)]
  rfl

/-! # The writes of tag lines and of persisted records complete -/

theorem takeTagWrite_append {older newer : List TagWrite} {w : TagWrite} (h : ∀ x ∈ older, x.line ≠ w.line) :
    takeTagWrite w.line (older ++ w :: newer) = some (w, older ++ newer) := by
  induction older with
  | nil => simp [takeTagWrite]
  | cons x older ih =>
    rw [List.cons_append, takeTagWrite, if_neg (h x List.mem_cons_self), ih fun y hy => h y (List.mem_cons_of_mem _ hy)]
    rfl

theorem takeWrite_append {older newer : List PersistWrite} {w : PersistWrite} (h : ∀ x ∈ older, x.address ≠ w.address) :
    takeWrite w.address (older ++ w :: newer) = if w.held then none else some (w, older ++ newer) := by
  induction older with
  | nil => simp [takeWrite]
  | cons x older ih =>
    rw [List.cons_append, takeWrite, if_neg (h x List.mem_cons_self), ih fun y hy => h y (List.mem_cons_of_mem _ hy)]
    cases w.held <;> rfl

/-- A fill whose line has no write left issues its read (R81, R87). -/
theorem readAfterWrite_eq (tc : TagCache) (j : Nat) :
    tc.readAfterWrite j = { tc with fills := tc.fills.map fun f =>
      if f.line = j ∧ ∀ x ∈ tc.writes, x.line ≠ j then { f with stage := .reading } else f } := by
  have hiff : tc.writing j = true ↔ ¬ ∀ x ∈ tc.writes, x.line ≠ j := by simp [TagCache.writing]
  unfold TagCache.readAfterWrite
  split
  · next h => simp [hiff.1 h]
  · next h =>
    have hnone := not_not.1 (mt hiff.2 h)
    have hline (f : Fill) : (f.line = j ∧ ∀ x ∈ tc.writes, x.line ≠ j) ↔ f.line = j := and_iff_left hnone
    simp only [hline]

/-- Settles O41: a tag line and a line of persisted records are written when their writes complete. -/
theorem writesReachDram : Obligations.WritesReachDram := by
  refine ⟨?_, fun s older newer w o hr hw hold => ?_⟩
  · intro s c older newer w o hr hc hw hold a
    let v := (s.setDram (s.dram.writeTags c w o)).setTc ({ s.tc with writes := older ++ newer }.readAfterWrite w.line)
    have hexec : exec (.writeThroughComplete w.line o) s = .next v.takeOldestHeld.settle := by
      rw [exec, execWriteThroughComplete, onEvent_of_no_reset hr, hw, takeTagWrite_append hold, hc]
    have hlen : w.recs.stored.length = 64 := stored_length _
    refine ⟨v, hexec, ⟨by simp [v], fun b hb => by cases b <;> simp_all [Block.same, v]⟩, ?_⟩
    simp only [v, readAfterWrite_eq]
    refine ⟨rfl, rfl, rfl, rfl, rfl, by simp [Dram.writeTags], ?_, ?_, ?_⟩
    · have h := onlyBytesAt_complete s.dram a w.recs.stored o
      rwa [hlen] at h
    · rintro rfl
      exact ⟨writesAt_complete_ok s.dram a w.recs.stored, fun i hi => tagRecord_write s.dram c w.line w.recs hi⟩
    · rintro rfl i hi
      have h := tagRecord_damage s.dram c w.line hi
      rw [← hlen] at h
      exact h
  · have hexec (h : Bool) (hh : w.held = h) : exec (.persistWriteComplete w.address o) s = .next (if h then s else
        (s.setDram ({ s.dram with persist := older ++ newer }.complete w.address w.bytes o)).settleChannels) := by
      rw [exec, execPersistWriteComplete, onEvent_of_no_reset hr, hw, takeWrite_append hold, hh]
      cases h <;> rfl
    refine ⟨fun hh => hexec true hh, fun hh => ⟨_, hexec false hh, onlyChanges_setDram s _, by simp, ?_, ?_⟩⟩
    · exact onlyBytesAt_complete { s.dram with persist := older ++ newer } _ _ o
    · rintro rfl
      exact writesAt_complete_ok { s.dram with persist := older ++ newer } _ _

end Sys2Proof.Machine

namespace Sys2Proof.Machine

open Sys2Proof.Safety

/-! # The scrubber goes on (R126 to R129)

`scrubSettle` first issues what can be issued, then removes finished runs, then stops its timer or issues a burst. -/

/-- The last part of `scrubSettle`: the timer stops outside ACTIVE, and a burst is issued where it can be (R127, R128). -/
def Scrubber.paced (u : Scrubber) (interval : Byte) : Scrubber :=
  (if u.headClosed then u else { u with pacing := none }).burst interval

def State.paced (s : State) : State := s.setSu (s.su.paced s.mc.scrubInterval)

theorem scrubSettle_eq {s : State} (h : s.mc.mode ≠ .suspended) :
    s.scrubSettle = (State.removeRuns (Config.runCapacity + 1) s.scrubPump.scrubPump).paced := by
  rw [State.scrubSettle, if_neg h, State.paced, Scrubber.paced]
  dsimp only
  split <;> rfl

/-- The scrubber has no whole granule to pass on, and no change to issue (R129). -/
structure AtRest (u : Scrubber) : Prop where
  write : ∀ x, u.write = some x → x.completed = 64 → u.waiting ≠ none
  waiting : ∀ x, u.waiting = some x → x.issued = true

theorem AtRest.pump {s : State} (h : AtRest s.su) : s.scrubPump = s := State.scrubPump_of_rest s h.write h.waiting

theorem AtRest.settle {s : State} (h : AtRest s.su) (hm : s.mc.mode ≠ .suspended) :
    s.scrubSettle = (State.removeRuns (Config.runCapacity + 1) s).paced := by
  rw [scrubSettle_eq hm, h.pump, h.pump]

/-- The write granule of a scrubber in which a whole granule waits for its change, not yet issued (R129). -/
def Scrubber.wholePassed (u : Scrubber) (x : WriteGranule) : Scrubber :=
  { u with write := none, waiting := some { granule := x.granule, failed := x.failed, issued := false } }

theorem advance_of_whole {u : Scrubber} {x : WriteGranule} (hx : u.write = some x) (hc : x.completed = 64)
    (hw : u.waiting = none) : u.advance = u.wholePassed x := by
  simp only [Scrubber.advance, hx, hw, hc, if_true]
  rfl

theorem advance_of_waiting {u : Scrubber} {x : WaitingChange} (hw : u.waiting = some x) : u.advance = u :=
  Scrubber.advance_of_not_whole u fun _ _ _ => by simp [hw]

/-- A change that waits is issued (R129). -/
theorem scrubPump_of_unissued {s : State} {x : WaitingChange} (hw : s.su.waiting = some x) (hi : x.issued = false)
    (hm : s.mc.mode ≠ .suspended) : s.scrubPump = s.scrubIssue x := by
  have hsame : s.setSu s.su.advance = s := by rw [advance_of_waiting hw]; rfl
  rw [State.scrubPump, hsame]
  simp only [hw, hi, Bool.false_eq_true, false_or, if_neg hm]

theorem scrubPump_of_whole {s : State} {x : WriteGranule} (hx : s.su.write = some x) (hc : x.completed = 64)
    (hw : s.su.waiting = none) : s.scrubPump = (s.setSu (s.su.wholePassed x)).scrubPump := by
  have hadv : s.su.advance = s.su.wholePassed x := advance_of_whole hx hc hw
  have hagain : (s.su.wholePassed x).advance = s.su.wholePassed x := advance_of_waiting rfl
  unfold State.scrubPump
  rw [hadv, State.setSu_su, hagain]
  rfl

theorem atRest_scrubIssue {s : State} (x : WaitingChange) (hw : s.su.write = none) : AtRest (s.scrubIssue x).su :=
  ⟨fun y hy => by simp [hw] at hy, State.scrubIssue_waiting s x⟩

/-- Once no change waits to be issued, one look is enough. -/
theorem scrubPump_pump {s : State} (hm : s.mc.mode ≠ .suspended) (hi : ∀ x, s.su.waiting = some x → x.issued = true) :
    s.scrubPump.scrubPump = s.scrubPump := by
  by_cases hwhole : ∃ x, s.su.write = some x ∧ x.completed = 64 ∧ s.su.waiting = none
  · obtain ⟨x, hx, hc, hw⟩ := hwhole
    rw [scrubPump_of_whole hx hc hw, scrubPump_of_unissued (s := s.setSu (s.su.wholePassed x)) (x := { granule := x.granule, failed := x.failed, issued := false })
      rfl rfl hm]
    exact (atRest_scrubIssue _ rfl).pump
  · have hrest : AtRest s.su := ⟨fun x hx hc hw => hwhole ⟨x, hx, hc, hw⟩, hi⟩
    rw [hrest.pump, hrest.pump]

theorem scrubIssue_mode (s : State) (x : WaitingChange) : (s.scrubIssue x).mc.mode = s.mc.mode := by simp

/-- A granule whose writes have completed gives its place to its change (R129). -/
theorem scrubSettle_of_whole {s : State} (hm : s.mc.mode ≠ .suspended) {x : WriteGranule} (hx : s.su.write = some x)
    (hc : x.completed = 64) (hw : s.su.waiting = none) : s.scrubSettle = (s.setSu (s.su.wholePassed x)).scrubSettle := by
  rw [scrubSettle_eq hm, scrubSettle_eq (s := s.setSu (s.su.wholePassed x)) hm, scrubPump_of_whole hx hc hw]

/-- A change that is not issued is issued (R129). -/
theorem scrubSettle_of_unissued {s : State} (hm : s.mc.mode ≠ .suspended) {x : WaitingChange} (hw : s.su.waiting = some x)
    (hi : x.issued = false) : s.scrubSettle = (s.scrubIssue x).scrubSettle := by
  have hum : (s.scrubIssue x).mc.mode ≠ .suspended := by rwa [scrubIssue_mode]
  rw [scrubSettle_eq hm, scrubSettle_eq hum, scrubPump_of_unissued hw hi hm,
    scrubPump_pump hum (State.scrubIssue_waiting s x)]

/-! ## The head run -/

theorem headClosed_of_open {u : Scrubber} (h : ∀ y ∈ u.runs.head?, y.isOpen = true) : u.headClosed = false := by
  unfold Scrubber.headClosed
  split
  · next r rest e => simp [h r (by simp [e])]
  · rfl

theorem burst_of_not_closed {u : Scrubber} (h : u.headClosed = false) (interval : Byte) : u.burst interval = u := by
  rw [Scrubber.burst, h, Bool.not_false, Bool.or_true, if_pos rfl]

/-- With an open head or an empty list the timer stops (R127). -/
theorem scrubSettle_of_open {s : State} (hm : s.mc.mode ≠ .suspended) (hr : AtRest s.su)
    (h : ∀ y ∈ s.su.runs.head?, y.isOpen = true) : s.scrubSettle = s.setSu { s.su with pacing := none } := by
  have hclosed : s.su.headClosed = false := headClosed_of_open h
  have hruns : State.removeRuns (Config.runCapacity + 1) s = s := State.removeRuns_of_head _ s fun r rest e => .inl (h r (by simp [e]))
  rw [hr.settle hm, hruns, State.paced, Scrubber.paced, hclosed, if_neg Bool.false_ne_true, burst_of_not_closed]
  exact hclosed

/-- With a closed head that holds granules a burst is issued where it can be (R128). -/
theorem scrubSettle_of_closed {s : State} (hm : s.mc.mode ≠ .suspended) (hr : AtRest s.su) {head : Run} {rest : List Run}
    (hruns : s.su.runs = head :: rest) (ho : head.isOpen = false) (hc : 0 < head.count) :
    s.scrubSettle =
      if s.su.pacing ≠ none then s
      else
        match s.su.write with
        | some x =>
          if x.bursts < 4 ∧ x.completed = 16 * x.bursts then
            s.setSu { s.su with
              write := some { x with bursts := x.bursts + 1, inFlight := (List.range 16).map fun k => 16 * x.bursts + k }
              pacing := some s.mc.scrubInterval }
          else s
        | none =>
          if (if s.su.waiting = none then 0 else 1) < head.count then
            s.setSu { s.su with
              write := some { granule := head.first + if s.su.waiting = none then 0 else 1, bursts := 1, completed := 0,
                              inFlight := List.range 16, failed := false }
              pacing := some s.mc.scrubInterval }
          else s := by
  have hclosed : s.su.headClosed = true := by
    simp only [Scrubber.headClosed, hruns, ho, Bool.not_false, Bool.true_and, bne_iff_ne, ne_eq]
    omega
  have hsame : State.removeRuns (Config.runCapacity + 1) s = s := State.removeRuns_of_head _ s fun r t e => by
    rw [hruns] at e
    cases e
    exact .inr (by omega)
  rw [hr.settle hm, hsame, State.paced, Scrubber.paced, hclosed, if_pos rfl, Scrubber.burst, hclosed]
  cases hp : s.su.pacing with
  | some b =>
    rw [if_pos (by simp), if_pos (by simp)]
    rfl
  | none =>
    rw [if_neg (by simp), if_neg (by simp)]
    cases hx : s.su.write with
    | some x =>
      dsimp only
      split
      · rfl
      · rfl
    | none =>
      have hskip : (if s.su.waiting.isSome then 1 else 0) = if s.su.waiting = none then 0 else 1 := by
        cases s.su.waiting <;> rfl
      simp only [Scrubber.nextGranule, hruns, ho, Bool.not_false, Bool.true_and, hskip]
      by_cases hlt : (if s.su.waiting = none then 0 else 1) < head.count
      · rw [if_pos hlt, if_pos (by simpa using hlt)]
        rfl
      · rw [if_neg hlt, if_neg (by simpa using hlt)]
        rfl

end Sys2Proof.Machine

namespace Sys2Proof.Machine

open Sys2Proof.Safety

/-! # A command's entry to NOTIFY leaves the scrubber, the engine's work and the walk apart -/

/-- A state with another scrubber, another engine and another phase of recovery. -/
def State.withParts (s : State) (su : Scrubber) (te : Engine) (r : Option Recovery) : State :=
  ((s.setSu su).setTe te).setMc { s.mc with recovery := r }

section
variable (s : State) (su : Scrubber) (te : Engine) (r : Option Recovery)

theorem writeShare_withParts (i : ShareIx) (e : ShareEntry) :
    (s.withParts su te r).writeShare i e = (s.writeShare i e).withParts su te r := by
  have hpool : (s.withParts su te r).mc.poolCode = s.mc.poolCode := rfl
  unfold State.writeShare State.persistShare State.persistShareLine
  cases hp : s.mc.poolCode with
  | none => simp [State.withParts, hp]; rfl
  | some c => simp [State.withParts, hp]; rfl

theorem writeDomain_withParts (d : DomainId) (x : DomainRec) :
    (s.withParts su te r).writeDomain d x = (s.writeDomain d x).withParts su te r := by
  unfold State.writeDomain State.persistDomain State.persistDomainLine
  cases hp : s.mc.poolCode with
  | none => simp [State.withParts, hp]; rfl
  | some c => simp [State.withParts, hp]; rfl

theorem freeShares_withParts (d : DomainId) : (s.withParts su te r).freeShares d = (s.freeShares d).withParts su te r := by
  unfold State.freeShares
  generalize List.range Config.shareCount = l
  induction l generalizing s with
  | nil => rfl
  | cons i l ih =>
    rw [List.foldl_cons, List.foldl_cons, ← ih]
    congr 1
    dsimp only
    rw [show (s.withParts su te r).share (BitVec.ofNat 8 i) = s.share (BitVec.ofNat 8 i) from rfl]
    split
    · rw [writeShare_withParts]
    · rfl

theorem markFormatted_withParts : (s.withParts su te r).markFormatted = s.markFormatted.withParts su te r := by
  unfold State.markFormatted
  cases hp : s.mc.poolCode with
  | none => simp [State.withParts, hp]; rfl
  | some c => simp [State.withParts, hp, State.persistHeader]; rfl

theorem finishKind_withParts (c : Command) (st : Completion) :
    (s.withParts su te r).finishKind c st = (s.finishKind c st).withParts su te r := by
  cases c with
  | retire d moved =>
    simp only [State.finishKind]
    split
    · rfl
    · rw [State.closeRetired, State.closeRetired, freeShares_withParts, writeDomain_withParts]
  | format kept =>
    simp only [State.finishKind]
    split
    · rfl
    · exact markFormatted_withParts s su te r
  | _ => rfl

theorem placeNotice_withParts (n : Notice) :
    (s.withParts su te r).placeNotice n = (s.placeNotice n).withParts su te r := by
  rw [placeNotice_eq, placeNotice_eq]
  rfl

end

/-- A command enters NOTIFY with other parts beside it. -/
theorem notify_withParts {s : State} {su : Scrubber} {te : Engine} {r : Option Recovery} {k : Ticket} {c c' : Cmd}
    (hc : s.cmd k = some c) (hc' : (s.withParts su te r).cmd k = some c') (hcommand : c'.command = c.command)
    (hdone : c'.doneCount = c.doneCount) (hpoison : c'.poisonedCount = c.poisonedCount) (st : Completion) :
    (s.withParts su te r).notify k st =
      (s.notify k st).withParts su ((s.withParts su te r).slotNotified k st).te r := by
  have hslot : (s.withParts su te r).slotNotified k st =
      (s.slotNotified k st).withParts su ((s.withParts su te r).slotNotified k st).te r := rfl
  rw [notify_of_cmd hc', notify_of_cmd hc, hcommand, hdone, hpoison, ← placeNotice_withParts, ← finishKind_withParts, ← hslot]

theorem notify_te {s : State} {k : Ticket} {c : Cmd} (h : s.cmd k = some c) (st : Completion) :
    (s.notify k st).te = (s.slotNotified k st).te := by
  rw [notify_of_cmd h]
  simp

/-! # A freed place of the scrub list (R125) -/

/-- The engine's own record once the engine has opened a run that it waited for. -/
def Engine.opens (te : Engine) (w : Work) : Engine :=
  { te with
    table := te.table.map fun c => if c.ticket = w.ticket then { c with runs := c.runs + 1 } else c
    current := some { w with runOpened := true, runOpen := true, placeWait := false } }

/-- The scrub list with an open run of count 0 at its tail. -/
def Scrubber.appended (u : Scrubber) (first : Nat) (t : Option Ticket) : Scrubber :=
  { u with runs := u.runs ++ [{ first := first, count := 0, ticket := t, isOpen := true }] }

theorem placeFreed_of_engine {s : State} {w : Work} (hw : s.te.current = some w) (hp : w.placeWait = true) :
    s.placeFreed = s.withParts (s.su.appended w.cursor (some w.ticket)) (s.te.opens w) s.mc.recovery := by
  simp only [State.placeFreed, hw, hp, if_true, State.engineOpens, State.updateWork, State.updateCmd, State.appendRun]
  simp [State.withParts, Engine.opens, Scrubber.appended, hw]
  rfl

theorem placeFreed_of_busy {s : State} {w : Work} (hw : s.te.current = some w) (hp : w.placeWait = false) :
    s.placeFreed = s := by
  simp [State.placeFreed, hw, hp]

theorem placeFreed_of_walk {s : State} {w : Walk} (hn : s.te.current = none) (hr : s.mc.recovery = some (.walk w))
    (hp : w.placeWait = true) :
    s.placeFreed = s.withParts (s.su.appended w.cursor none) s.te
      (some (.walk { w with runOpen := true, placeWait := false })) := by
  simp only [State.placeFreed, hn, hr, hp, if_true, State.appendRun]
  rfl

theorem placeFreed_of_none {s : State} (hn : s.te.current = none)
    (hr : ∀ w, s.mc.recovery = some (.walk w) → w.placeWait = false) : s.placeFreed = s := by
  unfold State.placeFreed
  rw [hn]
  dsimp only
  split
  · next w hw => rw [if_neg (by simp [hr w hw])]
  · rfl

theorem opens_slotNotified {s : State} {su : Scrubber} {r : Option Recovery} {w : Work} {k : Ticket} (hne : w.ticket ≠ k)
    (st : Completion) :
    (s.slotNotified k st).te.opens w = ((s.withParts su (s.te.opens w) r).slotNotified k st).te := by
  simp only [Engine.opens, State.slotNotified, State.setTe_te, List.map_map, State.withParts, State.setMc_te]
  congr 1
  · refine List.map_congr_left fun c _ => ?_
    by_cases hk : c.ticket = k
    · have hw : k ≠ w.ticket := hne.symm
      simp [hk, hw, notified]
    · by_cases hw : c.ticket = w.ticket <;> simp [hk, hw, hne]
  · rw [Option.filter_some, if_pos (by simpa using hne)]

/-- A command other than the engine's enters NOTIFY before a freed place is taken, or after. -/
theorem placeFreed_notify {s : State} {k : Ticket} {c : Cmd} (hc : s.cmd k = some c)
    (hne : ∀ w, s.te.current = some w → w.ticket ≠ k) (st : Completion) :
    (s.notify k st).placeFreed = s.placeFreed.notify k st := by
  have hmc : (s.notify k st).mc.recovery = s.mc.recovery := by simp
  have hsu : (s.notify k st).su = s.su := by simp
  cases hcur : s.te.current with
  | some w =>
    have hcur' : (s.notify k st).te.current = some w := by
      rw [notify_current hc, hcur]
      simp [hne w hcur]
    cases hp : w.placeWait with
    | false => rw [placeFreed_of_busy hcur hp, placeFreed_of_busy hcur' hp]
    | true =>
      have hc' : (s.withParts (s.su.appended w.cursor (some w.ticket)) (s.te.opens w) s.mc.recovery).cmd k = some c := by
        refine (State.updateCmd_cmd s w.ticket k (fun c => { c with runs := c.runs + 1 }) fun _ => rfl).trans ?_
        rw [if_neg (hne w hcur).symm, hc]
      rw [placeFreed_of_engine hcur hp, placeFreed_of_engine hcur' hp, notify_withParts hc hc' rfl rfl rfl, hmc, hsu]
      refine congrArg (fun te => (s.notify k st).withParts (s.su.appended w.cursor (some w.ticket)) te s.mc.recovery) ?_
      rw [notify_te hc]
      exact opens_slotNotified (hne w hcur) st
  | none =>
    have hcur' : (s.notify k st).te.current = none := by
      rw [notify_current hc, hcur]
      rfl
    by_cases hwalk : ∃ w, s.mc.recovery = some (.walk w) ∧ w.placeWait = true
    · obtain ⟨w, hw, hp⟩ := hwalk
      have hc' : (s.withParts (s.su.appended w.cursor none) s.te
          (some (.walk { w with runOpen := true, placeWait := false }))).cmd k = some c := hc
      rw [placeFreed_of_walk hcur hw hp, placeFreed_of_walk hcur' (hmc.trans hw) hp, notify_withParts hc hc' rfl rfl rfl, hsu,
        notify_te hc]
      rfl
    · have hno : ∀ w, s.mc.recovery = some (.walk w) → w.placeWait = false :=
        fun w hw => Bool.eq_false_iff.2 fun hp => hwalk ⟨w, hw, hp⟩
      rw [placeFreed_of_none hcur hno, placeFreed_of_none hcur' fun w hw => hno w (hmc.symm.trans hw)]

end Sys2Proof.Machine

namespace Sys2Proof.Machine

open Sys2Proof.Safety

/-! # A finished run leaves the scrub list (R108, R125, R126, R131) -/

/-- The scrub list without its head run, which no longer counts among the runs of its command. -/
def State.runGone (s : State) (head : Run) (rest : List Run) : State :=
  match head.ticket with
  | none => s.setSu { s.su with runs := rest }
  | some t => (s.setSu { s.su with runs := rest }).updateCmd t fun c => { c with runs := c.runs - 1 }

theorem runGone_spec (s : State) (head : Run) (rest : List Run) :
    OnlyChanges [.su, .te] s (s.runGone head rest) ∧ (s.runGone head rest).su = { s.su with runs := rest } ∧
      (s.runGone head rest).te.counter = s.te.counter ∧ (s.runGone head rest).te.current = s.te.current ∧
      ∀ t : Ticket, (s.runGone head rest).cmd t = (s.cmd t).map fun c =>
        { c with runs := c.runs - if head.ticket = some t then 1 else 0 } := by
  have hsu : OnlyChanges [.su] s (s.setSu { s.su with runs := rest }) :=
    ⟨rfl, fun b hb => by cases b <;> simp_all [Block.same]⟩
  unfold State.runGone
  cases ht : head.ticket with
  | none =>
    refine ⟨onlyChanges_mono hsu (by simp), rfl, rfl, rfl, fun t => ?_⟩
    simp [State.cmd]
  | some k =>
    refine ⟨onlyChanges_trans hsu (onlyChanges_updateCmd _ _ _), rfl, rfl, rfl, fun t => ?_⟩
    refine (State.updateCmd_cmd (s.setSu { s.su with runs := rest }) k t (fun c => { c with runs := c.runs - 1 })
      fun _ => rfl).trans ?_
    by_cases h : t = k
    · subst h
      simp only [if_true]
      rfl
    · have hk : k ≠ t := fun he => h he.symm
      simp only [if_neg h, Option.some.injEq, if_neg hk, Nat.sub_zero]
      exact Option.map_id'.symm

theorem onlyChanges_withParts (s : State) (su : Scrubber) (te : Engine) (r : Option Recovery) :
    OnlyChanges [.su, .te, .mc] s (s.withParts su te r) :=
  ⟨rfl, fun b hb => by
    cases b with
    | su | te | mc => simp at hb
    | _ => exact rfl⟩

theorem cmd_opens (s : State) (w : Work) (t : Ticket) (su : Scrubber) (r : Option Recovery) :
    (s.withParts su (s.te.opens w) r).cmd t = (s.cmd t).map fun c => { c with runs := c.runs + if w.ticket = t then 1 else 0 } := by
  refine (State.updateCmd_cmd s w.ticket t (fun c => { c with runs := c.runs + 1 }) fun _ => rfl).trans ?_
  by_cases h : t = w.ticket
  · simp [h]
  · have hk : w.ticket ≠ t := fun he => h he.symm
    simp only [if_neg h, if_neg hk, Nat.add_zero]
    exact Option.map_id'.symm

/-- The run has left, and the one that waits for a place has it. -/
theorem runRemoved_placeFreed (s : State) (head : Run) (rest : List Run) :
    RunRemoved s (s.runGone head rest).placeFreed head rest := by
  obtain ⟨hoc, hsu, hcount, hcur, hcmd⟩ := runGone_spec s head rest
  have hmc : (s.runGone head rest).mc = s.mc := hoc.2 .mc (by simp)
  have hsame : (s.runGone head rest).placeFreed = s.runGone head rest → placeTaker s = none →
      (∀ w, s.te.current = some w → w.placeWait = false) → RunRemoved s (s.runGone head rest).placeFreed head rest := by
    intro he ht hw
    rw [he]
    refine ⟨onlyChanges_mono hoc (by simp), by simp [hsu, ht], fun t => by simp [hcmd, ht], hcount, ?_, ?_⟩
    · rw [hcur]
      cases hc : s.te.current with
      | none => rfl
      | some w => simp [hw w hc]
    · rw [hmc, ht]
  have hparts (su : Scrubber) (te : Engine) (r : Option Recovery) :
      OnlyChanges [.su, .te, .mc] s ((s.runGone head rest).withParts su te r) :=
    onlyChanges_mono (onlyChanges_trans hoc (onlyChanges_withParts _ su te r)) (by simp)
  cases hc : s.te.current with
  | some w =>
    rw [hc] at hcur
    cases hp : w.placeWait with
    | false =>
      refine hsame (placeFreed_of_busy hcur hp) (by simp [placeTaker, hc, hp]) fun w' hw' => ?_
      cases hw'.symm.trans hc
      exact hp
    | true =>
      have ht : placeTaker s = some (w.cursor, some w.ticket) := by simp [placeTaker, hc, hp]
      rw [placeFreed_of_engine hcur hp]
      refine ⟨hparts _ _ _, ?_, fun t => ?_, hcount, ?_, ?_⟩
      · simp [State.withParts, Scrubber.appended, hsu, ht]
      · rw [cmd_opens, hcmd, Option.map_map, ht]
        congr 1
        funext c
        simp
      · simp [State.withParts, Engine.opens, hc, hp]
      · simp [State.withParts, hmc, ht]
  | none =>
    rw [hc] at hcur
    by_cases hwalk : ∃ w, s.mc.recovery = some (.walk w) ∧ w.placeWait = true
    · obtain ⟨w, hw, hp⟩ := hwalk
      have ht : placeTaker s = some (w.cursor, none) := by simp [placeTaker, hc, hw, hp]
      rw [placeFreed_of_walk hcur (by rw [hmc]; exact hw) hp]
      refine ⟨hparts _ _ _, ?_, fun t => ?_, hcount, ?_, ?_⟩
      · simp [State.withParts, Scrubber.appended, hsu, ht]
      · refine (hcmd t).trans ?_
        simp [ht]
      · simpa [State.withParts, hc] using hcur
      · simp [State.withParts, hmc, ht, hw]
    · have hno : ∀ w, s.mc.recovery = some (.walk w) → w.placeWait = false :=
        fun w hw => Bool.eq_false_iff.2 fun hp => hwalk ⟨w, hw, hp⟩
      have ht : placeTaker s = none := by
        unfold placeTaker
        rw [hc]
        cases hr : s.mc.recovery with
        | none => rfl
        | some r =>
          cases r with
          | walk w => simp [hno w hr]
          | _ => rfl
      refine hsame (placeFreed_of_none hcur fun w hw => hno w (by rw [← hmc]; exact hw)) ht ?_
      simp [hc]

end Sys2Proof.Machine

namespace Sys2Proof.Machine

open Sys2Proof.Safety

/-! # The removal of a finished run, with the report to its command (R108, R126, R131) -/

/-- The run is the last one outstanding of a command whose HANDOFF has ended (R108). -/
def LastRun (s : State) (head : Run) (t : Ticket) (c : Cmd) : Prop :=
  head.ticket = some t ∧ s.cmd t = some c ∧ c.phase = .scrub ∧ c.runs ≤ 1

/-- The list without its head run, and the report of its removal. -/
def State.runLeft (s : State) (head : Run) (rest : List Run) : State :=
  ((s.setSu { s.su with runs := rest }).reportRun head.ticket).placeFreed

theorem runGone_cmd_own {s : State} {head : Run} {t : Ticket} {c : Cmd} (rest : List Run) (ht : head.ticket = some t)
    (hc : s.cmd t = some c) : (s.runGone head rest).cmd t = some { c with runs := c.runs - 1 } := by
  rw [(runGone_spec s head rest).2.2.2.2 t, hc, ht]
  simp

theorem runGone_of_ticket {s : State} {head : Run} {t : Ticket} (rest : List Run) (ht : head.ticket = some t) :
    s.runGone head rest = (s.setSu { s.su with runs := rest }).updateCmd t fun c => { c with runs := c.runs - 1 } := by
  simp only [State.runGone, ht]

theorem reportRun_of_last {s : State} {head : Run} {t : Ticket} {c : Cmd} (rest : List Run) (h : LastRun s head t c) :
    (s.setSu { s.su with runs := rest }).reportRun head.ticket = (s.runGone head rest).notify t (doneOf c) := by
  obtain ⟨ht, hc, hp, hr⟩ := h
  have hown : (s.runGone head rest).cmd t = some { c with runs := c.runs - 1 } := runGone_cmd_own rest ht hc
  have hnotify := notifyDone_of_cmd hown
  have hzero : c.runs - 1 = 0 := by omega
  rw [runGone_of_ticket rest ht] at hown hnotify ⊢
  rw [ht]
  simp only [State.reportRun, hown, hp, hzero]
  exact hnotify

theorem reportRun_of_not_last {s : State} {head : Run} (rest : List Run) (h : ∀ t c, ¬ LastRun s head t c) :
    (s.setSu { s.su with runs := rest }).reportRun head.ticket = s.runGone head rest := by
  cases ht : head.ticket with
  | none => simp only [State.runGone, ht, State.reportRun]
  | some t =>
    rw [runGone_of_ticket rest ht]
    cases hc : s.cmd t with
    | none =>
      have hnone : (s.runGone head rest).cmd t = none := by
        rw [(runGone_spec s head rest).2.2.2.2 t, hc]
        rfl
      rw [runGone_of_ticket rest ht] at hnone
      simp only [State.reportRun, hnone]
    | some c =>
      have hown : (s.runGone head rest).cmd t = some { c with runs := c.runs - 1 } := runGone_cmd_own rest ht hc
      rw [runGone_of_ticket rest ht] at hown
      have hno : ¬ (c.runs - 1 = 0 ∧ c.phase = .scrub) := fun ⟨hz, hp⟩ => h t c ⟨ht, hc, hp, by omega⟩
      simp only [State.reportRun, hown, if_neg hno]

/-- The engine's command is never one that waits for its runs, so that it is not the one that completes here. -/
theorem runLeft_of_last {s : State} {head : Run} {t : Ticket} {c : Cmd} (rest : List Run) (h : LastRun s head t c)
    (he : ∀ w c, s.te.current = some w → s.cmd w.ticket = some c → c.phase ≠ .scrub) :
    s.runLeft head rest = (s.runGone head rest).placeFreed.notify t (doneOf c) := by
  obtain ⟨ht, hc, hp, hr⟩ := id h
  rw [State.runLeft, reportRun_of_last rest h]
  refine placeFreed_notify (runGone_cmd_own rest ht hc) (fun w hw htw => ?_) _
  rw [(runGone_spec s head rest).2.2.2.1] at hw
  exact he w c hw (htw ▸ hc) hp

theorem runLeft_of_not_last {s : State} {head : Run} (rest : List Run) (h : ∀ t c, ¬ LastRun s head t c) :
    s.runLeft head rest = (s.runGone head rest).placeFreed := by
  rw [State.runLeft, reportRun_of_not_last rest h]

theorem placeFreed_su (s : State) : s.placeFreed.su = { s.su with runs := s.placeFreed.su.runs } := by
  unfold State.placeFreed
  split
  · split
    · simp [State.engineOpens, State.appendRun, State.updateCmd, State.updateWork]
    · rfl
  · split
    · split
      · simp [State.appendRun]
      · rfl
    · rfl

theorem runLeft_keeps (s : State) (head : Run) (rest : List Run) :
    (s.runLeft head rest).su.write = s.su.write ∧ (s.runLeft head rest).su.waiting = s.su.waiting ∧
      (s.runLeft head rest).su.pacing = s.su.pacing ∧ (s.runLeft head rest).mc.mode = s.mc.mode ∧
      (finishedRuns (s.runLeft head rest).su.runs).length = (finishedRuns rest).length := by
  refine ⟨?_, ?_, ?_, ?_, ?_⟩
  · rw [State.runLeft, placeFreed_su]
    simp
  · rw [State.runLeft, placeFreed_su]
    simp
  · rw [State.runLeft, placeFreed_su]
    simp
  · simp [State.runLeft]
  · rw [State.runLeft, State.placeFreed_finishedRuns]
    simp

theorem finishedRuns_length (l : List Run) : (finishedRuns l).length ≤ l.length :=
  (List.takeWhile_sublist (l := l) fun r : Run => !r.isOpen && r.count == 0).length_le

/-- An empty closed run at the head is removed, and the scrubber looks at the next (R126). -/
theorem scrubSettle_of_finished {s : State} (hm : s.mc.mode ≠ .suspended) (hr : AtRest s.su) {head : Run} {rest : List Run}
    (hruns : s.su.runs = head :: rest) (ho : head.isOpen = false) (hc : head.count = 0)
    (hfew : (finishedRuns rest).length ≤ Config.runCapacity) : s.scrubSettle = (s.runLeft head rest).scrubSettle := by
  obtain ⟨hwrite, hwaiting, -, hmode, hfinished⟩ := runLeft_keeps s head rest
  have hrest : AtRest (s.runLeft head rest).su := ⟨by rw [hwrite, hwaiting]; exact hr.write, by rw [hwaiting]; exact hr.waiting⟩
  have hstep : State.removeRuns (Config.runCapacity + 1) s = State.removeRuns Config.runCapacity (s.runLeft head rest) := by
    rw [State.removeRuns, hruns]
    simp only [ho, hc, Bool.not_false, Bool.true_and, beq_self_eq_true, if_true]
    rfl
  have hbound : State.removeRuns Config.runCapacity (s.runLeft head rest) =
      State.removeRuns (Config.runCapacity + 1) (s.runLeft head rest) :=
    State.removeRuns_bound _ _ _ (by omega) (by omega)
  rw [hr.settle hm, hrest.settle (by rwa [hmode]), hstep, hbound]

/-- What the removal of a finished run leaves, and when its command enters NOTIFY. -/
theorem runLeft_spec {s : State} {head : Run} (rest : List Run)
    (he : ∀ w c, s.te.current = some w → s.cmd w.ticket = some c → c.phase ≠ .scrub) :
    ∃ u v, s.runLeft head rest = u ∧ RunRemoved s v head rest ∧
      (∀ t c, LastRun s head t c → u = v.notify t (doneOf c)) ∧ ((∀ t c, ¬ LastRun s head t c) → u = v) :=
  ⟨_, (s.runGone head rest).placeFreed, rfl, runRemoved_placeFreed s head rest, fun _ _ h => runLeft_of_last rest h he,
    fun h => runLeft_of_not_last rest h⟩

end Sys2Proof.Machine

namespace Sys2Proof.Machine

open Sys2Proof.Safety

/-! # Changes held by a full write list (R86) -/

theorem change_of_full {s : State} (h : 32 ≤ s.tc.writes.length) (party : Party) (g : Nat) (r : TagRec)
    (taken refused held : State → State) :
    s.change party g true r taken refused held = held (s.setTc (s.tc.hold (.change party (lineOf g)))) := by
  have hroom : ¬ s.tc.hasRoom = true := fun hr => by have := hasRoom_iff.1 hr; omega
  rw [State.change, if_pos rfl, if_neg hroom]

/-- What waits for room stands at the end of the list, and the line's set alone has another order. -/
theorem holds_of_tc {s t u : State} {j : Nat} (hr : OnlyRecency s t j) {h : Held} (hu : u.tc = t.tc.hold h) :
    Holds s u j h := by
  obtain ⟨hfills, hstalled, hwrites, hheld, hother, hperm⟩ := hr
  have hset (k : Nat) : (t.tc.hold h).set k = t.tc.set k := rfl
  refine ⟨by rw [hu, TagCache.hold, hheld], ?_⟩
  simp only [OnlyRecency, hu, State.setTc_tc]
  exact ⟨hfills, hstalled, hwrites, trivial, hother, hperm⟩

/-- The scrubber's change of a scrubbed granule waits for room (R86, R129). -/
theorem scrubIssue_held {s : State} {x : WaitingChange} {line : TagLine} (hc : Cached s (x.granule / 4) line)
    (hk : (line.get (x.granule % 4)).tag.kind = .scrubbing) (hw : 32 ≤ s.tc.writes.length) :
    OnlyChanges [.tc, .su] s (s.scrubIssue x) ∧
      Holds s (s.scrubIssue x) (x.granule / 4) (.change .scrubber (x.granule / 4)) ∧
        (s.scrubIssue x).su = { s.su with waiting := some { x with issued := true } } := by
  let v := s.setSu { s.su with waiting := some { x with issued := true } }
  have hcv : Cached v (x.granule / 4) line := cached_of_tc rfl hc
  have hrec : OnlyRecency v (v.recent (x.granule / 4) line) (x.granule / 4) := onlyRecency_recent hcv
  have hfull : 32 ≤ (v.recent (x.granule / 4) line).tc.writes.length := by rw [recent_writes hcv]; exact hw
  obtain ⟨tc, htc⟩ := v.recent_eq (x.granule / 4) line
  have hu : s.scrubIssue x = (v.recent (x.granule / 4) line).setTc
      ((v.recent (x.granule / 4) line).tc.hold (.change .scrubber (x.granule / 4))) := by
    rw [scrubIssue_of_cached hc, State.scrubAct]
    cases ht : (line.get (x.granule % 4)).tag with
    | scrubbing o t =>
      dsimp only
      rw [change_of_full hfull]
      rfl
    | _ => simp [ht, Tag.kind] at hk
  refine ⟨?_, holds_of_tc (onlyRecency_of_tc rfl rfl hrec) (by rw [hu]; rfl), by rw [hu, htc]; rfl⟩
  rw [hu, htc]
  exact ⟨rfl, fun b hb => by
    cases b with
    | su | tc => simp at hb
    | _ => exact rfl⟩

/-! # Zero writes and the pacing timer (R128, R132) -/

/-- The write granule after one of its writes has completed, and the bytes it has stored (R128). -/
def State.lineZeroed (s : State) (x : WriteGranule) (line : Nat) (o : MemOutcome) : State :=
  (s.setDram (s.dram.complete (4096 * x.granule + 64 * line) (List.replicate 64 0) o)).setSu
    { s.su with write := some { x with
      completed := x.completed + 1, inFlight := x.inFlight.filter (fun k => k != line)
      failed := x.failed || decide (o = .uncorrectable) } }

theorem exec_scrubWriteComplete {s : State} {x : WriteGranule} {line : Nat} (hr : s.mc.inReset = none)
    (hx : s.su.write = some x) (hl : line ∈ x.inFlight) (o : MemOutcome) :
    exec (.scrubWriteComplete line o) s = .next (s.lineZeroed x line o).settle := by
  have hcompletes : x.completes line o = { x with
      completed := x.completed + 1, inFlight := x.inFlight.filter (fun k => k != line)
      failed := x.failed || decide (o = .uncorrectable) } := by
    cases o <;> rfl
  rw [exec, execScrubWriteComplete, onEvent_of_no_reset hr, hx]
  dsimp only
  rw [if_pos (by simpa using hl), hcompletes]
  rfl

theorem onlyChanges_lineZeroed (s : State) (x : WriteGranule) (line : Nat) (o : MemOutcome) :
    OnlyChanges [.dram, .su] s (s.lineZeroed x line o) :=
  ⟨rfl, fun b hb => by
    cases b with
    | su | dram => simp at hb
    | _ => exact rfl⟩

theorem exec_pacingTimerExpiry {s : State} (hr : s.mc.inReset = none) (hp : s.su.pacing ≠ none) :
    exec .pacingTimerExpiry s = .next (s.setSu { s.su with pacing := none }).scrubSettle := by
  rw [exec, execPacingTimerExpiry, onEvent_of_no_reset hr, if_pos (Option.isSome_iff_ne_none.2 hp)]

/-- A scrubber in order, outside SUSPENDED and with no change that waits, has no whole granule. -/
theorem atRest_of_scrubberWf {s : State} (h : scrubberWf s) (hm : s.mc.mode ≠ .suspended) (hw : s.su.waiting = none) :
    AtRest s.su := by
  obtain ⟨-, -, hwrite⟩ := h
  refine ⟨fun x hx hc => ?_, fun x hx => by simp [hw] at hx⟩
  obtain ⟨-, hfew⟩ := hwrite x hx
  have hlt : x.completed < 64 := by simpa [hw] using hfew hm
  omega

theorem onlyChanges_setSu (s : State) (u : Scrubber) : OnlyChanges [.su] s (s.setSu u) :=
  ⟨rfl, fun b hb => by cases b <;> simp_all [Block.same]⟩

theorem pacingTimerWrites {s : State} {head : Run} {rest : List Run} (hwf : scrubberWf s) (hr : s.mc.inReset = none)
    (hm : s.mc.mode ≠ .suspended) (hp : s.su.pacing ≠ none) (hw : s.su.waiting = none)
    (hruns : s.su.runs = head :: rest) (ho : head.isOpen = false) (hc : 0 < head.count) :
    let burst (b : Nat) : List Nat := (List.range 16).map fun k => 16 * b + k
    ∃ t, exec .pacingTimerExpiry s = .next t ∧ OnlyChanges [.su] s t ∧
      (s.su.write = none →
        t.su = { s.su with
          write := some { granule := head.first, bursts := 1, completed := 0, inFlight := burst 0, failed := false }
          pacing := some s.mc.scrubInterval }) ∧
      ∀ x : WriteGranule, s.su.write = some x →
        (x.bursts < 4 → x.completed = 16 * x.bursts →
          t.su = { s.su with
            write := some { x with bursts := x.bursts + 1, inFlight := burst x.bursts }
            pacing := some s.mc.scrubInterval }) ∧
        (x.completed < 16 * x.bursts → t.su = { s.su with pacing := none }) := by
  intro burst
  have hrest : AtRest s.su := atRest_of_scrubberWf hwf hm hw
  refine ⟨_, exec_pacingTimerExpiry hr hp, ?_⟩
  rw [scrubSettle_of_closed (s := s.setSu { s.su with pacing := none }) hm ⟨hrest.write, hrest.waiting⟩ hruns ho hc,
    if_neg (by simp)]
  simp only [State.setSu_su, hw, if_true]
  cases hx : s.su.write with
  | none =>
    dsimp only
    rw [if_pos hc]
    exact ⟨onlyChanges_setSu s _, fun _ => rfl, fun x h => by simp at h⟩
  | some x =>
    dsimp only
    by_cases hgo : x.bursts < 4 ∧ x.completed = 16 * x.bursts
    · rw [if_pos hgo]
      refine ⟨onlyChanges_setSu s _, fun h => by simp at h, fun y hy => ?_⟩
      cases hy
      exact ⟨fun _ _ => rfl, fun hlt => by omega⟩
    · rw [if_neg hgo]
      refine ⟨onlyChanges_setSu s _, fun h => by simp at h, fun y hy => ?_⟩
      cases hy
      exact ⟨fun h4 hc => absurd ⟨h4, hc⟩ hgo, fun _ => rfl⟩

/-- Settles O52: the bursts of the pacing timer, what a zero write stores, and what the scrubber does in any step. -/
theorem scrubberWrites : Obligations.ScrubberWrites := by
  refine ⟨fun s head rest hwf hr hm hp hw hruns ho hc => pacingTimerWrites hwf hr hm hp hw hruns ho hc, ?_, fun s => rfl, ?_⟩
  · intro s x line o hr hx hl a
    refine ⟨_, exec_scrubWriteComplete hr hx hl o, onlyChanges_lineZeroed s x line o, rfl, by simp [State.lineZeroed], ?_, ?_⟩
    · simpa [State.lineZeroed] using onlyBytesAt_complete s.dram a (List.replicate 64 0) o
    · rintro rfl
      exact writesAt_complete_ok s.dram a (List.replicate 64 0)
  · intro s hm
    refine ⟨fun x hx hc hw => scrubSettle_of_whole hm hx hc hw, ?_, ?_⟩
    · intro x hw hi u
      have hu : u = s.scrubIssue x := scrubRetry_of_waiting hw hm
      rw [hu]
      exact ⟨scrubSettle_of_unissued hm hw hi, fun line hc hk hfull => scrubIssue_held hc hk hfull⟩
    · intro hwrite hwaiting
      have hrest : AtRest s.su := ⟨hwrite, hwaiting⟩
      refine ⟨fun ho => scrubSettle_of_open hm hrest ho, fun head rest hruns ho => ⟨?_, ?_⟩⟩
      · intro hc writes skipped
        exact scrubSettle_of_closed hm hrest hruns ho hc
      · intro hc hlen he last
        obtain ⟨u, v, hu, hv, hlast, hnot⟩ := runLeft_spec (head := head) rest he
        have hfew : (finishedRuns rest).length ≤ Config.runCapacity := by
          have := finishedRuns_length rest
          rw [hruns, List.length_cons] at hlen
          rw [show Config.runCapacity = 64 from rfl]
          omega
        exact ⟨u, v, hu ▸ scrubSettle_of_finished hm hrest hruns ho hc hfew, hv, hlast, hnot⟩

end Sys2Proof.Machine

namespace Sys2Proof.Machine

open Sys2Proof.Safety

/-! # The last write of a granule (R126, R129 to R131) -/

/-- A command credited with a granule that has left its run (R131). -/
def Cmd.credited (c : Cmd) (freed : Bool) : Cmd :=
  if freed then { c with doneCount := c.doneCount + 1 } else { c with poisonedCount := c.poisonedCount + 1 }

@[simp] theorem Cmd.credited_frame (c : Cmd) (freed : Bool) :
    (c.credited freed).ticket = c.ticket ∧ (c.credited freed).phase = c.phase ∧ (c.credited freed).runs = c.runs := by
  cases freed <;> exact ⟨rfl, rfl, rfl⟩

theorem credited_runs (c : Cmd) (freed : Bool) : { c.credited freed with runs := c.runs } = c.credited freed := by
  cases freed <;> rfl

theorem reportGranule_cmd (s : State) (g : Nat) (own : Option Ticket) (freed : Bool) :
    (s.reportGranule g own freed).te.counter = s.te.counter ∧
      ∀ t, (s.reportGranule g own freed).cmd t = (s.cmd t).map fun c => if own = some t then c.credited freed else c := by
  cases own with
  | none => exact ⟨rfl, fun t => by simp [State.reportGranule, State.updateWork, State.cmd]⟩
  | some k =>
    have hcredit : s.reportGranule g (some k) freed = (s.updateCmd k fun c => c.credited freed).updateWork
        fun w => if w.scrubWait = some g then { w with scrubWait := none } else w := by
      cases freed <;> rfl
    rw [hcredit]
    refine ⟨rfl, fun t => ?_⟩
    refine (State.updateCmd_cmd s k t (fun c => c.credited freed) fun c => c.credited_frame freed |>.1).trans ?_
    by_cases h : t = k
    · subst h
      simp
    · have hk : k ≠ t := fun he => h he.symm
      simp [h, hk]

theorem changeDone_cmd {s : State} {head : Run} {rest : List Run} (hruns : s.su.runs = head :: rest) (g : Nat) (freed : Bool) :
    (s.changeDone g freed).te.counter = s.te.counter ∧
      ∀ t, (s.changeDone g freed).cmd t = (s.cmd t).map fun c => if head.ticket = some t then c.credited freed else c := by
  rw [changeDone_eq hruns]
  exact reportGranule_cmd _ g head.ticket freed

theorem settle_of_not_suspending {s : State} (hm : s.mc.mode ≠ .suspended) (hp : s.mc.pendingTarget ≠ some .suspended) :
    s.settle = s.scrubSettle := by
  rw [State.settle, settleMode_of_not (by simpa using hm) (mt And.left (by simpa using hp))]

/-- The scrubber once the granule's change waits, not yet issued (R129). -/
def State.granuleWaits (s : State) (x : WriteGranule) (k : Nat) (o : MemOutcome) : State :=
  (s.setDram (s.dram.complete (4096 * x.granule + 64 * k) (List.replicate 64 0) o)).setSu
    { s.su with
      write := none
      waiting := some { granule := x.granule, failed := x.failed || decide (o = .uncorrectable), issued := false } }

/-- The last write of a granule: its change is issued, and the scrubber goes on (R129). -/
theorem exec_lastWrite {s : State} {x : WriteGranule} {k : Nat} (hr : s.mc.inReset = none) (hm : s.mc.mode ≠ .suspended)
    (hp : s.mc.pendingTarget ≠ some .suspended) (hx : s.su.write = some x) (hc : x.completed = 63) (hin : x.inFlight = [k])
    (hw : s.su.waiting = none) (o : MemOutcome) :
    exec (.scrubWriteComplete k o) s = .next
      ((s.granuleWaits x k o).scrubIssue
        { granule := x.granule, failed := x.failed || decide (o = .uncorrectable), issued := false }).scrubSettle := by
  have hlast : x.inFlight.filter (fun i => i != k) = [] := by simp [hin]
  rw [exec_scrubWriteComplete hr hx (by simp [hin]), settle_of_not_suspending (s := s.lineZeroed x k o) hm hp,
    scrubSettle_of_whole (s := s.lineZeroed x k o) (x := { x with
      completed := x.completed + 1, inFlight := x.inFlight.filter (fun i => i != k)
      failed := x.failed || decide (o = .uncorrectable) }) hm rfl (by simp [hc]) hw]
  rw [scrubSettle_of_unissued (s := (s.lineZeroed x k o).setSu _)
    (x := { granule := x.granule, failed := x.failed || decide (o = .uncorrectable), issued := false }) hm rfl rfl]
  rfl

/-- What the change of a granule on a cached line leaves, the write list having room for it (R129 to R131). -/
structure GranuleTaken (s v : State) (x : WriteGranule) (k : Nat) (o : MemOutcome) (line : TagLine) (head : Run)
    (rest : List Run) : Prop where
  frame : OnlyChanges [.dram, .tc, .su, .te] s v
  dram : v.dram = s.dram.complete (4096 * x.granule + 64 * k) (List.replicate 64 0) o
  rewrites : (line.get (x.granule % 4)).tag.kind = .scrubbing → Rewrites s v x.granule line
    { line.get (x.granule % 4) with
      tag := if x.failed || decide (o = .uncorrectable) then .poisoned (line.get (x.granule % 4)).tag.owner .scrubFail
        else .free }
  recency : (line.get (x.granule % 4)).tag.kind ≠ .scrubbing → OnlyRecency s v (x.granule / 4)
  su : v.su = { s.su with
    write := none, runs := { head with first := head.first + 1, count := head.count - 1 } :: rest }
  counter : v.te.counter = s.te.counter
  cmd : ∀ t : Ticket, v.cmd t = (s.cmd t).map fun c =>
    if head.ticket = some t then
      c.credited (decide ((line.get (x.granule % 4)).tag.kind = .scrubbing) && !(x.failed || decide (o = .uncorrectable)))
    else c
  current : v.te.current = s.te.current.map fun w =>
    if w.scrubWait = some x.granule then { w with scrubWait := none } else w

theorem granuleTaken {s : State} {x : WriteGranule} {k : Nat} {head : Run} {rest : List Run} {line : TagLine}
    (hw : s.su.waiting = none) (hruns : s.su.runs = head :: rest) (hc : Cached s (x.granule / 4) line)
    (hroom : (line.get (x.granule % 4)).tag.kind ≠ .scrubbing ∨ s.tc.writes.length < 32) (o : MemOutcome) :
    GranuleTaken s ((s.granuleWaits x k o).scrubIssue
      { granule := x.granule, failed := x.failed || decide (o = .uncorrectable), issued := false }) x k o line head rest := by
  let y : WaitingChange := { granule := x.granule, failed := x.failed || decide (o = .uncorrectable), issued := false }
  let v := (s.granuleWaits x k o).setSu { (s.granuleWaits x k o).su with waiting := some { y with issued := true } }
  have hv : OnlyChanges [.dram, .su] s v := ⟨rfl, fun b hb => by
    cases b with
    | dram | su => simp at hb
    | _ => exact rfl⟩
  have hcv : Cached v (x.granule / 4) line := cached_of_tc rfl hc
  obtain ⟨z, hact, hvz, hrewrites, hrecency⟩ := scrubAct_eq (v := v) (x := y) hcv hroom.symm
  have hu : (s.granuleWaits x k o).scrubIssue y = _ :=
    (scrubIssue_of_cached (s := s.granuleWaits x k o) (x := y) (cached_of_tc rfl hc)).trans hact
  have hzsu : z.su = v.su := hvz.2 .su (by simp)
  have hzte : z.te = s.te := (hvz.2 .te (by simp)).trans rfl
  have hzruns : z.su.runs = head :: rest := by rw [hzsu]; exact hruns
  obtain ⟨hoc, hsu, -, -, hcur⟩ := changeDone_spec hzruns x.granule
    (decide ((line.get (x.granule % 4)).tag.kind = .scrubbing) && !y.failed)
  obtain ⟨hcount, hcmd⟩ := changeDone_cmd hzruns x.granule
    (decide ((line.get (x.granule % 4)).tag.kind = .scrubbing) && !y.failed)
  have htc := hoc.2 .tc (by simp)
  have hdram := hoc.2 .dram (by simp)
  show GranuleTaken s ((s.granuleWaits x k o).scrubIssue y) x k o line head rest
  rw [hu]
  constructor
  case frame => exact onlyChanges_mono (onlyChanges_trans (onlyChanges_trans hv hvz) hoc) (by simp)
  case dram => exact hdram.trans (hvz.2 .dram (by simp))
  case rewrites => exact fun hk => rewrites_congr rfl htc (hrewrites hk)
  case recency => exact fun hk => onlyRecency_of_tc rfl htc (hrecency hk)
  case su =>
    rw [hsu, hzsu]
    simp only [Scrubber.granuleLeft, v, State.granuleWaits, State.setSu_su, ← hw]
  case counter => rw [hcount, hzte]
  case cmd =>
    intro t
    rw [hcmd, State.cmd, hzte]
    rfl
  case current => rw [hcur, hzte]

/-! ## The scrubber goes on with the head run -/

/-- The first burst of a granule (R128). -/
def WriteGranule.begun (g : Nat) : WriteGranule :=
  { granule := g, bursts := 1, completed := 0, inFlight := List.range 16, failed := false }

/-- The scrubber, with nothing in hand, goes on with its head run, or stops its timer (R127, R128). -/
def Scrubber.resumed (u : Scrubber) (head : Option Run) (interval : Byte) : Scrubber :=
  match head.filter (fun y => !y.isOpen) with
  | none => { u with pacing := none }
  | some y =>
    if u.pacing = none then { u with write := some (WriteGranule.begun y.first), pacing := some interval } else u

theorem scrubSettle_of_idle {s : State} (hm : s.mc.mode ≠ .suspended) (hx : s.su.write = none) (hw : s.su.waiting = none)
    (hh : ∀ y ∈ s.su.runs.head?, y.isOpen = true ∨ 0 < y.count) :
    s.scrubSettle = s.setSu (s.su.resumed s.su.runs.head? s.mc.scrubInterval) := by
  have hrest : AtRest s.su := ⟨fun x h => by simp [hx] at h, fun x h => by simp [hw] at h⟩
  by_cases hopen : ∀ y ∈ s.su.runs.head?, y.isOpen = true
  · have hnone : s.su.runs.head?.filter (fun y => !y.isOpen) = none := by
      simpa [Option.filter_eq_none_iff] using hopen
    rw [scrubSettle_of_open hm hrest hopen, Scrubber.resumed, hnone]
  · cases hr : s.su.runs with
    | nil => simp [hr] at hopen
    | cons head rest =>
      have ho : head.isOpen = false := by simpa [hr] using hopen
      have hc : 0 < head.count := by simpa [hr, ho] using hh head (by simp [hr])
      have hclosed : (some head).filter (fun y => !y.isOpen) = some head := by simp [ho]
      rw [scrubSettle_of_closed hm hrest hr ho hc, hx, Scrubber.resumed, List.head?_cons, hclosed]
      by_cases hp : s.su.pacing = none
      · rw [if_neg (not_not_intro hp)]
        simp only [if_pos hp, hw, if_true, if_pos hc]
        rfl
      · rw [if_pos hp]
        simp only [if_neg hp]
        rfl

/-- A command's entry to NOTIFY leaves the scrubber apart. -/
theorem setSu_notify {s : State} {t : Ticket} {c : Cmd} (hc : s.cmd t = some c) (su : Scrubber) (st : Completion) :
    (s.notify t st).setSu su = (s.setSu su).notify t st := by
  have h := notify_withParts (s := s) (su := su) (te := s.te) (r := s.mc.recovery) hc hc rfl rfl rfl st
  have hmc : (s.notify t st).mc.recovery = s.mc.recovery := by simp
  have hte : (s.notify t st).te = ((s.withParts su s.te s.mc.recovery).slotNotified t st).te := notify_te hc st
  have hsame : (s.notify t st).withParts su (s.notify t st).te (s.notify t st).mc.recovery = (s.notify t st).setSu su := rfl
  rw [← hsame, hmc, hte, ← h]
  rfl

end Sys2Proof.Machine

namespace Sys2Proof.Machine

open Sys2Proof.Safety

/-! # A granule leaves its run, and the run the list (R126, R129 to R131) -/

theorem notify_scrubInterval (s : State) (t : Ticket) (st : Completion) :
    (s.notify t st).mc.scrubInterval = s.mc.scrubInterval := by
  have hformatted (y : State) : y.markFormatted.mc.scrubInterval = y.mc.scrubInterval := by
    unfold State.markFormatted
    split <;> simp
  have hkind (y : State) (c : Command) : (y.finishKind c st).mc.scrubInterval = y.mc.scrubInterval := by
    cases c <;> simp only [State.finishKind] <;> split <;> simp [hformatted]
  unfold State.notify
  split
  · rfl
  · simp [hkind]

theorem placeTaker_congr {s v : State} {f : Work → Work} (hcur : v.te.current = s.te.current.map f)
    (hf : ∀ w, (f w).cursor = w.cursor ∧ (f w).ticket = w.ticket ∧ (f w).placeWait = w.placeWait) (hmc : v.mc = s.mc) :
    placeTaker v = placeTaker s := by
  unfold placeTaker
  rw [hcur, hmc]
  cases s.te.current with
  | none => rfl
  | some w =>
    obtain ⟨hcursor, hticket, hwait⟩ := hf w
    simp only [Option.map_some, hcursor, hticket, hwait]

theorem finishedRuns_of_next {rest : List Run} (h : ∀ y ∈ rest.head?, y.isOpen = true ∨ 0 < y.count) : finishedRuns rest = [] := by
  cases rest with
  | nil => rfl
  | cons y l =>
    have hy : ¬ (!y.isOpen && y.count == 0) = true := by
      obtain ho | hc := h y rfl
      · simp [ho]
      · simp only [Bool.and_eq_true, beq_iff_eq]
        omega
    exact List.takeWhile_cons_of_neg hy

/-- A run that waits for room stands behind the others. -/
theorem head?_append_taker (rest : List Run) (p : Option (Nat × Option Ticket)) :
    (rest ++ (p.map fun y => ({ first := y.1, count := 0, ticket := y.2, isOpen := true } : Run)).toList).head?.filter
      (fun y => !y.isOpen) = rest.head?.filter (fun y => !y.isOpen) := by
  cases rest with
  | nil => cases p <;> rfl
  | cons y l => rfl

theorem resumed_congr {u : Scrubber} {h h' : Option Run} (he : h.filter (fun y => !y.isOpen) = h'.filter (fun y => !y.isOpen))
    (interval : Byte) : u.resumed h interval = u.resumed h' interval := by
  rw [Scrubber.resumed, Scrubber.resumed, he]

section
variable {s v : State} {x : WriteGranule} {k : Nat} {o : MemOutcome} {line : TagLine} {head : Run} {rest : List Run}

theorem GranuleTaken.mc (g : GranuleTaken s v x k o line head rest) : v.mc = s.mc := g.frame.2 .mc (by simp)

theorem GranuleTaken.placeTaker (g : GranuleTaken s v x k o line head rest) : Safety.placeTaker v = Safety.placeTaker s :=
  placeTaker_congr g.current (fun w => by split <;> simp) g.mc

/-- The run is not the last: the scrubber goes on with its next granule. -/
theorem GranuleTaken.settle_more (g : GranuleTaken s v x k o line head rest) (hm : s.mc.mode ≠ .suspended)
    (hw : s.su.waiting = none) (hc : 2 ≤ head.count) :
    v.scrubSettle = v.setSu (v.su.resumed
      (some { head with first := head.first + 1, count := head.count - 1 }) s.mc.scrubInterval) := by
  have hruns : v.su.runs = { head with first := head.first + 1, count := head.count - 1 } :: rest := by rw [g.su]
  have h := scrubSettle_of_idle (s := v) (by rw [g.mc]; exact hm) (by rw [g.su]) (by rw [g.su]; exact hw) fun y hy => by
    rw [hruns] at hy
    cases hy
    exact .inr (by dsimp only; omega)
  rw [h, hruns, g.mc]
  rfl

theorem GranuleTaken.lastRun (g : GranuleTaken s v x k o line head rest) (t : Ticket) (c' : Cmd) :
    LastRun v { head with first := head.first + 1, count := head.count - 1 } t c' ↔
      ∃ c, LastRun s head t c ∧ c' = c.credited
        (decide ((line.get (x.granule % 4)).tag.kind = .scrubbing) && !(x.failed || decide (o = .uncorrectable))) := by
  constructor
  · rintro ⟨ht, hc, hp, hr⟩
    rw [g.cmd, Option.map_eq_some_iff] at hc
    obtain ⟨c, hc, rfl⟩ := hc
    rw [if_pos ht] at hp hr ⊢
    exact ⟨c, ⟨ht, hc, by simpa using hp, by simpa using hr⟩, rfl⟩
  · rintro ⟨c, ⟨ht, hc, hp, hr⟩, rfl⟩
    exact ⟨ht, by rw [g.cmd, hc, Option.map_some, if_pos ht], by simpa using hp, by simpa using hr⟩

/-- The run was its last: it leaves the list, its command may enter NOTIFY, and the scrubber goes on with the next run. -/
theorem GranuleTaken.settle_last (g : GranuleTaken s v x k o line head rest) (hm : s.mc.mode ≠ .suspended)
    (hw : s.su.waiting = none) (hc : head.count = 1) (ho : head.isOpen = false)
    (hnext : ∀ y ∈ rest.head?, y.isOpen = true ∨ 0 < y.count)
    (he : ∀ w c, s.te.current = some w → s.cmd w.ticket = some c → c.phase ≠ .scrub) :
    ∃ u y, v.scrubSettle = u ∧ RunRemoved v y { head with first := head.first + 1, count := head.count - 1 } rest ∧
      (∀ t c, LastRun s head t c → u = (y.setSu (y.su.resumed rest.head? s.mc.scrubInterval)).notify t (doneOf (c.credited
        (decide ((line.get (x.granule % 4)).tag.kind = .scrubbing) && !(x.failed || decide (o = .uncorrectable)))))) ∧
      ((∀ t c, ¬ LastRun s head t c) → u = y.setSu (y.su.resumed rest.head? s.mc.scrubInterval)) := by
  have hevm : v.mc.mode ≠ .suspended := by rw [g.mc]; exact hm
  have hrest : AtRest v.su := ⟨fun z hz => by simp [g.su] at hz, fun z hz => by simp [g.su, hw] at hz⟩
  have hev : ∀ w c, v.te.current = some w → v.cmd w.ticket = some c → c.phase ≠ .scrub := by
    intro w' c' hw' hc'
    rw [g.current, Option.map_eq_some_iff] at hw'
    obtain ⟨w, hwork, rfl⟩ := hw'
    rw [g.cmd, Option.map_eq_some_iff] at hc'
    obtain ⟨c, hcmd, rfl⟩ := hc'
    have hticket : (if w.scrubWait = some x.granule then { w with scrubWait := none } else w).ticket = w.ticket := by
      split <;> rfl
    rw [hticket] at hcmd ⊢
    by_cases hown : head.ticket = some w.ticket
    · rw [if_pos hown, (c.credited_frame _).2.1]
      exact he w c hwork hcmd
    · rw [if_neg hown]
      exact he w c hwork hcmd
  obtain ⟨u, y, hu, hy, hlast, hnot⟩ := runLeft_spec (s := v)
    (head := { head with first := head.first + 1, count := head.count - 1 }) rest hev
  obtain ⟨hwrite, hwaiting, -, hmode, -⟩ := runLeft_keeps v { head with first := head.first + 1, count := head.count - 1 } rest
  rw [hu] at hwrite hwaiting hmode
  obtain ⟨-, hysu, hycmd, -, -, hymc⟩ := id hy
  have hsame : u.su = y.su ∧ u.mc.scrubInterval = y.mc.scrubInterval := by
    by_cases h : ∃ t c, LastRun v { head with first := head.first + 1, count := head.count - 1 } t c
    · obtain ⟨t, c, h⟩ := h
      rw [hlast t c h]
      exact ⟨by simp, notify_scrubInterval y t _⟩
    · rw [hnot fun t c hl => h ⟨t, c, hl⟩]
      exact ⟨rfl, rfl⟩
  have hinterval : u.mc.scrubInterval = s.mc.scrubInterval := by rw [hsame.2, hymc, g.mc]
  have hfirst : ∀ z ∈ u.su.runs.head?, z.isOpen = true ∨ 0 < z.count := by
    rw [hsame.1, hysu]
    cases hr : rest with
    | nil => cases hp : Safety.placeTaker v <;> simp
    | cons z l => exact fun w hw => hnext w (by rw [hr]; exact hw)
  have hsettle : v.scrubSettle = u.setSu (y.su.resumed rest.head? s.mc.scrubInterval) := by
    rw [scrubSettle_of_finished (head := { head with first := head.first + 1, count := head.count - 1 }) hevm hrest
      (by rw [g.su]) ho (by simp [hc]) (by rw [finishedRuns_of_next hnext]; simp), hu,
      scrubSettle_of_idle (by rwa [hmode]) (by rw [hwrite, g.su]) (by rw [hwaiting, g.su]; exact hw) hfirst, hinterval, hsame.1]
    congr 1
    exact resumed_congr (by rw [hysu]; exact head?_append_taker rest _) _
  refine ⟨_, y, hsettle, hy, fun t c h => ?_, fun h => ?_⟩
  · have hl := (g.lastRun t _).2 ⟨c, h, rfl⟩
    obtain ⟨c', hc'⟩ : ∃ c', y.cmd t = some c' := by
      rw [hycmd, hl.2.1]
      exact ⟨_, rfl⟩
    rw [hlast t _ hl, setSu_notify hc']
  · rw [hnot fun t c hl => ?_]
    obtain ⟨c', hc', -⟩ := (g.lastRun t c).1 hl
    exact h t c' hc'

end

end Sys2Proof.Machine

namespace Sys2Proof.Machine

open Sys2Proof.Safety

/-! # A granule on a line that is not cached -/

/-- While a change waits, issued, the scrubber goes on with the granule after it (R128, R129). -/
theorem scrubSettle_of_issued {s : State} (hm : s.mc.mode ≠ .suspended) (hx : s.su.write = none) {x : WaitingChange}
    (hw : s.su.waiting = some x) (hi : x.issued = true) {head : Run} {rest : List Run} (hruns : s.su.runs = head :: rest)
    (ho : head.isOpen = false) (hc : 0 < head.count) :
    s.scrubSettle = if s.su.pacing = none ∧ 2 ≤ head.count then
      s.setSu { s.su with write := some (WriteGranule.begun (head.first + 1)), pacing := some s.mc.scrubInterval } else s := by
  have hrest : AtRest s.su := ⟨fun y hy => by simp [hx] at hy, fun y hy => by
    cases hw.symm.trans hy
    exact hi⟩
  have hskip : (if s.su.waiting = none then 0 else 1) = 1 := if_neg (by simp [hw])
  rw [scrubSettle_of_closed hm hrest hruns ho hc, hx, hskip]
  dsimp only
  by_cases hp : s.su.pacing = none
  · by_cases htwo : 2 ≤ head.count
    · rw [if_neg (not_not_intro hp), if_pos (show 1 < head.count from htwo), if_pos ⟨hp, htwo⟩]
      rfl
    · rw [if_neg (not_not_intro hp), if_neg (show ¬ 1 < head.count from htwo), if_neg fun h => htwo h.2]
  · rw [if_pos hp, if_neg fun h => hp h.1]

/-- The change waits, issued, for its line, and the scrubber goes on with the granule after it (R128, R129). -/
theorem lastWrite_of_not_cached {s : State} {x : WriteGranule} {k : Nat} {head : Run} {rest : List Run} (hr : s.mc.inReset = none)
    (hm : s.mc.mode ≠ .suspended) (hp : s.mc.pendingTarget ≠ some .suspended) (hx : s.su.write = some x)
    (hc : x.completed = 63) (hin : x.inFlight = [k]) (hw : s.su.waiting = none) (hruns : s.su.runs = head :: rest)
    (ho : head.isOpen = false) (hpos : 0 < head.count) (hfirst : head.first = x.granule)
    (hn : ∀ w ∈ s.tc.set (x.granule / 4), w.2.isValid (x.granule / 4) = false) (o : MemOutcome) :
    ∃ u, exec (.scrubWriteComplete k o) s = .next u ∧ OnlyChanges [.dram, .tc, .su] s u ∧
      u.dram = s.dram.complete (4096 * x.granule + 64 * k) (List.replicate 64 0) o ∧
      u.tc = (s.tc.lookup .scrubber (x.granule / 4)).1 ∧
      u.su.waiting = some { granule := x.granule, failed := x.failed || decide (o = .uncorrectable), issued := true } ∧
      u.su.runs = s.su.runs ∧
      (if s.su.pacing = none ∧ 2 ≤ head.count then
        u.su.write = some (WriteGranule.begun (x.granule + 1)) ∧ u.su.pacing = some s.mc.scrubInterval
      else u.su.write = none ∧ u.su.pacing = s.su.pacing) := by
  let change : WaitingChange := { granule := x.granule, failed := x.failed || decide (o = .uncorrectable), issued := true }
  let v := ((s.granuleWaits x k o).setTc (s.tc.lookup .scrubber (x.granule / 4)).1).setSu
    { s.su with write := none, waiting := some change }
  have hv : OnlyChanges [.dram, .tc, .su] s v := ⟨rfl, fun b hb => by
    cases b with
    | dram | tc | su => simp at hb
    | _ => exact rfl⟩
  have hissued : (s.granuleWaits x k o).scrubIssue
      { granule := x.granule, failed := x.failed || decide (o = .uncorrectable), issued := false } = v :=
    scrubIssue_of_not_cached (s := s.granuleWaits x k o)
      (x := { granule := x.granule, failed := x.failed || decide (o = .uncorrectable), issued := false }) hn
  rw [exec_lastWrite hr hm hp hx hc hin hw o, hissued,
    scrubSettle_of_issued (s := v) (x := change) hm rfl rfl rfl hruns ho hpos, ← hfirst]
  refine ⟨_, rfl, ?_⟩
  by_cases hgo : s.su.pacing = none ∧ 2 ≤ head.count
  · rw [if_pos hgo, if_pos (show v.su.pacing = none ∧ 2 ≤ head.count from hgo)]
    exact ⟨onlyChanges_mono (onlyChanges_trans hv (onlyChanges_setSu v _)) (by simp), by rw [hfirst]; rfl, by rw [hfirst]; rfl,
      by rw [hfirst]; rfl, rfl, rfl, rfl⟩
  · rw [if_neg hgo, if_neg (show ¬ (v.su.pacing = none ∧ 2 ≤ head.count) from hgo)]
    exact ⟨hv, by rw [hfirst]; rfl, by rw [hfirst]; rfl, by rw [hfirst]; rfl, rfl, rfl, rfl⟩

/-- Settles O53: the change of a granule with its 64th write, on a cached line and on one that is not. -/
theorem scrubbedGranuleLeaves : Obligations.ScrubbedGranuleLeaves := by
  intro s x k head rest o hr hm hp hx hc hin hw hruns ho hpos hfirst he failed stored burst
  refine ⟨?_, fun hn => lastWrite_of_not_cached hr hm hp hx hc hin hw hruns ho hpos hfirst hn o⟩
  intro line hcached hroom hnext r freed credit left taker runs last
  have g := granuleTaken (k := k) hw hruns hcached hroom o
  rw [exec_lastWrite hr hm hp hx hc hin hw o]
  generalize (s.granuleWaits x k o).scrubIssue _ = v at g
  have hvmc : v.mc = s.mc := g.mc
  by_cases hone : head.count = 1
  · have hleft : left = rest := if_pos hone
    have htaker : taker = placeTaker s := if_pos hone
    have hrest : ∀ y ∈ rest.head?, y.isOpen = true ∨ 0 < y.count := fun y hy =>
      hnext.resolve_left (by omega) y (List.mem_of_mem_head? hy)
    obtain ⟨u, y, hu, hy, hlast, hnot⟩ := g.settle_last hm hw hone ho hrest he
    obtain ⟨hoc, hsu, hcmd, hcount, hcur, hmc⟩ := hy
    rw [g.placeTaker] at hsu hcmd hmc
    have htc : y.tc = v.tc := hoc.2 .tc (by simp)
    have hdram : y.dram = v.dram := hoc.2 .dram (by simp)
    refine ⟨u, _, by rw [hu], fun t c hl => hlast t c hl.2, fun h => hnot fun t c hl => h t c ⟨hone, hl⟩,
      onlyChanges_mono (onlyChanges_trans (onlyChanges_trans g.frame hoc) (onlyChanges_setSu y _)) (by simp),
      hdram.trans g.dram, fun hk => rewrites_congr rfl htc (g.rewrites hk), fun hk => onlyRecency_of_tc rfl htc (g.recency hk),
      ?_, fun t => ?_, hcount.trans g.counter, ?_, ?_⟩
    · rw [State.setSu_su, hleft, show runs = _ from congrArg₂ _ hleft (congrArg _ (congrArg _ htaker)), Scrubber.resumed, hsu, g.su]
      cases rest.head?.filter fun y => !y.isOpen <;> rfl
    · rw [htaker]
      refine (hcmd t).trans ?_
      rw [g.cmd, Option.map_map]
      congr 1
      funext c
      by_cases hown : head.ticket = some t
      · simp only [Function.comp_apply, hown, if_true, hone, and_self, (c.credited_frame _).2.2]
        rfl
      · simp only [Function.comp_apply, hown, if_false, and_false]
    · refine hcur.trans ?_
      rw [g.current, Option.map_map]
      congr 1
      funext w
      by_cases hwait : w.scrubWait = some x.granule <;> simp [hwait, hone]
    · rw [htaker]
      rw [hvmc] at hmc
      exact hmc
  · have htwo : 2 ≤ head.count := by omega
    have hleft : left = { head with first := head.first + 1, count := head.count - 1 } :: rest := if_neg hone
    have htaker : taker = none := if_neg hone
    refine ⟨_, _, rfl, fun t c hl => absurd hl.1 hone, fun _ => g.settle_more hm hw htwo,
      onlyChanges_mono (onlyChanges_trans g.frame (onlyChanges_setSu v _)) (by simp), g.dram,
      fun hk => rewrites_congr rfl rfl (g.rewrites hk), fun hk => onlyRecency_of_tc rfl rfl (g.recency hk), ?_, fun t => ?_,
      g.counter, ?_, ?_⟩
    · have hlist : runs = { head with first := head.first + 1, count := head.count - 1 } :: rest := by
        show left ++ _ = _
        rw [hleft, htaker]
        exact List.append_nil _
      rw [State.setSu_su, hleft, hlist, List.head?_cons, Scrubber.resumed, g.su]
      cases (some { head with first := head.first + 1, count := head.count - 1 }).filter fun y => !y.isOpen <;> rfl
    · rw [htaker]
      refine (g.cmd t).trans ?_
      congr 1
      funext c
      by_cases hown : head.ticket = some t
      · rw [if_pos hown, if_pos hown, if_neg (fun h => hone h.1)]
        exact (credited_runs c freed).symm
      · simp [hown]
    · refine g.current.trans ?_
      simp [hone]
    · rw [htaker]
      exact hvmc

end Sys2Proof.Machine

namespace Sys2Proof.Machine

open Sys2Proof.Safety

/-! # The engine's change waits for room (R86, R99) -/

/-- The engine waits, and its change with it. -/
def State.engineHeld (s : State) (j : Nat) : State := (s.setTc (s.tc.hold (.change .engine j))).engineWaits

theorem markTag_of_unitWrites {w : Work} {c : Cmd} {r new : TagRec} (hp : c.phase = .mark) (h : unitWrites w c r = some new) :
    ∃ counts, markTag w.ticket c.command r = some (new, counts) := by
  have hdrain {o : DomainId} (hc : draining? c.command = some o)
      (hu : unitWrites w c r = if (r.tag.kind = .owned ∨ r.tag.kind = .shared) ∧ r.tag.owner = some o then
        some { r with tag := .draining o w.ticket } else none) : ∃ counts, markTag w.ticket c.command r = some (new, counts) := by
    rw [hu] at h
    obtain ⟨hm, hnew⟩ := Option.ite_none_right_eq_some.1 h
    obtain ⟨f, hf, -⟩ := markTag_of_marks hc hm w.ticket
    exact ⟨f, by rw [hf, ← Option.some.inj hnew]⟩
  have happly (hu : unitWrites w c r = applied r c.command) : ∃ counts, markTag w.ticket c.command r = some (new, counts) := by
    rw [hu] at h
    obtain ⟨f, hf, -⟩ := markTag_of_applied_some h w.ticket
    exact ⟨_, hf⟩
  cases hc : c.command with
  | reclaim first count o dr =>
    rw [← hc]
    exact hdrain (by rw [hc]; rfl) (by simp only [unitWrites, hp, hc])
  | retire o moved =>
    rw [← hc]
    exact hdrain (by rw [hc]; rfl) (by simp only [unitWrites, hp, hc])
  | _ =>
    rw [← hc]
    exact happly (by simp only [unitWrites, hp, hc])

theorem tag_of_unitWrites_drain {w : Work} {c : Cmd} {r new : TagRec} (hp : c.phase = .drain)
    (h : unitWrites w c r = some new) : ∃ o, r.tag = .draining o w.ticket := by
  refine (draining_iff r.tag w.ticket).1 ?_
  by_contra hno
  cases hc : c.command <;> simp [unitWrites, hp, hc, hno] at h

theorem handoffTag_of_unitWrites {w : Work} {c : Cmd} {r new : TagRec} (hp : c.phase = .handoff)
    (h : unitWrites w c r = some new) : w.runOpen = true ∧ handoffTag w.ticket c.command r = some new := by
  cases ho : w.runOpen with
  | false => cases hc : c.command <;> simp [unitWrites, hp, hc, ho] at h
  | true =>
    refine ⟨rfl, ?_⟩
    rw [handoffTag_eq, ← h]
    cases hc : c.command with
    | format kept => simp [unitWrites, hp, hc] at h
    | _ => simp [unitWrites, hp, hc, ho]

theorem phase_of_unitWrites {w : Work} {c : Cmd} {r : TagRec} (h : unitWrites w c r ≠ none) :
    (c.phase = .mark ∨ c.phase = .drain ∨ c.phase = .handoff) ∧ c.command.isFormat = false := by
  constructor
  · cases hp : c.phase <;> simp [unitWrites, hp] at h <;> simp
  · cases hc : c.command with
    | format kept => cases hp : c.phase <;> simp [unitWrites, hp, hc, applied] at h
    | _ => rfl

/-- The engine's unit on a cached line, with the write list full. -/
theorem engineAct_held {s : State} {w : Work} {c : Cmd} (h : Working s w c) {line : TagLine}
    (hw : unitWrites w c (line.get (w.cursor % 4)) ≠ none) (hfull : 32 ≤ s.tc.writes.length) :
    State.engineAct line s = s.engineHeld (w.cursor / 4) := by
  obtain ⟨new, hnew⟩ := Option.ne_none_iff_exists'.1 hw
  rw [engineAct_of_working h]
  obtain ⟨hp | hp | hp, -⟩ := phase_of_unitWrites hw
  · obtain ⟨counts, hm⟩ := markTag_of_unitWrites hp hnew
    simp only [hp, State.markAct, hm]
    exact change_of_full hfull _ _ _ _ _ _
  · obtain ⟨o, ht⟩ := tag_of_unitWrites_drain hp hnew
    simp only [hp, State.timeoutAct, ht, if_true]
    exact change_of_full hfull _ _ _ _ _ _
  · obtain ⟨ho, hh⟩ := handoffTag_of_unitWrites hp hnew
    simp only [hp, State.handoffAct, hh, ho, if_true]
    exact change_of_full hfull _ _ _ _ _ _

/-- The engine's change is held, and the engine waits with it (R86). -/
theorem engineUnit_held {s : State} {w : Work} {c : Cmd} {line : TagLine} {i : Instr} (he : Engaged s w c)
    (hi : tagRow w c = some i) (hc : Cached s (w.cursor / 4) line)
    (hw : unitWrites w c (line.get (w.cursor % 4)) ≠ none) (hfull : 32 ≤ s.tc.writes.length) :
    ∃ u, exec i s = .next u.settle ∧ OnlyChanges [.tc, .te] s u ∧
      Holds s u (w.cursor / 4) (.change .engine (w.cursor / 4)) ∧
      u.te = { s.te with current := some { w with busy := true } } := by
  let v := s.recent (w.cursor / 4) line
  obtain ⟨tc, htc⟩ := s.recent_eq (w.cursor / 4) line
  have hs : Working s w c := working_of_engaged he
  have hv : Working v w c := hs.of_te (by simp only [v, htc, State.setTc_te])
  have hvfull : 32 ≤ v.tc.writes.length := by rw [recent_writes hc]; exact hfull
  have hheld : v.engineHeld (w.cursor / 4) = (s.setTc (v.tc.hold (.change .engine (w.cursor / 4)))).engineWaits := by
    simp only [v, htc, State.engineHeld]
    rfl
  obtain ⟨hoc, hutc, hute⟩ := setTc_engineWaits hs (v.tc.hold (.change .engine (w.cursor / 4)))
  refine ⟨v.engineHeld (w.cursor / 4), ?_, ?_⟩
  · rw [exec_tagRow he hi, engineTry_of_cached hs (phase_of_unitWrites hw).2 hc, engineAct_held hv hw hvfull]
  · rw [hheld]
    exact ⟨hoc, holds_of_tc (onlyRecency_recent hc) hutc, hute⟩

/-! # FORMAT's install waits for room (R86, R88) -/

theorem install_held {s : State} {w : Work} {c : Cmd} {kept : StoreState} {j : Nat} (he : Engaged s w c)
    (hc : c.command = .format kept) (hp : c.phase = .handoff) (hwait : w.placeWait = false) (hopen : w.runOpen = true)
    (hj : w.cursor = 4 * j) (hwf : setWf (s.tc.set j)) (hpend : ∀ way, (way, WayState.pending j) ∉ s.tc.set j)
    (hstuck : ¬ Stuck s.tc j) (hfull : 32 ≤ s.tc.writes.length) :
    ∃ u, exec .formatHandoff s = .next u.settle ∧ OnlyChanges [.tc, .te] s u ∧
      u.tc = { s.tc with held := s.tc.held ++ [.install j] } ∧
      u.te = { s.te with current := some { w with busy := true } } := by
  have hline : lineOf w.cursor = j := by
    rw [lineOf, hj]
    omega
  have hroom : s.tc.hasRoom = false := Bool.eq_false_iff.2 fun hr => by have := hasRoom_iff.1 hr; omega
  have hheld : s.install w c.command = (s.setTc (s.tc.hold (.install j))).engineWaits := by
    obtain ⟨way, st, -, -, ⟨line, hf⟩ | hf⟩ := find_of_takes hwf (.inr ⟨hpend, hstuck⟩)
    · simp [State.install, hline, hf, hroom]
    · simp [State.install, hline, hf, hroom]
  refine ⟨_, ?_, setTc_engineWaits (working_of_engaged he) (s.tc.hold (.install j))⟩
  rw [exec_formatHandoff he hc hp hwait, if_neg (by simp [hopen]), hheld]

end Sys2Proof.Machine

namespace Sys2Proof.Machine

open Sys2Proof.Safety

/-! # The walk takes one granule (R52, R192) -/

/-- The owner of an OWNED or SHARED tag is made RETIRING where it is CLOSED (R192). -/
def State.walkOwner (s : State) (t : Tag) : State :=
  match heldBy t with
  | some o => s.ownerFound o
  | none => s

/-- The walk before it writes a granule's record: its run is open for a tag to be requeued, and closed for any other
(R192). -/
def State.walkReady (s : State) (g : Nat) (t : Tag) : State :=
  if requeues t then
    if s.walk.runOpen then s else (s.appendRun g none).setWalk { s.walk with runOpen := true }
  else (s.walkCloses s.walk).walkOwner t

/-- The walk goes on from a granule that it has written; a requeued one joins the open run (R192). -/
def State.walkTook (s : State) (t : Tag) : State := (if requeues t then s.requeued else s).walkNext

/-- A tag needs a run, none is open, and the list is full (R192). -/
def needsPlace (s : State) (t : Tag) : Prop :=
  requeues t = true ∧ s.walk.runOpen = false ∧ Config.runCapacity ≤ s.su.runs.length

theorem walkReady_tc (s : State) (g : Nat) (t : Tag) : (s.walkReady g t).tc = s.tc := by
  unfold State.walkReady State.walkOwner
  split
  · split <;> simp [State.appendRun]
  · split <;> simp

theorem walkReady_shares (s : State) (g : Nat) (t : Tag) : (s.walkReady g t).shares = s.shares := by
  unfold State.walkReady State.walkOwner
  split
  · split <;> simp [State.appendRun]
  · split <;> simp

theorem walkTag_counting {s : State} (h : s.walk.counting = true) (g : Nat) (r : TagRec) :
    s.walkTag g r = (s.walkNext, some r) := by
  rw [State.walkTag, if_pos h]

/-- What `requeue` does where the run can be opened. -/
theorem requeue_eq {s : State} {r : TagRec} (hq : requeues r.tag = true) (hp : ¬ needsPlace s r.tag) (g : Nat)
    (owner : Option DomainId) :
    s.requeue g r owner =
      if s.tc.hasRoom then
        (((s.walkReady g r.tag).putTag g { r with tag := .scrubbing owner none }).walkTook r.tag,
          some { r with tag := .scrubbing owner none })
      else
        (((s.walkReady g r.tag).setTc (s.tc.hold (.change .walk (lineOf g)))).walkWaits, none) := by
  have hno : ¬ (!s.walk.runOpen && decide (Config.runCapacity ≤ s.su.runs.length)) = true := by
    intro h
    simp only [Bool.and_eq_true, Bool.not_eq_true', decide_eq_true_eq] at h
    exact hp ⟨hq, h⟩
  have hready : s.walkReady g r.tag =
      if s.walk.runOpen then s else (s.appendRun g none).setWalk { s.walk with runOpen := true } := if_pos hq
  have htc := walkReady_tc s g r.tag
  unfold State.requeue State.walkTook
  rw [if_neg hno, if_pos hq]
  simp only [← hready, htc]

/-- The tags that the walk requeues. -/
theorem walkTag_of_requeues {s : State} (hc : s.walk.counting = false) {r : TagRec} (hq : requeues r.tag = true) (g : Nat) :
    s.walkTag g r = s.requeue g r r.tag.owner := by
  rw [State.walkTag, if_neg (by simp [hc])]
  cases ht : r.tag <;> simp [requeues, ht, Tag.kind] at hq <;> rfl

theorem walkedRec_of_requeues {s : State} {r : TagRec} (hq : requeues r.tag = true) :
    walkedRec s r = { r with tag := .scrubbing r.tag.owner none } := if_pos hq

theorem walkWrites_of_requeues {s : State} {r : TagRec} (hq : requeues r.tag = true) : walkWrites s r = true := by
  rw [walkWrites, hq, Bool.true_or]

theorem walkTag_place {s : State} (hc : s.walk.counting = false) {r : TagRec} (hp : needsPlace s r.tag) (g : Nat) :
    s.walkTag g r = (s.setWalk { s.walk with placeWait := true }, none) := by
  obtain ⟨hq, ho, hl⟩ := hp
  rw [walkTag_of_requeues hc hq, State.requeue]
  exact if_pos (by simp [ho, hl])

/-- The tags that the walk does not requeue: only a SHARED one whose entry is not its owner's is rewritten (R52). -/
theorem walkTag_of_stays {s : State} (hc : s.walk.counting = false) {r : TagRec} (hq : requeues r.tag = false) (g : Nat) :
    s.walkTag g r =
      if walkWrites s r then
        if s.tc.hasRoom then (((s.walkReady g r.tag).putTag g (walkedRec s r)).walkNext, some (walkedRec s r))
        else (((s.walkReady g r.tag).setTc (s.tc.hold (.change .walk (lineOf g)))).walkWaits, none)
      else ((s.walkReady g r.tag).walkNext, some r) := by
  have hready : s.walkReady g r.tag = (s.walkCloses s.walk).walkOwner r.tag := if_neg (by simp [hq])
  have hwrites : walkWrites s r = decide (walkedRec s r ≠ r) := by rw [walkWrites, hq, Bool.false_or]
  have hstays (h : walkedRec s r = r) : walkWrites s r = false := by simp [hwrites, h]
  have hshare (i : ShareIx) : (s.walkReady g r.tag).share i = s.share i := share_of_shares (walkReady_shares s g r.tag) i
  rw [State.walkTag, if_neg (by simp [hc])]
  cases ht : r.tag with
  | draining o k => simp [requeues, ht, Tag.kind] at hq
  | scrubbing o k => simp [requeues, ht, Tag.kind] at hq
  | shared o rights i =>
    have hrec : walkedRec s r = if (s.share i).inUse = true ∧ (s.share i).owner = o then r else
        { r with tag := .owned o rights } := by
      rw [walkedRec, if_neg (by simp [hq]), ht]
    have htc := walkReady_tc s g r.tag
    rw [ht] at hready hshare htc
    have hstate : (s.walkCloses s.walk).ownerFound o = s.walkReady g (.shared o rights i) := hready.symm
    simp only [hstate, hshare, htc]
    by_cases hown : (s.share i).inUse = true ∧ (s.share i).owner = o
    · rw [if_pos hown, hstays (by rw [hrec, if_pos hown]), if_neg (by simp)]
    · have hne : walkWrites s r = true := by
        rw [hwrites, hrec, if_neg hown, decide_eq_true_eq]
        intro he
        have := congrArg TagRec.tag he
        simp [ht] at this
      rw [if_neg hown, if_pos hne, hrec, if_neg hown]
  | owned o rights =>
    have hrec : walkedRec s r = r := by rw [walkedRec, if_neg (by simp [hq]), ht]
    rw [hstays hrec, ← ht, hready, ht]
    rfl
  | _ =>
    have hrec : walkedRec s r = r := by rw [walkedRec, if_neg (by simp [hq]), ht]
    rw [hstays hrec, ← ht, hready, ht]
    rfl

/-- A granule's record is to be written while the write list is full (R86). -/
theorem walkTag_full {s : State} (hc : s.walk.counting = false) {r : TagRec} (hw : walkWrites s r = true)
    (hp : ¬ needsPlace s r.tag) (hfull : 32 ≤ s.tc.writes.length) (g : Nat) :
    s.walkTag g r = (((s.walkReady g r.tag).setTc (s.tc.hold (.change .walk (lineOf g)))).walkWaits, none) := by
  have hroom : ¬ s.tc.hasRoom = true := fun hr => by have := hasRoom_iff.1 hr; omega
  cases hq : requeues r.tag with
  | true => rw [walkTag_of_requeues hc hq, requeue_eq hq hp, if_neg hroom]
  | false => rw [walkTag_of_stays hc hq, if_pos hw, if_neg hroom]

/-- The walk takes a granule, and writes its record where it changes it. -/
theorem walkTag_taken {s : State} (hc : s.walk.counting = false) {r : TagRec} (hp : ¬ needsPlace s r.tag)
    (hroom : walkWrites s r = true → s.tc.writes.length < 32) (g : Nat) :
    s.walkTag g r =
      ((if walkWrites s r then (s.walkReady g r.tag).putTag g (walkedRec s r) else s.walkReady g r.tag).walkTook r.tag,
        some (walkedRec s r)) := by
  cases hq : requeues r.tag with
  | true =>
    have hw := walkWrites_of_requeues (s := s) hq
    rw [walkTag_of_requeues hc hq, requeue_eq hq hp, if_pos (hasRoom_iff.2 (hroom hw)), if_pos hw, walkedRec_of_requeues hq]
  | false =>
    have htook (x : State) : x.walkTook r.tag = x.walkNext := by rw [State.walkTook, if_neg (by simp [hq])]
    rw [walkTag_of_stays hc hq, htook]
    cases hw : walkWrites s r with
    | true => rw [if_pos rfl, if_pos (hasRoom_iff.2 (hroom hw)), if_pos rfl]
    | false =>
      have hsame : walkedRec s r = r := by simpa [walkWrites, hq] using hw
      rw [if_neg (by simp), if_neg (by simp), hsame]

end Sys2Proof.Machine

namespace Sys2Proof.Machine

open Sys2Proof.Safety

/-! # Changes wait for room (R82, R86 to R88) -/

theorem walkCloses_of_not_open {s : State} {w : Walk} (h : w.runOpen = false) : s.walkCloses w = s := if_neg (by simp [h])

/-- A granule that needs no other run, and whose owner the table holds, leaves the state as it is until it is written. -/
theorem walkReady_same {s : State} {t : Tag} (hr : s.walk.runOpen = requeues t)
    (ho : ∀ o, heldBy t = some o → (s.domain o).state ≠ .closed) (g : Nat) : s.walkReady g t = s := by
  cases hq : requeues t with
  | true => rw [State.walkReady, if_pos hq, if_pos (by rw [hr, hq])]
  | false =>
    rw [State.walkReady, if_neg (by simp [hq]), walkCloses_of_not_open (by rw [hr, hq]), State.walkOwner]
    cases hh : heldBy t with
    | none => rfl
    | some o => exact if_neg (ho o hh)

theorem walkTry_of_cached {s : State} {w : Walk} {j k : Nat} {line : TagLine} (hrec : s.mc.recovery = some (.walk w))
    (hk : k < 4) (hcur : w.cursor = 4 * j + k) (hc : Cached s j line) :
    s.walkTry = State.walkGranules line (restOfLine (4 * j + k)) (s.recent j line) := by
  have hline : lineOf w.cursor = j := by
    rw [lineOf, hcur]
    omega
  have hwalk : (s.recent j line).walk = w := by
    obtain ⟨tc, htc⟩ := s.recent_eq j line
    rw [htc]
    exact walk_of_recovery hrec
  rw [State.walkTry, walk_of_recovery hrec, hline, lookup_of_cached hc, State.walkAct, hwalk, hcur]

theorem restOfLine_cons {j k : Nat} (hk : k < 4) :
    restOfLine (4 * j + k) = (4 * j + k) :: (List.range (3 - k)).map fun i => 4 * j + k + (i + 1) := by
  have hmod : (4 * j + k) % 4 = k := by omega
  have hlen : 4 - k = (3 - k) + 1 := by omega
  rw [restOfLine, hmod, hlen, List.range_succ_eq_map, List.map_cons, List.map_map]
  rfl

/-- The walk's first granule of a line waits for room (R86, R192). -/
theorem walkStep_held {s : State} {w : Walk} {j k : Nat} {line : TagLine} (hr : s.mc.inReset = none)
    (hrec : s.mc.recovery = some (.walk w)) (hb : w.busy = false) (hp : w.placeWait = false) (hc : w.counting = false)
    (hk : k < 4) (hcur : w.cursor = 4 * j + k) (hcached : Cached s j line) (hw : walkWrites s (line.get k) = true)
    (hopen : w.runOpen = requeues (line.get k).tag)
    (howner : ∀ o, heldBy (line.get k).tag = some o → (s.domain o).state ≠ .closed) (hfull : 32 ≤ s.tc.writes.length) :
    ∃ u, exec .walkStep s = .next u.settle ∧ OnlyChanges [.tc, .mc] s u ∧ Holds s u j (.change .walk j) ∧
      u.mc = { s.mc with recovery := some (.walk { w with busy := true }) } := by
  let v := s.recent j line
  obtain ⟨tc, htc⟩ := s.recent_eq j line
  have hv : v = s.setTc tc := htc
  have hwalk : v.walk = w := by
    rw [hv]
    exact walk_of_recovery hrec
  have hmod : (4 * j + k) % 4 = k := by omega
  have hline : lineOf (4 * j + k) = j := by
    rw [lineOf]
    omega
  have hplace : ¬ needsPlace v (line.get k).tag := fun ⟨hq, ho, _⟩ => by
    rw [hwalk, hopen, hq] at ho
    cases ho
  have hready : v.walkReady (4 * j + k) (line.get k).tag = v :=
    walkReady_same (by rw [hwalk, hopen]) (fun o ho => by rw [hv]; exact howner o ho) _
  have htag := walkTag_full (s := v) (by rw [hwalk]; exact hc) (r := line.get k) (by rw [hv]; exact hw) hplace
    (by rw [recent_writes hcached]; exact hfull) (4 * j + k)
  rw [hready, hline] at htag
  refine ⟨(v.setTc (v.tc.hold (.change .walk j))).walkWaits, ?_, ?_, holds_of_tc (onlyRecency_recent hcached) (by simp [v]), ?_⟩
  · rw [exec_walkStep hr hrec hb hp, walkTry_of_cached hrec hk hcur hcached, restOfLine_cons hk, State.walkGranules, hmod, htag]
  · rw [hv]
    exact ⟨rfl, fun b hb => by
      cases b with
      | tc | mc => simp at hb
      | _ => exact rfl⟩
  · rw [hv]
    simp only [State.walkWaits, State.setWalk, State.setMc_mc, State.setTc_mc, State.walk, hrec]

/-- The scrubber's change of a granule waits for room with its last write, and the scrubber goes on with the granule
after it (R86, R129). -/
theorem lastWrite_held {s : State} {x : WriteGranule} {k : Nat} {head : Run} {rest : List Run} {line : TagLine}
    (hr : s.mc.inReset = none) (hm : s.mc.mode ≠ .suspended) (hp : s.mc.pendingTarget ≠ some .suspended)
    (hx : s.su.write = some x) (hc : x.completed = 63) (hin : x.inFlight = [k]) (hw : s.su.waiting = none)
    (hruns : s.su.runs = head :: rest) (ho : head.isOpen = false) (hpos : 0 < head.count)
    (hcached : Cached s (x.granule / 4) line) (hk : (line.get (x.granule % 4)).tag.kind = .scrubbing)
    (hfull : 32 ≤ s.tc.writes.length) (o : MemOutcome) :
    ∃ u, exec (.scrubWriteComplete k o) s = .next u ∧ OnlyChanges [.dram, .tc, .su] s u ∧
      Holds s u (x.granule / 4) (.change .scrubber (x.granule / 4)) ∧
      let next : Bool := s.su.pacing.isNone && decide (2 ≤ head.count)
      u.su = { s.su with
        write := if next then some (WriteGranule.begun (head.first + 1)) else none
        pacing := if next then some s.mc.scrubInterval else s.su.pacing
        waiting := some {
          granule := x.granule, failed := x.failed || decide (o = .uncorrectable), issued := true } } := by
  obtain ⟨hoc, hholds, hsu⟩ := scrubIssue_held (s := s.granuleWaits x k o)
    (x := { granule := x.granule, failed := x.failed || decide (o = .uncorrectable), issued := false })
    (cached_of_tc rfl hcached) hk hfull
  rw [exec_lastWrite hr hm hp hx hc hin hw o]
  generalize (s.granuleWaits x k o).scrubIssue _ = v at hoc hholds hsu
  have hv : OnlyChanges [.dram, .tc, .su] s v := onlyChanges_mono (onlyChanges_trans (bs := [.dram, .su]) (t := s.granuleWaits x k o)
    ⟨rfl, fun b hb => by
      cases b with
      | dram | su => simp at hb
      | _ => exact rfl⟩ hoc) (by simp)
  have hmc : v.mc = s.mc := hv.2 .mc (by simp)
  have hsettle := scrubSettle_of_issued (s := v) (by rw [hmc]; exact hm) (by rw [hsu]; rfl) (x := _) (by rw [hsu]) rfl
    (by rw [hsu]; exact hruns) ho hpos
  refine ⟨_, rfl, ?_⟩
  rw [hsettle]
  have hpacing : v.su.pacing = s.su.pacing := by rw [hsu]; rfl
  rw [hpacing, hmc]
  by_cases hgo : s.su.pacing = none ∧ 2 ≤ head.count
  · have hnext : (s.su.pacing.isNone && decide (2 ≤ head.count)) = true := by simp [hgo]
    rw [if_pos hgo]
    exact ⟨onlyChanges_mono (onlyChanges_trans hv (onlyChanges_setSu v _)) (by simp), hholds, by simp [hnext, hsu, State.granuleWaits]⟩
  · have hnext : (s.su.pacing.isNone && decide (2 ≤ head.count)) = false := by
      simpa [Bool.and_eq_false_iff, not_and_or] using hgo
    rw [if_neg hgo]
    exact ⟨hv, hholds, by simp [hnext, hsu, State.granuleWaits]⟩

theorem takeOldestHeld_of_nil {s : State} (h : s.tc.held = []) : s.takeOldestHeld = s := by
  rw [State.takeOldestHeld, h]

theorem takeOldestHeld_of_cons {s : State} {h : Held} {rest : List Held} (hheld : s.tc.held = h :: rest) :
    s.takeOldestHeld = (s.setTc { s.tc with held := rest }).takeHeld h := by
  rw [State.takeOldestHeld, hheld]

/-- Settles O40: what a full write list holds, and how the oldest of those held is taken. -/
theorem changesWaitForRoom : Obligations.ChangesWaitForRoom := by
  refine ⟨fun s w c line i he hi hc hw hfull => engineUnit_held he hi hc hw hfull, ?_, ?_, ?_, ?_, ?_⟩
  · intro s w j k line hr hrec hb hp hc hk hcur hcached hw hopen howner hfull
    exact walkStep_held hr hrec hb hp hc hk hcur hcached hw hopen howner hfull
  · intro s x k head rest line o hr hm hp hx hc hin hw hruns ho hpos hcached hk hfull
    exact lastWrite_held hr hm hp hx hc hin hw hruns ho hpos hcached hk hfull o
  · intro s f c read hread hc hfits hfull v lost hneed
    rw [exec_fillComplete hread hc hfits, completeFill_held (s := v) (by tauto) hfull]
    rfl
  · intro s w c kept j he hc hp hwait hopen hj hwf hpend hstuck hfull
    exact install_held he hc hp hwait hopen hj hwf hpend hstuck hfull
  · intro s
    cases hheld : s.tc.held with
    | nil => exact takeOldestHeld_of_nil hheld
    | cons h rest =>
      have htaken := takeOldestHeld_of_cons hheld
      cases h with
      | change party j => exact htaken
      | install j => exact htaken
      | fill j read lost =>
        intro f hf hroom
        rw [htaken, State.takeHeld, TagCache.fill, State.setTc_tc, hf]
        exact fillTaken_completeFill (.inr hroom)

end Sys2Proof.Machine

namespace Sys2Proof.Machine

open Sys2Proof.Safety

/-! # The walk's runs (R192) -/

/-- A state with other runs in the scrub list, and a walk that accounts for them. -/
def State.withRuns (s : State) (x : WalkRuns) (w : Walk) : State :=
  (s.setSu { s.su with runs := x.runs }).setWalk { w with runOpen := x.isOpen, runsRequeued := x.requeued }

/-- The runs as the walk has built them. -/
def Walk.runs (w : Walk) (l : List Run) : WalkRuns := { runs := l, isOpen := w.runOpen, requeued := w.runsRequeued }

theorem setWalk_same {s : State} {w : Walk} (h : s.mc.recovery = some (.walk w)) : s.setWalk w = s := by
  rw [State.setWalk, ← h]
  rfl

theorem withRuns_same {s : State} {w : Walk} (h : s.mc.recovery = some (.walk w)) : s.withRuns (w.runs s.su.runs) w = s :=
  setWalk_same h

theorem close_of_not_open {x : WalkRuns} (h : x.isOpen = false) : x.close = x := by
  obtain ⟨runs, isOpen, requeued⟩ := x
  cases h
  rfl

theorem walkCloses_eq {s : State} {w : Walk} (h : s.mc.recovery = some (.walk w)) :
    s.walkCloses w = s.withRuns (w.runs s.su.runs).close w := by
  cases ho : w.runOpen with
  | false => rw [walkCloses_of_not_open ho, close_of_not_open ho, withRuns_same h]
  | true =>
    rw [State.walkCloses, if_pos ho]
    cases hl : s.su.runs.getLast? with
    | none =>
      simp only [State.updateTail, State.tailCount, hl, WalkRuns.close, Walk.runs, ho]
      rfl
    | some r =>
      simp only [State.updateTail, State.tailCount, hl, WalkRuns.close, Walk.runs, ho]
      rfl

/-! # The quotas at the end of recovery (R38, R193) -/

/-- The quota of a domain is put right, and its record written back (R38, R193). -/
def quotaFixed (s : State) (n : Nat) : Bool :=
  decide (n ≠ 0 ∧ (BitVec.ofNat 10 n ∈ s.mc.fixups ∨
    (s.domain (BitVec.ofNat 10 n)).quota < (s.domain (BitVec.ofNat 10 n)).held))

/-- The record of a domain at the end of recovery. -/
def fixedRec (s : State) (n : Nat) : DomainRec :=
  { s.domain (BitVec.ofNat 10 n) with
    quota := if n = 0 then s.tenants else if quotaFixed s n = true then (s.domain (BitVec.ofNat 10 n)).held
      else (s.domain (BitVec.ofNat 10 n)).quota }

/-- The write of the line of a record that is written back, the records before it put right already. -/
def fixedWrite (s : State) (c : PoolCode) (n : Nat) : Nat × List Byte :=
  (domainAddress c (2 * (n / 2)), ((List.range 2).map fun b => 2 * (n / 2) + b).flatMap fun i =>
    storedDomain i (if i ≤ n then fixedRec s i else s.domain (BitVec.ofNat 10 i)))

/-- The quotas of the domains before the `n`th have been put right. -/
structure Fixed (s t : State) (n : Nat) : Prop where
  changes : OnlyChanges [.domains, .dram] s t
  domain : ∀ i < 1024, t.domain (BitVec.ofNat 10 i) = if i < n then fixedRec s i else s.domain (BitVec.ofNat 10 i)
  issues : ∀ c, s.mc.poolCode = some c → Issues s t (((List.range n).filter (quotaFixed s)).map (fixedWrite s c))

theorem domainLineOf_eq (s : State) (k : Nat) :
    domainLineOf s k = ((List.range 2).map fun b => 2 * k + b).flatMap fun n => storedDomain n (s.domain (BitVec.ofNat 10 n)) := by
  simp [domainLineOf, show List.range 2 = [0, 1] from rfl]

theorem ofNat10_inj {i j : Nat} (hi : i < 1024) (hj : j < 1024) : BitVec.ofNat 10 i = BitVec.ofNat 10 j ↔ i = j := by
  constructor
  · intro h
    have := congrArg BitVec.toNat h
    rwa [BitVec.toNat_ofNat, BitVec.toNat_ofNat, Nat.mod_eq_of_lt hi, Nat.mod_eq_of_lt hj] at this
  · rintro rfl
    rfl

/-- The domains once the record of the `n`th has been put in place. -/
theorem Fixed.domain_next {s t u : State} {n : Nat} (hn : n < 1024) (h : Fixed s t n)
    (hu : ∀ d, u.domain d = if d = BitVec.ofNat 10 n then fixedRec s n else t.domain d) (i : Nat) (hi : i < 1024) :
    u.domain (BitVec.ofNat 10 i) = if i < n + 1 then fixedRec s i else s.domain (BitVec.ofNat 10 i) := by
  rw [hu]
  by_cases he : i = n
  · rw [if_pos (by rw [he]), he, if_pos (by omega)]
  · rw [if_neg (mt (ofNat10_inj hi hn).1 he), h.domain i hi]
    exact if_congr (by omega) rfl rfl

/-- One more quota is put right. -/
theorem Fixed.step {s t : State} {n : Nat} (hn : n < 1024) (h : Fixed s t n) : Fixed s (t.fixQuota n) (n + 1) := by
  have hmc : t.mc = s.mc := h.changes.2 .mc (by simp)
  have htenants : t.tenants = s.tenants := congrArg (fun m : ModeController => tenantGranules m.poolCode) hmc
  have hcur : t.domain (BitVec.ofNat 10 n) = s.domain (BitVec.ofNat 10 n) := by rw [h.domain n hn, if_neg (by omega)]
  have hskip (hf : quotaFixed s n = false) {u : State} (hi : ∀ c, s.mc.poolCode = some c →
      Issues s u (((List.range n).filter (quotaFixed s)).map (fixedWrite s c))) (c : PoolCode) (hc : s.mc.poolCode = some c) :
      Issues s u (((List.range (n + 1)).filter (quotaFixed s)).map (fixedWrite s c)) := by
    rw [List.range_succ, List.filter_append, List.filter_singleton, hf, cond_false, List.append_nil]
    exact hi c hc
  rw [State.fixQuota, hcur]
  by_cases h0 : n = 0
  · have hf : quotaFixed s n = false := by simp [quotaFixed, h0]
    rw [if_pos h0, htenants]
    have hrec : { s.domain (BitVec.ofNat 10 n) with quota := s.tenants } = fixedRec s n := by rw [fixedRec, if_pos h0]
    rw [hrec]
    exact ⟨onlyChanges_mono (onlyChanges_trans h.changes (onlyChanges_setDomain _ _ _)) (by simp),
      h.domain_next hn fun d => State.setDomain_domain t _ d _, hskip hf fun c hc => issues_of_dram rfl (h.issues c hc)⟩
  · rw [if_neg h0]
    have hiff : (t.mc.fixups.contains (BitVec.ofNat 10 n) = true ∨
        (s.domain (BitVec.ofNat 10 n)).quota < (s.domain (BitVec.ofNat 10 n)).held) ↔ quotaFixed s n = true := by
      rw [quotaFixed, decide_eq_true_eq, hmc, List.contains_iff_mem]
      exact ⟨fun hx => ⟨h0, hx⟩, fun hx => hx.2⟩
    by_cases hf : quotaFixed s n = true
    · have hrec : { s.domain (BitVec.ofNat 10 n) with quota := (s.domain (BitVec.ofNat 10 n)).held } = fixedRec s n := by
        rw [fixedRec, if_neg h0, if_pos hf]
      rw [if_pos (hiff.2 hf), hrec]
      have hdomain := h.domain_next (u := t.writeDomain (BitVec.ofNat 10 n) (fixedRec s n)) hn fun d =>
        State.writeDomain_domain t _ d _
      refine ⟨onlyChanges_mono (onlyChanges_trans h.changes (onlyChanges_writeDomain _ _ _)) (by simp), hdomain, fun c hc => ?_⟩
      have hissue := issues_writeDomain t (BitVec.ofNat 10 n) (fixedRec s n) (c := c) (by rw [hmc]; exact hc)
      have hwrite : domainWrite (t.writeDomain (BitVec.ofNat 10 n) (fixedRec s n)) c (BitVec.ofNat 10 n) = fixedWrite s c n := by
        have hto : (BitVec.ofNat 10 n).toNat = n := by rw [BitVec.toNat_ofNat]; exact Nat.mod_eq_of_lt hn
        rw [domainWrite, hto, domainLineOf_eq, fixedWrite]
        refine congrArg _ (List.flatMap_congr fun i hi => ?_)
        obtain ⟨b, hb, rfl⟩ := List.mem_map.1 hi
        have hb2 := List.mem_range.1 hb
        rw [hdomain _ (by omega)]
        exact congrArg _ (if_congr Nat.lt_succ_iff rfl rfl)
      rw [List.range_succ, List.filter_append, List.map_append, List.filter_singleton, hf, cond_true]
      rw [hwrite] at hissue
      exact issues_trans (h.issues c hc) hissue
    · have hrec : s.domain (BitVec.ofNat 10 n) = fixedRec s n := by rw [fixedRec, if_neg h0, if_neg hf]
      rw [if_neg (mt hiff.1 hf)]
      refine ⟨h.changes, h.domain_next hn fun d => ?_, hskip (Bool.eq_false_iff.2 hf) h.issues⟩
      split
      · next he => rw [he, hcur, hrec]
      · rfl

theorem fixed_all (s : State) : Fixed s ((List.range Config.domainCount).foldl State.fixQuota s) 1024 := by
  have hall : ∀ n ≤ 1024, Fixed s ((List.range n).foldl State.fixQuota s) n := by
    intro n hn
    induction n with
    | zero => exact ⟨⟨rfl, fun b _ => by cases b <;> rfl⟩, fun i _ => by simp, fun c _ => issues_nil rfl⟩
    | succ n ih =>
      rw [List.range_succ, List.foldl_append]
      exact (ih (by omega)).step (by omega)
  exact hall 1024 le_rfl

end Sys2Proof.Machine

namespace Sys2Proof.Machine

open Sys2Proof.Safety

/-! # The end of a pass of the walk (R193, R194) -/

theorem close_isOpen (x : WalkRuns) : x.close.isOpen = false := by
  unfold WalkRuns.close
  split <;> rfl

/-- A pass that ends, by the recount mark. -/
theorem endPass_eq {s : State} {w : Walk} (h : s.mc.recovery = some (.walk w)) :
    s.endPass =
      if w.recountMark = true then
        (s.withRuns (w.runs s.su.runs).close w).setWalk { w with
          runOpen := false, runsRequeued := (w.runs s.su.runs).close.requeued, recountMark := false, cursor := 0
          counting := true, heldCounts := [], refCounts := [] }
      else
        (s.withRuns (w.runs s.su.runs).close w).finishWalk { w with
          runOpen := false, runsRequeued := (w.runs s.su.runs).close.requeued } := by
  have hwalk : (s.withRuns (w.runs s.su.runs).close w).walk =
      { w with runOpen := false, runsRequeued := (w.runs s.su.runs).close.requeued } := by
    rw [← close_isOpen (w.runs s.su.runs)]
    rfl
  rw [State.endPass, walk_of_recovery h, walkCloses_eq h, hwalk]

theorem onlyChanges_withRuns (s : State) (x : WalkRuns) (w : Walk) : OnlyChanges [.su, .mc] s (s.withRuns x w) :=
  ⟨rfl, fun b hb => by
    cases b with
    | su | mc => simp at hb
    | _ => exact rfl⟩

/-- The part at the end of recovery, the counts applied. -/
def State.counted (s : State) (w : Walk) : State :=
  (s.withRuns (w.runs s.su.runs).close w).applyCounts w.heldCounts w.refCounts

theorem counted_frame (s : State) (w : Walk) :
    OnlyChanges [.su, .mc, .domains, .shares] s (s.counted w) ∧
      (s.counted w).su = { s.su with runs := (w.runs s.su.runs).close.runs } ∧
      (s.counted w).mc = { s.mc with recovery := some (.walk { w with
        runOpen := (w.runs s.su.runs).close.isOpen, runsRequeued := (w.runs s.su.runs).close.requeued }) } := by
  have hruns : OnlyChanges [.su, .mc] s (s.withRuns (w.runs s.su.runs).close w) := onlyChanges_withRuns s _ w
  have hcounts : OnlyChanges [.domains, .shares] (s.withRuns (w.runs s.su.runs).close w) (s.counted w) := by
    unfold State.counted
    exact ⟨by simp, fun b hb => by cases b <;> simp_all [Block.same]⟩
  exact ⟨onlyChanges_mono (onlyChanges_trans hruns hcounts) (by simp), hcounts.2 .su (by simp), hcounts.2 .mc (by simp)⟩

theorem counted_tenants (s : State) (w : Walk) : (s.counted w).tenants = s.tenants := by
  rw [State.tenants, (counted_frame s w).2.2]
  rfl

theorem counted_domain (s : State) (w : Walk) (d : DomainId) :
    (s.counted w).domain d = { s.domain d with held := smapGet 0 w.heldCounts d.toNat } := applyCounts_domain _ _ _ d

theorem counted_share (s : State) (w : Walk) (i : ShareIx) :
    (s.counted w).share i =
      if (s.share i).inUse = true then { s.share i with refcount := smapGet 0 w.refCounts i.toNat } else s.share i :=
  applyCounts_share _ _ _ i

/-- The quota of a domain is put right, and written back (R38, R193). -/
@[reducible] def fixedDomain (s : State) (w : Walk) (d : DomainId) : Prop :=
  d ≠ 0 ∧ (d ∈ s.mc.fixups ∨ (s.domain d).quota < smapGet 0 w.heldCounts d.toNat)

theorem quotaFixed_counted (s : State) (w : Walk) {n : Nat} (hn : n < 1024) :
    quotaFixed (s.counted w) n = true ↔ fixedDomain s w (BitVec.ofNat 10 n) := by
  have hzero : n ≠ 0 ↔ BitVec.ofNat 10 n ≠ 0 := not_congr (ofNat10_inj (j := 0) hn (by omega)).symm
  rw [quotaFixed, decide_eq_true_eq, counted_domain, fixedDomain, hzero, (counted_frame s w).2.2]

theorem fixedRec_counted (s : State) (w : Walk) (d : DomainId) :
    fixedRec (s.counted w) d.toNat = { s.domain d with
      held := smapGet 0 w.heldCounts d.toNat
      quota := if d = 0 then s.tenants else if fixedDomain s w d then smapGet 0 w.heldCounts d.toNat
        else (s.domain d).quota } := by
  have hd : BitVec.ofNat 10 d.toNat = d := by rw [BitVec.ofNat_toNat, BitVec.setWidth_eq]
  have hzero : d.toNat = 0 ↔ d = 0 := by
    rw [← BitVec.toNat_inj]
    rfl
  have hfixed := quotaFixed_counted s w d.isLt
  rw [hd] at hfixed
  rw [fixedRec, hd, counted_domain]
  refine congrArg (fun q => { s.domain d with held := smapGet 0 w.heldCounts d.toNat, quota := q }) ?_
  by_cases h0 : d = 0
  · rw [if_pos (hzero.2 h0), if_pos h0, counted_tenants]
  · rw [if_neg (mt hzero.1 h0), if_neg h0]
    by_cases hf : fixedDomain s w d
    · rw [if_pos (hfixed.2 hf), if_pos hf]
    · rw [if_neg (mt hfixed.1 hf), if_neg hf]

/-- The writes of the records that are put right, by the table as it stands at the end. -/
theorem fixedWrite_counted {s t : State} {w : Walk} (ht : ∀ i < 1024, t.domain (BitVec.ofNat 10 i) = fixedRec (s.counted w) i)
    (c : PoolCode) {n : Nat} (hn : n < 1024) :
    fixedWrite (s.counted w) c n =
      (domainAddress c (2 * (n / 2)),
        storedDomain (2 * (n / 2)) (t.domain (BitVec.ofNat 10 (2 * (n / 2)))) ++
          storedDomain (2 * (n / 2) + 1)
            (if n % 2 = 0 then s.domain (BitVec.ofNat 10 (n + 1)) else t.domain (BitVec.ofNat 10 n))) := by
  have hlist : (List.range 2).map (fun b => 2 * (n / 2) + b) = [2 * (n / 2), 2 * (n / 2) + 1] := rfl
  have heven : 2 * (n / 2) ≤ n := by omega
  rw [fixedWrite, hlist, List.flatMap_cons, List.flatMap_cons, List.flatMap_nil, List.append_nil, if_pos heven,
    ht _ (by omega)]
  by_cases h2 : n % 2 = 0
  · have hnext : 2 * (n / 2) + 1 = n + 1 := by omega
    rw [if_pos h2, hnext, if_neg (by omega), counted_domain]
    rfl
  · have hodd : 2 * (n / 2) + 1 = n := by omega
    rw [if_neg h2, hodd, if_pos le_rfl, ht n hn]

/-- The last pass has ended: its counts are applied, and the quotas put right. -/
theorem finishWalk_withRuns (s : State) (w : Walk) :
    ∃ f, Fixed (s.counted w) f 1024 ∧
      (s.withRuns (w.runs s.su.runs).close w).finishWalk { w with
          runOpen := false, runsRequeued := (w.runs s.su.runs).close.requeued } =
        f.endRecovery s.tenants w.tagsLost (w.runs s.su.runs).close.requeued := by
  refine ⟨_, fixed_all (s.counted w), ?_⟩
  rw [State.finishWalk, State.counted]
  rfl

/-- Settles O8: the end of a pass that is counted again, and of the last one. -/
theorem walkEnds : Obligations.WalkEnds := by
  intro s w hrec runs t
  have ht : t = _ := endPass_eq hrec
  cases hmark : w.recountMark with
  | true =>
    rw [if_pos hmark] at ht
    refine ⟨by rw [ht]; rfl, fun _ => ⟨?_, by rw [ht]; rfl⟩, fun h => by cases h⟩
    rw [ht]
    exact ⟨rfl, fun b hb => by
      cases b with
      | su | mc => simp at hb
      | _ => exact rfl⟩
  | false =>
    rw [if_neg (by simp [hmark])] at ht
    obtain ⟨hframe, hsu, hmc⟩ := counted_frame s w
    obtain ⟨f, hfix, hfinish⟩ := finishWalk_withRuns s w
    have hend := ht.trans hfinish
    have hfmc : f.mc = (s.counted w).mc := hfix.changes.2 .mc (by simp)
    have hfcp : f.cp = s.cp := (hfix.changes.2 .cp (by simp)).trans (hframe.2 .cp (by simp))
    have hfeu : f.eu = s.eu := (hfix.changes.2 .eu (by simp)).trans (hframe.2 .eu (by simp))
    rw [State.endRecovery, placeNotice_eq] at hend
    have hdomain (i : Nat) (hi : i < 1024) : t.domain (BitVec.ofNat 10 i) = fixedRec (s.counted w) i := by
      refine Eq.trans ?_ ((hfix.domain i hi).trans (if_pos hi))
      rw [hend]
      exact domain_of_domains rfl _
    refine ⟨?_, fun h => (by cases h), fun _ => ?_⟩
    · rw [hend]
      exact (hfix.changes.2 .su (by simp)).trans hsu
    · intro held fixed
      refine ⟨?_, fun d => ?_, fun i => ?_, ?_, ?_, fun c hc => ?_⟩
      · rw [hend]
        exact onlyChanges_mono (onlyChanges_trans (onlyChanges_trans (onlyChanges_trans hframe hfix.changes)
          (onlyChanges_setMc _ _)) (onlyChanges_setCp _ _)) (by simp)
      · have h := hdomain d.toNat d.isLt
        rw [BitVec.ofNat_toNat, BitVec.setWidth_eq] at h
        rw [h]
        exact fixedRec_counted s w d
      · rw [← counted_share, hend]
        exact share_of_shares (hfix.changes.2 .shares (by simp)) i
      · rw [hend]
        simp only [State.setCp_mc, State.setMc_mc, hfmc, hmc]
      · rw [hend]
        simp only [State.setCp_cp, State.setMc_cp, State.setMc_eu, hfcp, hfeu, hfmc, hmc]
        rfl
      · have hissue := hfix.issues c (by rw [hmc]; exact hc)
        have hsame : (List.range 1024).filter (quotaFixed (s.counted w)) =
            (List.range 1024).filter fun n => decide (fixed (BitVec.ofNat 10 n)) :=
          List.filter_congr fun n hn => by
            rw [Bool.eq_iff_iff, quotaFixed_counted s w (List.mem_range.1 hn), decide_eq_true_eq]
        rw [hsame] at hissue
        have hwrites := List.map_congr_left (l := (List.range 1024).filter fun n => decide (fixed (BitVec.ofNat 10 n)))
          fun n hn => fixedWrite_counted hdomain c (List.mem_range.1 (List.mem_filter.1 hn).1)
        rw [hwrites] at hissue
        refine issues_of_dram (by rw [hend]; rfl) (issues_from ?_ hissue)
        exact (hframe.2 .dram (by simp))

end Sys2Proof.Machine

namespace Sys2Proof.Machine

open Sys2Proof.Safety

/-! # The walk takes the granules of a line (R192) -/

/-- The runs once the walk has a run for a tag to be requeued, or none for any other. -/
def readyRuns (x : WalkRuns) (g : Nat) (t : Tag) : WalkRuns :=
  if requeues t = false then x.close
  else if x.isOpen then x
  else { x with runs := x.runs ++ [{ first := g, count := 0, ticket := none, isOpen := true }], isOpen := true }

/-- A granule joins the run at the tail, which is closed when it is full (R192). -/
def grownRuns (x : WalkRuns) : WalkRuns :=
  match x.runs.getLast? with
  | none => x
  | some r =>
    let z := { x with runs := x.runs.dropLast ++ [{ r with count := r.count + 1 }] }
    if 1048576 ≤ r.count + 1 then z.close else z

theorem take_eq (x : WalkRuns) (g : Nat) (t : Tag) :
    x.take g t = if requeues t = true then grownRuns (readyRuns x g t) else readyRuns x g t := by
  cases hq : requeues t with
  | false => simp [WalkRuns.take, readyRuns, hq]
  | true =>
    cases ho : x.isOpen <;> simp only [WalkRuns.take, readyRuns, grownRuns, hq, ho, if_true, Bool.true_eq_false, if_false,
      Bool.false_eq_true] <;> rfl

theorem walkOwner_of_requeues {s : State} {t : Tag} (h : requeues t = true) : s.walkOwner t = s := by
  cases t <;> simp [requeues, Tag.kind] at h <;> rfl

/-- The state before a granule is written, by its runs (R192). -/
theorem walkReady_eq {s : State} {w : Walk} (h : s.mc.recovery = some (.walk w)) (g : Nat) (t : Tag) :
    s.walkReady g t = (s.withRuns (readyRuns (w.runs s.su.runs) g t) w).walkOwner t := by
  rw [State.walkReady, walk_of_recovery h]
  by_cases hq : requeues t = true
  · have hready : readyRuns (w.runs s.su.runs) g t = if w.runOpen = true then w.runs s.su.runs else
        { runs := s.su.runs ++ [{ first := g, count := 0, ticket := none, isOpen := true }], isOpen := true
          requeued := w.runsRequeued } := if_neg (by simp [hq])
    rw [if_pos hq, walkOwner_of_requeues hq, hready]
    by_cases ho : w.runOpen = true
    · rw [if_pos ho, if_pos ho, withRuns_same h]
    · rw [if_neg ho, if_neg ho]
      rfl
  · have hready : readyRuns (w.runs s.su.runs) g t = (w.runs s.su.runs).close := if_pos (by simpa using hq)
    rw [if_neg hq, walkCloses_eq h, hready]

theorem tail_of_append {l : List Run} {r : Run} : (l ++ [r]).getLast? = some r := List.getLast?_append_of_ne_nil _ (by simp)

/-- A granule joins the walk's open run. -/
theorem requeued_eq {s : State} {w : Walk} (h : s.mc.recovery = some (.walk w)) :
    s.requeued = s.withRuns (grownRuns (w.runs s.su.runs)) w := by
  cases hl : s.su.runs.getLast? with
  | none =>
    have hsame : grownRuns (w.runs s.su.runs) = w.runs s.su.runs := by simp only [grownRuns, Walk.runs, hl]
    have hno : ¬ Config.maxRange ≤ 0 := by decide
    rw [hsame, withRuns_same h]
    simp only [State.requeued, State.updateTail, State.tailCount, hl, Option.map_none, Option.getD_none, if_neg hno]
  | some r =>
    let z : WalkRuns := w.runs (s.su.runs.dropLast ++ [{ r with count := r.count + 1 }])
    have hgrow : grownRuns (w.runs s.su.runs) = if 1048576 ≤ r.count + 1 then z.close else z := by
      simp only [grownRuns, Walk.runs, hl]
      rfl
    let u := s.setSu { s.su with runs := s.su.runs.dropLast ++ [{ r with count := r.count + 1 }] }
    have hu : s.updateTail (fun r => { r with count := r.count + 1 }) = u := by simp only [State.updateTail, hl, u]
    have hcount : u.tailCount = r.count + 1 := by
      simp only [State.tailCount, u, State.setSu_su, tail_of_append, Option.map_some, Option.getD_some]
    have hclose : u.walkCloses u.walk = s.withRuns z.close w := by
      rw [walk_of_recovery (s := u) h, walkCloses_eq (s := u) h]
      rfl
    have hopen : u = s.withRuns z w := (setWalk_same (s := u) h).symm
    rw [State.requeued, hu, hcount, hgrow, hclose, show Config.maxRange = 1048576 from rfl]
    by_cases hm : 1048576 ≤ r.count + 1
    · simp only [if_pos hm]
    · simp only [if_neg hm]
      exact hopen

/-! ## What the walk has done of a line -/

/-- The places of a line from `k` to before `n`. -/
def placesFrom (k n : Nat) : List Nat := (List.range n).filter fun i => decide (k ≤ i)

/-- The places whose records the walk has written. -/
def walkWritten (s : State) (line : TagLine) (k n : Nat) : List Nat :=
  (placesFrom k n).filter fun i => walkWrites s (line.get i)

/-- The domains that hold the granules the walk has taken. -/
def walkOwners (line : TagLine) (k n : Nat) : List DomainId := (placesFrom k n).filterMap fun i => heldBy (line.get i).tag

/-- The runs once the walk has taken the places of a line from `k` to before `n`. -/
def walkRuns (x : WalkRuns) (j : Nat) (line : TagLine) (k n : Nat) : WalkRuns :=
  (placesFrom k n).foldl (fun x i => x.take (4 * j + i) (line.get i).tag) x

theorem placesFrom_succ {k n : Nat} (h : k ≤ n) : placesFrom k (n + 1) = placesFrom k n ++ [n] := by
  simp [placesFrom, List.range_succ, h]

theorem placesFrom_self (k : Nat) : placesFrom k k = [] := by
  rw [placesFrom, List.filter_eq_nil_iff]
  intro i hi
  simpa using List.mem_range.1 hi

theorem walkWritten_succ {s : State} {line : TagLine} {k n : Nat} (h : k ≤ n) :
    walkWritten s line k (n + 1) = walkWritten s line k n ++ if walkWrites s (line.get n) = true then [n] else [] := by
  rw [walkWritten, placesFrom_succ h, List.filter_append, List.filter_singleton, walkWritten]
  cases walkWrites s (line.get n) <;> rfl

theorem walkOwners_succ {line : TagLine} {k n : Nat} (h : k ≤ n) :
    walkOwners line k (n + 1) = walkOwners line k n ++ (heldBy (line.get n).tag).toList := by
  rw [walkOwners, placesFrom_succ h, List.filterMap_append, walkOwners]
  cases hh : heldBy (line.get n).tag <;> simp [hh]

theorem walkRuns_succ {x : WalkRuns} {j : Nat} {line : TagLine} {k n : Nat} (h : k ≤ n) :
    walkRuns x j line k (n + 1) = (walkRuns x j line k n).take (4 * j + n) (line.get n).tag := by
  rw [walkRuns, placesFrom_succ h, List.foldl_append, walkRuns]
  rfl

/-- The walk has taken the places of line `j` from `k` to before `n`; `w'` is the walk as it then stands, `owners` the
domains it has found and `x` its runs (R192). -/
structure Took (s u : State) (j k : Nat) (line : TagLine) (n : Nat) (owners : List DomainId) (x : WalkRuns) (w' : Walk) :
    Prop where
  frame : OnlyChanges [.tc, .su, .domains, .mc] s u
  cached : Cached u j (walkedLine s line k n)
  others : ∀ m, m ≠ j → u.tc.validLine m = s.tc.validLine m
  fills : u.tc.fills = s.tc.fills
  stalled : u.tc.stalled = s.tc.stalled
  writes : u.tc.writes =
    s.tc.writes ++ (walkWritten s line k n).map fun i => { line := j, recs := walkedLine s line k (i + 1) }
  su : u.su = { s.su with runs := x.runs }
  domain : ∀ d : DomainId, u.domain d =
    if d ∈ owners ∧ (s.domain d).state = .closed then { s.domain d with state := .retiring, score := 0, latch := false }
    else s.domain d
  mc : { u.mc with fixups := [] } = { s.mc with recovery := some (.walk w'), fixups := [] }
  fixups : ∀ d, d ∈ u.mc.fixups ↔ d ∈ s.mc.fixups ∨ (d ∈ owners ∧ (s.domain d).state = .closed)

section
variable {s u : State} {j k n : Nat} {line : TagLine} {owners : List DomainId} {x : WalkRuns} {w' : Walk}

theorem Took.recovery (h : Took s u j k line n owners x w') : u.mc.recovery = some (.walk w') :=
  congrArg ModeController.recovery h.mc

/-- The walk's own record and its runs change alone. -/
theorem Took.withRuns (h : Took s u j k line n owners x w') (y : WalkRuns) (w : Walk) :
    Took s (u.withRuns y w) j k line n owners y { w with runOpen := y.isOpen, runsRequeued := y.requeued } where
  frame := onlyChanges_mono (onlyChanges_trans h.frame (onlyChanges_withRuns u y w)) (by simp)
  cached := cached_of_tc rfl h.cached
  others := h.others
  fills := h.fills
  stalled := h.stalled
  writes := h.writes
  su := by
    have hsu := h.su
    simp only [State.withRuns, State.setWalk, State.setMc_su, State.setSu_su, hsu]
  domain := h.domain
  mc := congrArg (fun m : ModeController => { m with
    recovery := some (.walk { w with runOpen := y.isOpen, runsRequeued := y.requeued }) }) h.mc
  fixups := h.fixups

theorem Took.setWalk (h : Took s u j k line n owners x w') (w : Walk) : Took s (u.setWalk w) j k line n owners x w where
  frame := onlyChanges_mono (onlyChanges_trans h.frame (onlyChanges_setMc u _)) (by simp)
  cached := cached_of_tc rfl h.cached
  others := h.others
  fills := h.fills
  stalled := h.stalled
  writes := h.writes
  su := h.su
  domain := h.domain
  mc := congrArg (fun m : ModeController => { m with recovery := some (.walk w) }) h.mc
  fixups := h.fixups

/-- What waits for room stands in TC's list of those held. -/
theorem Took.hold (h : Took s u j k line n owners x w') (e : Held) :
    Took s (u.setTc (u.tc.hold e)) j k line n owners x w' where
  frame := onlyChanges_mono (onlyChanges_trans h.frame (onlyChanges_setTc u _)) (by simp)
  cached := h.cached
  others := h.others
  fills := h.fills
  stalled := h.stalled
  writes := h.writes
  su := h.su
  domain := h.domain
  mc := h.mc
  fixups := h.fixups

/-- An owner that the table holds as CLOSED is made RETIRING once (R192). -/
theorem Took.ownerFound (h : Took s u j k line n owners x w') (o : DomainId) :
    Took s (u.ownerFound o) j k line n (owners ++ [o]) x w' := by
  have hdom := h.domain o
  by_cases hc : (u.domain o).state = .closed
  · have hnew : ¬ (o ∈ owners ∧ (s.domain o).state = .closed) := fun ho => by
      rw [hdom, if_pos ho] at hc
      cases hc
    rw [if_neg hnew] at hdom
    have hsc : (s.domain o).state = .closed := hdom ▸ hc
    have he : u.ownerFound o = (u.setDomain o { s.domain o with state := .retiring, score := 0, latch := false }).setMc
        { u.mc with fixups := u.mc.fixups ++ [o] } := by
      rw [State.ownerFound, if_pos hc, hdom]
    rw [he]
    exact {
      frame := onlyChanges_mono (onlyChanges_trans (onlyChanges_trans h.frame (onlyChanges_setDomain u o _))
        (onlyChanges_setMc _ _)) (by simp)
      cached := cached_of_tc (by simp) h.cached
      others := by simpa using h.others
      fills := by simpa using h.fills
      stalled := by simpa using h.stalled
      writes := by simpa using h.writes
      su := by simpa using h.su
      domain := fun d => by
        rw [State.setMc_domain, State.setDomain_domain, h.domain d]
        by_cases hd : d = o
        · subst hd
          rw [if_pos rfl, if_pos ⟨by simp, hsc⟩]
        · rw [if_neg hd]
          exact if_congr (by simp [hd]) rfl rfl
      mc := h.mc
      fixups := fun d => by
        have hf := h.fixups d
        simp only [State.setMc_mc, List.mem_append, List.mem_singleton, hf]
        constructor
        · rintro ((hd | hd) | rfl)
          · exact .inl hd
          · exact .inr ⟨.inl hd.1, hd.2⟩
          · exact .inr ⟨.inr rfl, hsc⟩
        · rintro (hd | ⟨hd | rfl, hcl⟩)
          · exact .inl (.inl hd)
          · exact .inl (.inr ⟨hd, hcl⟩)
          · exact .inr rfl }
  · have hold : (s.domain o).state = .closed → o ∈ owners := fun hs => by
      by_contra hno
      rw [hdom, if_neg (fun ho => hno ho.1)] at hc
      exact hc hs
    have hiff (d : DomainId) : (d ∈ owners ++ [o] ∧ (s.domain d).state = .closed) ↔ (d ∈ owners ∧ (s.domain d).state = .closed) := by
      refine ⟨fun ⟨hm, hcl⟩ => ⟨?_, hcl⟩, fun ⟨hm, hcl⟩ => ⟨List.mem_append_left _ hm, hcl⟩⟩
      rcases List.mem_append.1 hm with hm | hm
      · exact hm
      · rw [List.mem_singleton.1 hm] at hcl ⊢
        exact hold hcl
    rw [State.ownerFound, if_neg hc]
    exact { h with
      domain := fun d => (h.domain d).trans (if_congr (hiff d).symm rfl rfl)
      fixups := fun d => (h.fixups d).trans (or_congr_right (hiff d).symm) }

theorem Took.walkOwner (h : Took s u j k line n owners x w') (t : Tag) :
    Took s (u.walkOwner t) j k line n (owners ++ (heldBy t).toList) x w' := by
  unfold State.walkOwner
  cases heldBy t with
  | none => simpa using h
  | some o => exact h.ownerFound o

/-- The walk has its run for the granule, or none. -/
theorem Took.walkReady (h : Took s u j k line n owners x w') (hx : w'.runs x.runs = x) (g : Nat) (t : Tag) :
    Took s (u.walkReady g t) j k line n (owners ++ (heldBy t).toList) (readyRuns x g t)
      { w' with runOpen := (readyRuns x g t).isOpen, runsRequeued := (readyRuns x g t).requeued } := by
  have hruns : w'.runs u.su.runs = x := by rw [h.su, hx]
  rw [walkReady_eq h.recovery, hruns]
  exact (h.withRuns (readyRuns x g t) w').walkOwner t

end

end Sys2Proof.Machine

namespace Sys2Proof.Machine

open Sys2Proof.Safety

/-! # The granules of a line, one after another (R192) -/

theorem walkedLine_self (s : State) (line : TagLine) (k : Nat) : walkedLine s line k k = line := by
  have hno (i : Nat) : ¬ (k ≤ i ∧ i < k) := by omega
  simp only [walkedLine, hno, if_false]
  rfl

theorem walkedLine_get {n : Nat} (hn : n < 4) (s : State) (line : TagLine) (k : Nat) :
    (walkedLine s line k n).get n = line.get n := by
  have hno : ¬ (k ≤ n ∧ n < n) := by omega
  interval_cases n <;> exact if_neg hno

/-- One more record of the line is as the walk leaves it. -/
theorem walkedLine_set {k n : Nat} (hk : k ≤ n) (hn : n < 4) (s : State) (line : TagLine) :
    (walkedLine s line k n).set n (walkedRec s (line.get n)) = walkedLine s line k (n + 1) := by
  have hat : k ≤ n ∧ n < n + 1 := by omega
  have hother {i : Nat} (hi : i ≠ n) : (k ≤ i ∧ i < n) ↔ (k ≤ i ∧ i < n + 1) := by omega
  have hrec {i : Nat} (hi : i ≠ n) : (if k ≤ i ∧ i < n then walkedRec s (line.get i) else line.get i) =
      if k ≤ i ∧ i < n + 1 then walkedRec s (line.get i) else line.get i := if_congr (hother hi) rfl rfl
  interval_cases n <;>
    simp only [walkedLine, TagLine.set, TagLine.mk.injEq, if_pos hat, true_and, and_true] <;>
    and_intros <;> exact hrec (by omega)

theorem set_get_same (line : TagLine) (i : Nat) : line.set i (line.get i) = line := by
  match i with
  | 0 => rfl
  | 1 => rfl
  | 2 => rfl
  | _ + 3 => rfl

theorem walkedRec_of_shares {s u : State} (h : u.shares = s.shares) (r : TagRec) : walkedRec u r = walkedRec s r := by
  simp only [walkedRec, share_of_shares h]

theorem walkWrites_of_shares {s u : State} (h : u.shares = s.shares) (r : TagRec) : walkWrites u r = walkWrites s r := by
  rw [walkWrites, walkWrites, walkedRec_of_shares h]

section
variable {s u : State} {j k n : Nat} {line : TagLine} {owners : List DomainId} {x : WalkRuns} {w' : Walk}

theorem Took.shares (h : Took s u j k line n owners x w') : u.shares = s.shares := h.frame.2 .shares (by simp)

/-- The record of the next granule is as the walk leaves it. -/
theorem Took.wrote (h : Took s u j k line n owners x w') (hk : k ≤ n) (hn : n < 4) :
    Took s (if walkWrites s (line.get n) = true then u.putTag (4 * j + n) (walkedRec s (line.get n)) else u) j k line (n + 1)
      owners x w' := by
  have hset := walkedLine_set hk hn s line
  by_cases hw : walkWrites s (line.get n) = true
  · have hline : lineOf (4 * j + n) = j := by
      rw [lineOf]
      omega
    have hplace : (4 * j + n) % 4 = n := by omega
    obtain ⟨hfills, hstalled, -, hwrites, hcached, hothers⟩ :=
      rewrites_putTag (g := 4 * j + n) (by rw [hline]; exact h.cached) (walkedRec s (line.get n))
    rw [hline, hplace, hset] at hwrites hcached
    rw [hline] at hothers
    rw [if_pos hw]
    exact {
      frame := onlyChanges_mono (onlyChanges_trans h.frame (onlyChanges_putTag _ _ _)) (by simp)
      cached := hcached
      others := fun m hm => (hothers m hm).trans (h.others m hm)
      fills := hfills.trans h.fills
      stalled := hstalled.trans h.stalled
      writes := by rw [hwrites, h.writes, walkWritten_succ hk, if_pos hw, List.map_append, List.append_assoc]; rfl
      su := by simpa using h.su
      domain := by simpa [State.domain] using h.domain
      mc := by simpa using h.mc
      fixups := by simpa using h.fixups }
  · have hsame : walkedRec s (line.get n) = line.get n := by
      simp only [walkWrites, Bool.not_eq_true, Bool.or_eq_false_iff, decide_eq_false_iff_not, not_not] at hw
      exact hw.2
    have hnext : walkedLine s line k (n + 1) = walkedLine s line k n := by
      rw [← hset, hsame]
      conv_lhs => rw [← walkedLine_get hn s line k]
      exact set_get_same _ n
    rw [if_neg hw]
    exact { h with
      cached := by rw [hnext]; exact h.cached
      writes := by rw [h.writes, walkWritten_succ hk, if_neg hw, List.append_nil] }

/-- The granule joins the walk's run where it is requeued, and the walk goes on. -/
theorem Took.walkTook (h : Took s u j k line n owners x w') (hx : w'.runs x.runs = x) (t : Tag) :
    let y := if requeues t = true then grownRuns x else x
    Took s (u.walkTook t) j k line n owners y
      { w' with runOpen := y.isOpen, runsRequeued := y.requeued, cursor := w'.cursor + 1 } := by
  intro y
  have hruns : w'.runs u.su.runs = x := by rw [h.su, hx]
  have hopen : w'.runOpen = x.isOpen := by rw [← hx]; rfl
  have hcount : w'.runsRequeued = x.requeued := by rw [← hx]; rfl
  have hnext {z : State} {w : Walk} (hz : Took s z j k line n owners y w) :
      Took s z.walkNext j k line n owners y { w with cursor := w.cursor + 1 } := by
    rw [State.walkNext, walk_of_recovery hz.recovery]
    exact hz.setWalk _
  by_cases hq : requeues t = true
  · have hy : y = grownRuns x := if_pos hq
    have hz : Took s u.requeued j k line n owners y { w' with runOpen := y.isOpen, runsRequeued := y.requeued } := by
      rw [requeued_eq h.recovery, hruns, hy]
      exact h.withRuns (grownRuns x) w'
    rw [State.walkTook, if_pos hq]
    exact hnext hz
  · have hy : y = x := if_neg hq
    rw [State.walkTook, if_neg hq]
    have hz : Took s u j k line n owners y { w' with runOpen := y.isOpen, runsRequeued := y.requeued } := by
      rw [hy, ← hopen, ← hcount]
      exact h
    exact hnext hz

end

/-! ## One granule -/

/-- The walk at a granule, with its runs. -/
def Walk.at (w : Walk) (c : Nat) (x : WalkRuns) : Walk :=
  { w with cursor := c, runOpen := x.isOpen, runsRequeued := x.requeued }

/-- The walk has taken the places of a line from `k` to before `n`, all of them. -/
def TookTo (s u : State) (w : Walk) (j k : Nat) (line : TagLine) (n : Nat) : Prop :=
  Took s u j k line n (walkOwners line k n) (walkRuns (w.runs s.su.runs) j line k n)
    (w.at (4 * j + n) (walkRuns (w.runs s.su.runs) j line k n))

section
variable {s u : State} {w : Walk} {j k n : Nat} {line : TagLine}

theorem TookTo.walk (h : TookTo s u w j k line n) :
    u.walk = w.at (4 * j + n) (walkRuns (w.runs s.su.runs) j line k n) := walk_of_recovery h.recovery

theorem TookTo.needsPlace_iff (h : TookTo s u w j k line n) (t : Tag) :
    needsPlace u t ↔ requeues t = true ∧ (walkRuns (w.runs s.su.runs) j line k n).isOpen = false ∧
      64 ≤ (walkRuns (w.runs s.su.runs) j line k n).runs.length := by
  rw [needsPlace, h.walk, h.su]
  rfl

/-- The walk takes the next granule of the line. -/
theorem TookTo.takes (h : TookTo s u w j k line n) (hc : w.counting = false) (hk : k ≤ n) (hn : n < 4)
    (hp : ¬ needsPlace u (line.get n).tag) (hroom : walkWrites s (line.get n) = true → u.tc.writes.length < 32) :
    ∃ v, TookTo s v w j k line (n + 1) ∧ v.tc.held = u.tc.held ∧
      u.walkTag (4 * j + n) (line.get n) = (v, some (walkedRec s (line.get n))) := by
  have hshares : u.shares = s.shares := h.shares
  have htag := walkTag_taken (s := u) (by rw [h.walk]; exact hc) hp
    (by rw [walkWrites_of_shares hshares]; exact hroom) (4 * j + n)
  rw [walkWrites_of_shares hshares, walkedRec_of_shares hshares] at htag
  refine ⟨_, ?_, ?_, htag⟩
  · have hready := h.walkReady rfl (4 * j + n) (line.get n).tag
    have htook := (hready.wrote hk hn).walkTook rfl (line.get n).tag
    rw [TookTo, walkOwners_succ hk, walkRuns_succ hk, take_eq]
    exact htook
  · rw [State.walkTook]
    have hheld (z : State) : (if requeues (line.get n).tag = true then z.requeued else z).walkNext.tc = z.tc := by
      split <;> simp
    rw [hheld]
    split
    · have hline : lineOf (4 * j + n) = j := by
        rw [lineOf]
        omega
      have hcached : Cached (u.walkReady (4 * j + n) (line.get n).tag) (lineOf (4 * j + n)) (walkedLine s line k n) := by
        rw [hline]
        exact cached_of_tc (walkReady_tc _ _ _) h.cached
      rw [(rewrites_putTag hcached (walkedRec s (line.get n))).2.2.1, walkReady_tc]
    · rw [walkReady_tc]

end

end Sys2Proof.Machine

namespace Sys2Proof.Machine

open Sys2Proof.Safety

/-! # The walk takes a line (R192, R193) -/

/-! ## The scrub list and the write list have room -/

theorem length_close (x : WalkRuns) : x.close.runs.length = x.runs.length := by
  unfold WalkRuns.close
  split
  · next r _ hr =>
    have hne : x.runs ≠ [] := fun he => by simp [he] at hr
    have hpos := List.length_pos_of_ne_nil hne
    simp only [List.length_append, List.length_dropLast, List.length_singleton]
    omega
  · rfl

theorem length_grownRuns (x : WalkRuns) : (grownRuns x).runs.length = x.runs.length := by
  unfold grownRuns
  split
  · rfl
  · next r hr =>
    have hne : x.runs ≠ [] := fun he => by simp [he] at hr
    have hpos := List.length_pos_of_ne_nil hne
    dsimp only
    split
    · rw [length_close]
      simp only [List.length_append, List.length_dropLast, List.length_singleton]
      omega
    · simp only [List.length_append, List.length_dropLast, List.length_singleton]
      omega

/-- A granule that is requeued with no run open brings a new run. -/
theorem length_take (x : WalkRuns) (g : Nat) (t : Tag) :
    (x.take g t).runs.length = x.runs.length + if requeues t = true ∧ x.isOpen = false then 1 else 0 := by
  rw [take_eq]
  by_cases hq : requeues t = true
  · rw [if_pos hq, length_grownRuns, readyRuns, if_neg (by simp [hq])]
    by_cases ho : x.isOpen = true
    · rw [if_pos ho, if_neg (by simp [ho])]
      rfl
    · rw [if_neg ho, if_pos ⟨hq, by simpa using ho⟩]
      simp
  · rw [if_neg hq, readyRuns, if_pos (by simpa using hq), length_close, if_neg fun h => hq h.1]
    rfl

/-- The scrub list and the write list have room for all that the walk does before place `n`. -/
def WalkFits (s : State) (w : Walk) (j k : Nat) (line : TagLine) (n : Nat) : Prop :=
  (walkRuns (w.runs s.su.runs) j line k n).runs.length ≤ 64 ∧ s.tc.writes.length + (walkWritten s line k n).length ≤ 32

section
variable {s u v : State} {w : Walk} {j k n : Nat} {line : TagLine}

theorem WalkFits.before (hk : k ≤ n) (h : WalkFits s w j k line (n + 1)) : WalkFits s w j k line n := by
  obtain ⟨hruns, hwrites⟩ := h
  rw [walkRuns_succ hk, length_take] at hruns
  rw [walkWritten_succ hk, List.length_append] at hwrites
  exact ⟨by omega, by omega⟩

theorem TookTo.writes_length (h : TookTo s u w j k line n) :
    u.tc.writes.length = s.tc.writes.length + (walkWritten s line k n).length := by
  rw [h.writes, List.length_append, List.length_map]

/-- Where there is room, the next granule does not wait. -/
theorem TookTo.room (h : TookTo s u w j k line n) (hk : k ≤ n) (hfits : WalkFits s w j k line (n + 1)) :
    ¬ needsPlace u (line.get n).tag ∧ (walkWrites s (line.get n) = true → u.tc.writes.length < 32) := by
  obtain ⟨hruns, hwrites⟩ := hfits
  constructor
  · rw [h.needsPlace_iff]
    rintro ⟨hq, ho, hl⟩
    rw [walkRuns_succ hk, length_take, if_pos ⟨hq, ho⟩] at hruns
    omega
  · intro hw
    rw [walkWritten_succ hk, if_pos hw, List.length_append, List.length_singleton] at hwrites
    rw [h.writes_length]
    omega

/-! ## From one place to another -/

theorem tookTo_recent (hrec : s.mc.recovery = some (.walk w)) (hcur : w.cursor = 4 * j + k) (hc : Cached s j line) :
    TookTo s (s.recent j line) w j k line k := by
  have hr := onlyRecency_recent hc
  have hframe := onlyChanges_recent s j line
  have hwalk : w.at (4 * j + k) (walkRuns (w.runs s.su.runs) j line k k) = w := by
    rw [walkRuns, placesFrom_self, ← hcur]
    rfl
  have hmc : (s.recent j line).mc = s.mc := hframe.2 .mc (by simp)
  rw [TookTo, hwalk]
  exact {
    frame := onlyChanges_mono hframe (by simp)
    cached := by rw [walkedLine_self]; exact cached_of_onlyRecency hr hc
    others := fun m _ => validLine_of_onlyRecency hr hc.1 m
    fills := hr.1
    stalled := hr.2.1
    writes := by rw [hr.2.2.1, walkWritten, placesFrom_self]; exact (List.append_nil _).symm
    su := by
      rw [walkRuns, placesFrom_self]
      exact hframe.2 .su (by simp)
    domain := fun d => by
      rw [walkOwners, placesFrom_self, if_neg (by simp)]
      exact domain_of_domains (hframe.2 .domains (by simp)) d
    mc := by rw [hmc, ← hrec]
    fixups := fun d => by rw [hmc, walkOwners, placesFrom_self]; simp }

/-- The granules of line `j` from place `n` on. -/
def placesOf (j n : Nat) : List Nat := (List.range (4 - n)).map fun i => 4 * j + n + i

theorem placesOf_cons (hn : n < 4) : placesOf j n = (4 * j + n) :: placesOf j (n + 1) := by
  have hlen : 4 - n = (4 - (n + 1)) + 1 := by omega
  rw [placesOf, hlen, List.range_succ_eq_map, List.map_cons, List.map_map]
  refine congrArg _ (List.map_congr_left fun i _ => ?_)
  simp only [Function.comp_apply]
  omega

theorem walkGranules_takes (hn : n < 4) (line : TagLine) {r : TagRec} (h : u.walkTag (4 * j + n) (line.get n) = (v, some r)) :
    State.walkGranules line (placesOf j n) u = State.walkGranules (line.set n r) (placesOf j (n + 1)) v := by
  have hmod : (4 * j + n) % 4 = n := by omega
  rw [placesOf_cons hn, State.walkGranules, hmod, h]

theorem walkGranules_waits (hn : n < 4) (line : TagLine) (h : u.walkTag (4 * j + n) (line.get n) = (v, none)) :
    State.walkGranules line (placesOf j n) u = v := by
  have hmod : (4 * j + n) % 4 = n := by omega
  rw [placesOf_cons hn, State.walkGranules, hmod, h]

/-- Where there is room, the walk takes the places of the line in order. -/
theorem walk_takes (hc : w.counting = false) (hv : TookTo s v w j k line k) {m : Nat} (hkm : k ≤ m) (hm : m ≤ 4)
    (hfits : WalkFits s w j k line m) :
    ∃ u, TookTo s u w j k line m ∧ u.tc.held = v.tc.held ∧
      State.walkGranules line (placesOf j k) v = State.walkGranules (walkedLine s line k m) (placesOf j m) u := by
  induction m, hkm using Nat.le_induction with
  | base => exact ⟨v, hv, rfl, by rw [walkedLine_self]⟩
  | succ n hkn ih =>
    obtain ⟨u, hu, hheld, hsteps⟩ := ih (by omega) (hfits.before hkn)
    have hn : n < 4 := by omega
    obtain ⟨hplace, hroom⟩ := hu.room hkn hfits
    obtain ⟨z, hz, hzheld, htag⟩ := hu.takes hc hkn hn hplace hroom
    refine ⟨z, hz, hzheld.trans hheld, ?_⟩
    rw [hsteps, walkGranules_takes hn _ (v := z) (r := walkedRec s (line.get n)) (by rw [walkedLine_get hn]; exact htag),
      walkedLine_set hkn hn]

/-! ## The counts of a line -/

theorem walkCount_held (w : Walk) (t : Tag) (d : DomainId) :
    smapGet 0 (w.count t).heldCounts d.toNat = smapGet 0 w.heldCounts d.toNat + if heldBy t = some d then 1 else 0 := by
  have hset (o : DomainId) : smapGet 0 (smapSet 0 w.heldCounts o.toNat (smapGet 0 w.heldCounts o.toNat + 1)) d.toNat =
      smapGet 0 w.heldCounts d.toNat + if o = d then 1 else 0 := by
    rw [smapGet_set]
    by_cases h : o = d
    · rw [if_pos h, if_pos (by rw [h]), h]
    · rw [if_neg h, if_neg fun he => h (BitVec.eq_of_toNat_eq he.symm), Nat.add_zero]
  cases t <;> simp [Walk.count, Walk.countHeld, Walk.countRef, heldBy, hset]

theorem walkCount_refs (w : Walk) (t : Tag) (i : ShareIx) :
    smapGet 0 (w.count t).refCounts i.toNat = smapGet 0 w.refCounts i.toNat + if t.share = some i then 1 else 0 := by
  cases t with
  | shared o r k =>
    simp only [Walk.count, Walk.countHeld, Walk.countRef]
    rw [smapGet_set]
    by_cases h : k = i
    · simp [h, Tag.share]
    · simp [h, Tag.share, show i.toNat ≠ k.toNat from fun he => h (BitVec.eq_of_toNat_eq he.symm)]
  | _ => simp [Walk.count, Walk.countHeld, Tag.share]

/-- The counts are all that the records of a line change of the walk. -/
theorem countLine_spec (w : Walk) (line : TagLine) :
    { w.countLine line with heldCounts := [], refCounts := [] } = { w with heldCounts := [], refCounts := [] } ∧
      (∀ d : DomainId, smapGet 0 (w.countLine line).heldCounts d.toNat =
        smapGet 0 w.heldCounts d.toNat + (lineTags line).countP fun r => decide (heldBy r.tag = some d)) ∧
      ∀ i : ShareIx, smapGet 0 (w.countLine line).refCounts i.toNat =
        smapGet 0 w.refCounts i.toNat + (lineTags line).countP fun r => decide (r.tag.share = some i) := by
  have hlist : w.countLine line = (lineTags line).foldl (fun w r => w.count r.tag) w := rfl
  rw [hlist]
  clear hlist
  generalize lineTags line = l
  induction l generalizing w with
  | nil => exact ⟨rfl, fun d => rfl, fun i => rfl⟩
  | cons r l ih =>
    obtain ⟨hrest, hheld, hrefs⟩ := ih (w.count r.tag)
    rw [List.foldl_cons]
    refine ⟨hrest.trans (by cases r.tag <;> rfl), fun d => ?_, fun i => ?_⟩
    · rw [hheld, walkCount_held, List.countP_cons]
      simp only [decide_eq_true_eq]
      omega
    · rw [hrefs, walkCount_refs, List.countP_cons]
      simp only [decide_eq_true_eq]
      omega

theorem setWalk_setWalk (u : State) (a b : Walk) : (u.setWalk a).setWalk b = u.setWalk b := rfl

/-- The line is counted, and the pass ends with the last one. -/
theorem lineDone_eq (hrec : u.mc.recovery = some (.walk w)) (line : TagLine) :
    u.lineDone line = if w.cursor < u.tenants then u.setWalk (w.countLine line) else (u.setWalk (w.countLine line)).endPass := by
  have hrest := (countLine_spec w line).1
  have hcursor : (w.countLine line).cursor = w.cursor := by simpa using congrArg Walk.cursor hrest
  have hwalk : (u.setWalk (w.countLine line)).walk = w.countLine line := rfl
  rw [State.lineDone, walk_of_recovery hrec, hwalk, hcursor]
  by_cases h : w.cursor < u.tenants
  · rw [if_pos h, if_neg (show ¬ (u.setWalk (w.countLine line)).tenants ≤ w.cursor from Nat.not_le.2 h)]
  · rw [if_neg h, if_pos (show (u.setWalk (w.countLine line)).tenants ≤ w.cursor from Nat.not_lt.1 h)]

/-- A counting pass goes through the granules of a line without a change (R193). -/
theorem walkGranules_counting (hrec : u.mc.recovery = some (.walk w)) (hc : w.counting = true) (line : TagLine) (gs : List Nat) :
    State.walkGranules line gs u = (u.setWalk { w with cursor := w.cursor + gs.length }).lineDone line := by
  induction gs generalizing u w with
  | nil => exact congrArg (fun u => State.lineDone u line) (setWalk_same hrec).symm
  | cons g gs ih =>
    have htag : u.walkTag g (line.get (g % 4)) = (u.setWalk { w with cursor := w.cursor + 1 }, some (line.get (g % 4))) := by
      rw [walkTag_counting (by rw [walk_of_recovery hrec]; exact hc), State.walkNext, walk_of_recovery hrec]
    rw [State.walkGranules, htag]
    dsimp only
    rw [set_get_same, ih (u := u.setWalk { w with cursor := w.cursor + 1 }) rfl hc, List.length_cons]
    have hlen : w.cursor + 1 + gs.length = w.cursor + (gs.length + 1) := by omega
    rw [setWalk_setWalk]
    dsimp only
    rw [hlen]

end

end Sys2Proof.Machine

namespace Sys2Proof.Machine

open Sys2Proof.Safety

/-! # The walk takes a line, or waits in it (R192, R193) -/

theorem restOfLine_eq {j k : Nat} (hk : k < 4) : restOfLine (4 * j + k) = placesOf j k := by
  have hmod : (4 * j + k) % 4 = k := by omega
  rw [restOfLine, hmod, placesOf]

theorem exec_walkStep_of_cached {s : State} {w : Walk} {j k : Nat} {line : TagLine} (hr : s.mc.inReset = none)
    (hrec : s.mc.recovery = some (.walk w)) (hb : w.busy = false) (hp : w.placeWait = false) (hk : k < 4)
    (hcur : w.cursor = 4 * j + k) (hc : Cached s j line) :
    exec .walkStep s = .next (State.walkGranules line (placesOf j k) (s.recent j line)).settle := by
  rw [exec_walkStep hr hrec hb hp, walkTry_of_cached hrec hk hcur hc, restOfLine_eq hk]

/-- What the walk's own record is once it has counted a line. -/
theorem countLine_fields (w : Walk) (line : TagLine) :
    (w.countLine line).cursor = w.cursor ∧ (w.countLine line).busy = w.busy ∧
      (w.countLine line).placeWait = w.placeWait ∧ (w.countLine line).counting = w.counting ∧
      (w.countLine line).recountMark = w.recountMark ∧ (w.countLine line).tagsLost = w.tagsLost ∧
      (w.countLine line).runOpen = w.runOpen ∧ (w.countLine line).runsRequeued = w.runsRequeued := by
  have h := (countLine_spec w line).1
  simp only [Walk.mk.injEq] at h
  obtain ⟨h1, h2, h3, h4, h5, -, -, h6, h7, h8⟩ := h
  exact ⟨h1, h2, h3, h5, h6, h7, h4, h8⟩

section
variable {s u v : State} {w : Walk} {j k n : Nat} {line : TagLine}

/-- A granule waits for a place of the scrub list. -/
theorem TookTo.waits_place (h : TookTo s u w j k line n) (hc : w.counting = false) (hn : n < 4)
    (hp : needsPlace u (line.get n).tag) :
    ∃ v, State.walkGranules (walkedLine s line k n) (placesOf j n) u = v ∧ v.tc.held = u.tc.held ∧
      Took s v j k line n (walkOwners line k n) (walkRuns (w.runs s.su.runs) j line k n)
        { w.at (4 * j + n) (walkRuns (w.runs s.su.runs) j line k n) with placeWait := true } := by
  have htag := walkTag_place (s := u) (by rw [h.walk]; exact hc) hp (4 * j + n)
  rw [h.walk] at htag
  refine ⟨_, walkGranules_waits hn _ ?_, ?_, h.setWalk _⟩
  · rw [walkedLine_get hn]
    exact htag
  · rfl

/-- A granule waits for room in the write list. -/
theorem TookTo.waits_room (h : TookTo s u w j k line n) (hc : w.counting = false) (hk : k ≤ n) (hn : n < 4)
    (hw : walkWrites s (line.get n) = true) (hp : ¬ needsPlace u (line.get n).tag)
    (hfull : 32 ≤ s.tc.writes.length + (walkWritten s line k n).length) :
    let x := readyRuns (walkRuns (w.runs s.su.runs) j line k n) (4 * j + n) (line.get n).tag
    ∃ v, State.walkGranules (walkedLine s line k n) (placesOf j n) u = v ∧ v.tc.held = u.tc.held ++ [.change .walk j] ∧
      Took s v j k line n (walkOwners line k (n + 1)) x { w.at (4 * j + n) x with busy := true } := by
  intro x
  have hline : lineOf (4 * j + n) = j := by
    rw [lineOf]
    omega
  have htag := walkTag_full (s := u) (r := line.get n) (by rw [h.walk]; exact hc)
    (by rw [walkWrites_of_shares h.shares]; exact hw) hp (by rw [h.writes_length]; exact hfull) (4 * j + n)
  have hready := h.walkReady rfl (4 * j + n) (line.get n).tag
  rw [← walkOwners_succ hk] at hready
  have hheld := hready.hold (.change .walk j)
  rw [walkReady_tc] at hheld
  rw [hline, State.walkWaits, walk_of_recovery hheld.recovery] at htag
  refine ⟨_, walkGranules_waits hn _ ?_, ?_, hheld.setWalk _⟩
  · rw [walkedLine_get hn]
    exact htag
  · rfl

end

/-- Settles O7: the walk takes a line in either pass, or waits at one of its granules. -/
theorem walkTakesLine : Obligations.WalkTakesLine := by
  intro s w j k line hr hrec hb hp hk hcur hten hc after counted
  have hexec := exec_walkStep_of_cached hr hrec hb hp hk hcur hc
  have hrecency := onlyRecency_recent hc
  have hrecent : OnlyChanges [.tc] s (s.recent j line) := onlyChanges_recent s j line
  have hmc : (s.recent j line).mc = s.mc := hrecent.2 .mc (by simp)
  have hstart : TookTo s (s.recent j line) w j k line k := tookTo_recent hrec hcur hc
  have hheld : (s.recent j line).tc.held = s.tc.held := hrecency.2.2.2.1
  have hcounted {w' : Walk} (hw' : w'.cursor = 4 * j + 4 ∧ w'.busy = false ∧ w'.placeWait = false ∧ w'.counting = w.counting ∧
      w'.recountMark = w.recountMark ∧ w'.tagsLost = w.tagsLost ∧ w'.heldCounts = w.heldCounts ∧ w'.refCounts = w.refCounts)
      (line' : TagLine) : counted (w'.countLine line') line' := by
    obtain ⟨h1, h2, h3, h4, h5, h6, h7, h8⟩ := hw'
    obtain ⟨c1, c2, c3, c4, c5, c6, -, -⟩ := countLine_fields w' line'
    obtain ⟨-, ch, cr⟩ := countLine_spec w' line'
    rw [h7] at ch
    rw [h8] at cr
    exact ⟨c1.trans h1, c2.trans h2, c3.trans h3, c4.trans h4, c5.trans h5, c6.trans h6, ch, cr⟩
  have hafter {u : State} {w' : Walk} (hu : u.mc.recovery = some (.walk w')) (hcursor : w'.cursor = 4 * j + 4)
      (hpool : u.mc.poolCode = s.mc.poolCode) (line' : TagLine) :
      u.lineDone line' = after (u.setWalk (w'.countLine line')) := by
    rw [lineDone_eq hu, hcursor, State.tenants, hpool]
    rfl
  refine ⟨fun hcounting => ?_, fun hcounting => ?_, fun hcounting hopen hq hl => ?_⟩
  · have hlen : w.cursor + (placesOf j k).length = 4 * j + 4 := by
      rw [hcur, placesOf, List.length_map, List.length_range]
      omega
    rw [walkGranules_counting (by rw [hmc]; exact hrec) hcounting, hlen] at hexec
    rw [hafter (w' := { w with cursor := 4 * j + 4 }) rfl rfl (by simp [State.setWalk])] at hexec
    obtain ⟨-, -, -, -, -, -, hopen, hrequeued⟩ := countLine_fields { w with cursor := 4 * j + 4 } line
    refine ⟨_, _, hexec, onlyChanges_mono (onlyChanges_trans hrecent (onlyChanges_setMc _ _)) (by simp),
      onlyRecency_of_tc rfl rfl hrecency, ?_, hcounted (w' := { w with cursor := 4 * j + 4 }) ⟨rfl, hb, hp, rfl, rfl, rfl, rfl, rfl⟩ line, hopen, hrequeued⟩
    simp only [State.setWalk, State.setMc_mc, hmc]
  · intro upTo written owners runs fits took
    have htook {u : State} {n : Nat} {os : List DomainId} {x : WalkRuns} {w' : Walk} (h : Took s u j k line n os x w') :
        took u n os x w' :=
      ⟨h.frame, h.cached, h.others, h.fills, h.stalled, h.writes, h.su, h.domain, h.mc, h.fixups⟩
    refine ⟨fun hfits => ?_, fun n hkn hn hfits => ?_⟩
    · obtain ⟨u, hu, huheld, hsteps⟩ := walk_takes hcounting hstart (m := 4) (by omega) le_rfl hfits
      have hdone : State.walkGranules (walkedLine s line k 4) (placesOf j 4) u = u.lineDone (walkedLine s line k 4) := rfl
      have hpool : u.mc.poolCode = s.mc.poolCode := by simpa using congrArg ModeController.poolCode hu.mc
      rw [hsteps, hdone, hafter hu.recovery rfl hpool] at hexec
      obtain ⟨-, -, -, -, -, -, hopen, hrequeued⟩ :=
        countLine_fields (w.at (4 * j + 4) (walkRuns (w.runs s.su.runs) j line k 4)) (walkedLine s line k 4)
      exact ⟨_, _, hexec, htook (hu.setWalk _), huheld.trans hheld,
        hcounted (w' := w.at (4 * j + 4) (walkRuns (w.runs s.su.runs) j line k 4)) ⟨rfl, hb, hp, rfl, rfl, rfl, rfl, rfl⟩ _,
        hopen, hrequeued⟩
    · intro r
      obtain ⟨u, hu, huheld, hsteps⟩ := walk_takes hcounting hstart hkn (by omega) hfits
      rw [hsteps] at hexec
      refine ⟨fun hq ho hl => ?_, ?_⟩
      · obtain ⟨v, hv, hvheld, hvtook⟩ := hu.waits_place hcounting hn ((hu.needsPlace_iff _).2 ⟨hq, ho, hl⟩)
        rw [hv] at hexec
        refine ⟨v, hexec, hvheld.trans (huheld.trans hheld), ?_⟩
        rw [← ho]
        exact htook hvtook
      · intro hw hfull hplace x
        have hno : ¬ needsPlace u (line.get n).tag := by
          rw [hu.needsPlace_iff]
          rintro ⟨hq, ho, hl⟩
          rcases hplace with h | h | h
          · exact absurd (hq.symm.trans h) (by simp)
          · exact absurd (ho.symm.trans h) (by simp)
          · exact absurd hl (Nat.not_le.2 h)
        obtain ⟨v, hv, hvheld, hvtook⟩ := hu.waits_room hcounting hkn hn hw hno hfull
        rw [hv] at hexec
        exact ⟨v, hexec, by rw [hvheld, huheld, hheld], htook hvtook⟩
  · have hsu : (s.recent j line).su = s.su := hrecent.2 .su (by simp)
    have hwalk : (s.recent j line).walk = w := walk_of_recovery (by rw [hmc]; exact hrec)
    have htag := walkTag_place (s := s.recent j line) (by rw [hwalk]; exact hcounting)
      (r := line.get k) ⟨hq, by rw [hwalk]; exact hopen, by rw [hsu]; exact hl⟩ (4 * j + k)
    rw [hwalk] at htag
    rw [walkGranules_waits hk line htag] at hexec
    refine ⟨_, hexec, onlyChanges_mono (onlyChanges_trans hrecent (onlyChanges_setMc _ _)) (by simp),
      onlyRecency_of_tc rfl rfl hrecency, ?_⟩
    simp only [State.setWalk, State.setMc_mc, hmc]

end Sys2Proof.Machine

namespace Sys2Proof.Machine

open Sys2Proof.Safety

/-! # Recovery reads the headers (R191) -/

theorem exec_headerReadComplete {s : State} {c : PoolCode} {read : ReadOutcome} (hr : s.mc.inReset = none)
    (hrec : s.mc.recovery = some (.header c)) (hfits : read.fits 64 = true) :
    exec (.headerReadComplete read) s = .next (s.headerRead c read) := by
  rw [exec, execHeaderReadComplete, onEvent_of_no_reset hr, hrec]
  dsimp only
  rw [if_pos hfits]

/-- What the read of a header line finds: whether the header is valid for its code, `none` where it is not read (R191). -/
def headerFound (s : State) (c : PoolCode) (read : ReadOutcome) : Option Bool :=
  ((s.dram.decay (headerAddress c) read).record (headerAddress c) 64 read).map (headerValidFor c)

theorem headerRead_of_valid {s : State} {c : PoolCode} {read : ReadOutcome} (h : headerFound s c read = some true) :
    s.headerRead c read = (s.setDram (s.dram.decay (headerAddress c) read)).setMc
      { s.mc with poolCode := some c, storeState := .formatted, recovery := some (.domains 0) } := by
  have hvalid : (headerFound s c read).getD false = true := by rw [h]; rfl
  rw [State.headerRead]
  exact if_pos hvalid

theorem headerRead_of_invalid {s : State} {c : PoolCode} {read : ReadOutcome} (h : headerFound s c read ≠ some true) :
    s.headerRead c read =
      if c = 0 then (s.setDram (s.dram.decay (headerAddress c) read)).endRecovery 0 0 0
      else (s.setDram (s.dram.decay (headerAddress c) read)).setMc { s.mc with recovery := some (.header (c - 1)) } := by
  have hinvalid : ¬ (headerFound s c read).getD false = true := by
    intro hg
    cases hf : headerFound s c read with
    | none => simp [hf] at hg
    | some b =>
      rw [hf] at hg h
      exact h (congrArg some hg)
  rw [State.headerRead]
  refine (if_neg hinvalid).trans ?_
  by_cases hc : c = 0
  · rw [nextCode, if_pos hc, if_pos hc]
  · rw [nextCode, if_neg hc, if_neg hc]
    rfl

/-- The end of recovery, with no walk made (R194). -/
theorem endRecovery_spec (s : State) (walked lost requeued : Nat) :
    OnlyChanges [.mc, .cp] s (s.endRecovery walked lost requeued) ∧
      (s.endRecovery walked lost requeued).mc = { s.mc with
        mode := .config, countsStale := false, decayTimer := some s.mc.decayCode, recovery := none, fixups := [] } ∧
      (s.endRecovery walked lost requeued).cp =
        noticed s.cp s.eu.flags (.start s.mc.cause s.mc.storeState walked lost requeued) := by
  rw [State.endRecovery, placeNotice_eq]
  exact ⟨onlyChanges_trans (onlyChanges_setMc s _) (onlyChanges_setCp _ _), rfl, rfl⟩

/-- Settles O5: the end of a warm reset, and the read of each header. -/
theorem recoveryReadsHeaders : Obligations.RecoveryReadsHeaders := by
  refine ⟨fun s hl hr => ?_, ?_⟩
  · rw [exec, execResetLineEnd, if_pos hl]
    dsimp only
    rw [if_pos hr]
    rfl
  · intro s c read hr hrec hfits found initial
    have hdram : OnlyChanges [.dram] s (s.setDram (s.dram.decay (headerAddress c) read)) := onlyChanges_setDram s _
    have hinitial {t : State} (hd : t.domains = s.domains) (hs : t.shares = s.shares) : initial s → initial t :=
      fun ⟨hdom, hsh⟩ => ⟨fun d => (domain_of_domains hd d).trans (hdom d), fun i => (share_of_shares hs i).trans (hsh i)⟩
    refine ⟨_, exec_headerReadComplete hr hrec hfits, ?_⟩
    by_cases hf : found = some true
    · rw [headerRead_of_valid hf, if_pos hf]
      exact ⟨rfl, hinitial rfl rfl, onlyChanges_trans hdram (onlyChanges_setMc _ _), rfl⟩
    · rw [headerRead_of_invalid hf, if_neg hf]
      by_cases hc : c = 0
      · obtain ⟨hoc, hmc, hcp⟩ := endRecovery_spec (s.setDram (s.dram.decay (headerAddress c) read)) 0 0 0
        rw [if_pos hc, if_pos hc]
        exact ⟨hoc.2 .dram (by simp), hinitial (hoc.2 .domains (by simp)) (hoc.2 .shares (by simp)),
          onlyChanges_trans hdram hoc, hmc, hcp⟩
      · rw [if_neg hc, if_neg hc]
        exact ⟨rfl, hinitial rfl rfl, onlyChanges_trans hdram (onlyChanges_setMc _ _), rfl⟩

end Sys2Proof.Machine

namespace Sys2Proof.Machine

open Sys2Proof.Safety

/-! # Recovery reads the records of the domains (R38, R191) -/

/-- What the read of a domain's persisted record finds: `none` where it is not sound (R38). -/
def domainFound (d : Dram) (c : PoolCode) (read : ReadOutcome) (n : Nat) : Option PersistedDomain :=
  (d.record (domainAddress c n) 32 read).bind (PersistedDomain.ofStored n)

/-- A domain as it is loaded (R38). -/
def domainLoaded (d : Dram) (c : PoolCode) (read : ReadOutcome) (n : Nat) : DomainRec :=
  if n = 0 then { state := .opened, quota := tenantGranules (some c), held := 0, score := 0, latch := false }
  else loadedDomain (domainFound d c read n)

/-- Whether the quota of a domain that is loaded is set later (R38). -/
def quotaLater (d : Dram) (c : PoolCode) (read : ReadOutcome) (n : Nat) : Bool :=
  decide (n ≠ 0 ∧ domainFound d c read n = none)

theorem loadDomain_eq {s : State} {c : PoolCode} (hp : s.mc.poolCode = some c) (read : ReadOutcome) (n : Nat) :
    s.loadDomain c read n = (s.setDomain (BitVec.ofNat 10 n) (domainLoaded s.dram c read n)).setMc { s.mc with
      fixups := s.mc.fixups ++ if quotaLater s.dram c read n = true then [BitVec.ofNat 10 n] else [] } := by
  have hself (x : DomainRec) : (s.setDomain (BitVec.ofNat 10 n) x).setMc { s.mc with fixups := s.mc.fixups ++ [] } =
      s.setDomain (BitVec.ofNat 10 n) x := by
    rw [List.append_nil]
    rfl
  rw [State.loadDomain]
  by_cases h0 : n = 0
  · have hlater : ¬ quotaLater s.dram c read n = true := by simp [quotaLater, h0]
    rw [if_pos h0, domainLoaded, if_pos h0, if_neg hlater, hself, State.tenants, hp]
  · rw [if_neg h0, domainLoaded, if_neg h0]
    cases hf : domainFound s.dram c read n with
    | none =>
      have hlater : quotaLater s.dram c read n = true := by simp [quotaLater, h0, hf]
      rw [if_pos hlater]
      have hfound : (s.dram.record (domainAddress c n) 32 read).bind (PersistedDomain.ofStored n) = none := hf
      simp only [hfound, Option.isNone_none, if_true]
      rfl
    | some p =>
      have hlater : ¬ quotaLater s.dram c read n = true := by simp [quotaLater, hf]
      rw [if_neg hlater, hself]
      have hfound : (s.dram.record (domainAddress c n) 32 read).bind (PersistedDomain.ofStored n) = some p := hf
      simp only [hfound, Option.isNone_some, Bool.false_eq_true, if_false]

/-- The part once the line of a domain pair has been read, and nothing loaded yet (R191). -/
def State.domainLineRead (s : State) (c : PoolCode) (k : Nat) (read : ReadOutcome) : State :=
  (s.setDram (s.dram.decay (domainAddress c (2 * k)) read)).setMc
    { s.mc with recovery := some (if k + 1 < Config.domainLines then .domains (k + 1) else .shares 0) }

theorem exec_domainRecordRead {s : State} {c : PoolCode} {k : Nat} {read : ReadOutcome} (hr : s.mc.inReset = none)
    (hp : s.mc.poolCode = some c) (hrec : s.mc.recovery = some (.domains k)) (hfits : read.fits 64 = true) :
    exec (.domainRecordRead read) s =
      .next (((s.domainLineRead c k read).loadDomain c read (2 * k)).loadDomain c read (2 * k + 1)) := by
  rw [exec, execDomainRecordRead, onEvent_of_no_reset hr, hrec, hp]
  dsimp only
  rw [if_pos hfits]
  rfl

/-- The two domains of a line are loaded. -/
theorem domainsLoaded {s : State} {c : PoolCode} {k : Nat} {read : ReadOutcome} (hp : s.mc.poolCode = some c) (hk : k < 512) :
    let d := s.dram.decay (domainAddress c (2 * k)) read
    let t := ((s.domainLineRead c k read).loadDomain c read (2 * k)).loadDomain c read (2 * k + 1)
    OnlyChanges [.dram, .domains, .mc] s t ∧ t.dram = d ∧
      (∀ x : DomainId, t.domain x = if x.toNat / 2 = k then domainLoaded d c read x.toNat else s.domain x) ∧
      t.mc = { s.mc with
        recovery := some (if k = 511 then .shares 0 else .domains (k + 1))
        fixups := s.mc.fixups ++ ([2 * k, 2 * k + 1].filter (quotaLater d c read)).map (BitVec.ofNat 10) } := by
  intro d t
  let u := s.domainLineRead c k read
  let y := u.loadDomain c read (2 * k)
  have hu : OnlyChanges [.dram, .mc] s u :=
    onlyChanges_trans (onlyChanges_setDram s _) (onlyChanges_setMc _ _)
  have hload {z : State} (hz : z.mc.poolCode = some c) (n : Nat) :
      OnlyChanges [.domains, .mc] z (z.loadDomain c read n) := by
    rw [loadDomain_eq hz]
    exact onlyChanges_trans (onlyChanges_setDomain z _ _) (onlyChanges_setMc _ _)
  have hudram : u.dram = d := rfl
  have hy : y = _ := loadDomain_eq (s := u) hp read (2 * k)
  have hypool : y.mc.poolCode = some c := by rw [hy]; exact hp
  have hydram : y.dram = d := (hload (z := u) hp (2 * k)).2 .dram (by simp)
  have ht : t = _ := loadDomain_eq (s := y) hypool read (2 * k + 1)
  rw [hydram] at ht
  rw [hudram] at hy
  refine ⟨onlyChanges_mono (onlyChanges_trans (onlyChanges_trans hu (hload (z := u) hp (2 * k))) (hload hypool (2 * k + 1)))
    (by simp), ((hload hypool (2 * k + 1)).2 .dram (by simp)).trans hydram, fun x => ?_, ?_⟩
  · have hx (n : Nat) (hn : n < 1024) : x = BitVec.ofNat 10 n ↔ x.toNat = n := by
      rw [← BitVec.toNat_inj, BitVec.toNat_ofNat, Nat.mod_eq_of_lt hn]
    rw [ht, State.setMc_domain, State.setDomain_domain, hy, State.setMc_domain, State.setDomain_domain]
    by_cases hodd : x.toNat = 2 * k + 1
    · rw [if_pos ((hx _ (by omega)).2 hodd), if_pos (by omega), hodd]
    · rw [if_neg (mt (hx _ (by omega)).1 hodd)]
      by_cases heven : x.toNat = 2 * k
      · rw [if_pos ((hx _ (by omega)).2 heven), if_pos (by omega), heven]
      · rw [if_neg (mt (hx _ (by omega)).1 heven), if_neg (by omega)]
        rfl
  · have hnext : (if k + 1 < Config.domainLines then Recovery.domains (k + 1) else .shares 0) =
        if k = 511 then .shares 0 else .domains (k + 1) := by
      rw [show Config.domainLines = 512 from rfl]
      by_cases h : k = 511
      · rw [if_pos h, if_neg (by omega)]
      · rw [if_neg h, if_pos (by omega)]
    have hfix : (if quotaLater d c read (2 * k) = true then [BitVec.ofNat 10 (2 * k)] else []) ++
        (if quotaLater d c read (2 * k + 1) = true then [BitVec.ofNat 10 (2 * k + 1)] else []) =
          ([2 * k, 2 * k + 1].filter (quotaLater d c read)).map (BitVec.ofNat 10) := by
      rw [List.filter_cons, List.filter_singleton]
      cases quotaLater d c read (2 * k) <;> cases quotaLater d c read (2 * k + 1) <;> rfl
    rw [ht, State.setMc_mc, hy, State.setMc_mc, ← hfix, ← hnext, ← List.append_assoc]
    rfl

/-! # Recovery reads the records of the share entries (R51, R191) -/

/-- The part once the line of four share records has been read, and nothing loaded yet (R191). -/
def State.shareLineRead (s : State) (c : PoolCode) (k : Nat) (read : ReadOutcome) : State :=
  (s.setDram (s.dram.decay (shareAddress c (4 * k)) read)).setMc
    { s.mc with recovery := some (if k + 1 < Config.shareLines then .shares (k + 1) else .walk newWalk) }

/-- The four places of a line of share records. -/
def sharePlaces (k : Nat) : List Nat := [4 * k, 4 * k + 1, 4 * k + 2, 4 * k + 3]

/-- The part once the four entries of a line are loaded, and the line written back where one of its records cannot
stand (R51). -/
def State.sharesTaken (s : State) (c : PoolCode) (k : Nat) (read : ReadOutcome) : State :=
  if (sharePlaces k).any (fun n => ((s.shareLineRead c k read).loadedShare c read n).isNone) = true then
    ((sharePlaces k).foldl (State.loadShare c read) (s.shareLineRead c k read)).persistShareLine k
  else (sharePlaces k).foldl (State.loadShare c read) (s.shareLineRead c k read)

theorem exec_shareRecordRead {s : State} {c : PoolCode} {k : Nat} {read : ReadOutcome} (hr : s.mc.inReset = none)
    (hp : s.mc.poolCode = some c) (hrec : s.mc.recovery = some (.shares k)) (hfits : read.fits 64 = true) :
    exec (.shareRecordRead read) s = .next (s.sharesTaken c k read) := by
  rw [exec, execShareRecordRead, onEvent_of_no_reset hr, hrec, hp]
  dsimp only
  rw [if_pos hfits]
  rfl

/-- What a record gives depends on DRAM and the domains alone (R51). -/
theorem loadedShare_congr {s t : State} (hdram : t.dram = s.dram) (hdom : t.domains = s.domains) (c : PoolCode)
    (read : ReadOutcome) (n : Nat) : t.loadedShare c read n = s.loadedShare c read n := by
  simp only [State.loadedShare, hdram, domain_of_domains hdom]

/-- The entries of a list of places are loaded, each from what the line's read found. -/
theorem foldl_loadShare (c : PoolCode) (read : ReadOutcome) (u : State) (l : List Nat) (hl : ∀ n ∈ l, n < 256) :
    OnlyChanges [.shares] u (l.foldl (State.loadShare c read) u) ∧
      ∀ i : ShareIx, (l.foldl (State.loadShare c read) u).share i =
        if i.toNat ∈ l then (u.loadedShare c read i.toNat).getD freeEntry else u.share i := by
  induction l generalizing u with
  | nil => exact ⟨onlyChanges_mono (onlyChanges_refl u) (by simp), fun i => by simp⟩
  | cons n l ih =>
    have hstep : OnlyChanges [.shares] u (State.loadShare c read u n) := onlyChanges_setShare u _ _
    obtain ⟨hoc, hshare⟩ := ih (State.loadShare c read u n) fun m hm => hl m (List.mem_cons_of_mem _ hm)
    rw [List.foldl_cons]
    refine ⟨onlyChanges_mono (onlyChanges_trans hstep hoc) (by simp), fun i => ?_⟩
    have hi : i = BitVec.ofNat 8 n ↔ i.toNat = n := by
      rw [← BitVec.toNat_inj, BitVec.toNat_ofNat, Nat.mod_eq_of_lt (hl n (by simp))]
    rw [hshare, loadedShare_congr (hstep.2 .dram (by simp)) (hstep.2 .domains (by simp)), State.loadShare, State.setShare_share]
    by_cases hn : i.toNat = n
    · rw [if_pos (hi.2 hn), ← hn]
      simp
    · rw [if_neg (mt hi.1 hn)]
      exact if_congr (by simp [hn]) rfl rfl

end Sys2Proof.Machine

namespace Sys2Proof.Machine

open Sys2Proof.Safety

/-! # Recovery loads the two tables (R38, R51, R191) -/

theorem mem_sharePlaces {k n : Nat} : n ∈ sharePlaces k ↔ n / 4 = k := by
  simp only [sharePlaces, List.mem_cons, List.not_mem_nil, or_false]
  omega

/-- Whether some record of a line cannot stand. -/
theorem any_sharePlaces (k : Nat) (f : Nat → Option ShareEntry) :
    (sharePlaces k).any (fun n => (f n).isNone) = true ↔ ¬ ∀ i < 4, f (4 * k + i) ≠ none := by
  rw [List.any_eq_true]
  constructor
  · rintro ⟨n, hn, hf⟩ hall
    have hplace := mem_sharePlaces.1 hn
    refine hall (n % 4) (by omega) ?_
    rw [show 4 * k + n % 4 = n by omega]
    exact Option.isNone_iff_eq_none.1 hf
  · intro hno
    obtain ⟨i, hi⟩ := Classical.not_forall.1 hno
    obtain ⟨hlt, hf⟩ := Classical.not_imp.1 hi
    refine ⟨4 * k + i, mem_sharePlaces.2 (by omega), ?_⟩
    rw [not_not.1 hf]
    rfl

/-- The four entries of a line are loaded, and the line is written back where one of its records cannot stand. -/
theorem sharesLoaded {s : State} {c : PoolCode} {k : Nat} {read : ReadOutcome} (hp : s.mc.poolCode = some c) (hk : k < 64) :
    let u := s.shareLineRead c k read
    let stands (n : Nat) : Option ShareEntry := u.loadedShare c read n
    let t := s.sharesTaken c k read
    OnlyChanges [.dram, .shares, .mc] s t ∧
      (∀ i : ShareIx, t.share i = if i.toNat / 4 = k then (stands i.toNat).getD freeEntry else s.share i) ∧
      (if ∀ i < 4, stands (4 * k + i) ≠ none then t.dram = s.dram.decay (shareAddress c (4 * k)) read
       else Issues (s.setDram (s.dram.decay (shareAddress c (4 * k)) read)) t [(shareAddress c (4 * k), shareLineOf t k)]) ∧
      t.mc = u.mc := by
  intro u stands t
  have hu : OnlyChanges [.dram, .mc] s u := onlyChanges_trans (onlyChanges_setDram s _) (onlyChanges_setMc _ _)
  obtain ⟨hload, hshare⟩ := foldl_loadShare c read u (sharePlaces k) fun n hn => by
    have := mem_sharePlaces.1 hn
    omega
  obtain ⟨y, heq⟩ : ∃ y, y = (sharePlaces k).foldl (State.loadShare c read) u := ⟨_, rfl⟩
  rw [← heq] at hload hshare
  have hy : OnlyChanges [.dram, .shares, .mc] s y := onlyChanges_mono (onlyChanges_trans hu hload) (by simp)
  have hydram : y.dram = u.dram := hload.2 .dram (by simp)
  have hymc : y.mc = u.mc := hload.2 .mc (by simp)
  have hyshare (i : ShareIx) : y.share i = if i.toNat / 4 = k then (stands i.toNat).getD freeEntry else s.share i := by
    rw [hshare]
    exact if_congr mem_sharePlaces rfl rfl
  by_cases hall : ∀ i < 4, stands (4 * k + i) ≠ none
  · have ht : t = y := (if_neg (mt (any_sharePlaces k stands).1 (not_not_intro hall))).trans heq.symm
    rw [ht, if_pos hall]
    exact ⟨hy, hyshare, hydram, hymc⟩
  · have ht : t = y.persistShareLine k := by
      rw [heq]
      exact if_pos ((any_sharePlaces k stands).2 hall)
    obtain ⟨hpersist, hissues⟩ := issues_persistShareLine (s := y) (p := c) (by rw [hymc]; exact hp) k
    have hshares : (y.persistShareLine k).shares = y.shares := hpersist.2 .shares (by simp)
    rw [ht, if_neg hall]
    refine ⟨onlyChanges_mono (onlyChanges_trans hy hpersist) (by simp), fun i => (share_of_shares hshares i).trans (hyshare i), ?_,
      (hpersist.2 .mc (by simp)).trans hymc⟩
    rw [shareLineOf_of_shares hshares]
    exact issues_from hydram hissues

/-- The entry that a record gives, by its owner's standing (R51). -/
theorem loadedShare_eq (s : State) (c : PoolCode) (read : ReadOutcome) (n : Nat) (found : Option ShareEntry)
    (hf : (s.dram.record (shareAddress c n) 16 read).bind (ShareEntry.ofStored n) = found) :
    (found = none → s.loadedShare c read n = none) ∧
      ∀ e, found = some e → s.loadedShare c read n =
        if e.inUse = true ∧ (s.domain e.owner).state = .closed then none else some e := by
  rw [State.loadedShare, hf]
  refine ⟨fun h => by rw [h]; rfl, fun e h => ?_⟩
  rw [h, Option.filter_some]
  by_cases hc : e.inUse = true ∧ (s.domain e.owner).state = .closed
  · rw [if_pos hc, if_neg (by simp [hc])]
  · have hstands : (!(e.inUse && (s.domain e.owner).state == .closed)) = true := by
      simpa [Decidable.imp_iff_not_or] using hc
    rw [if_neg hc, if_pos hstands]

/-- Settles O6: what each line of persisted records is loaded as. -/
theorem recoveryLoadsTables : Obligations.RecoveryLoadsTables := by
  refine ⟨?_, ?_⟩
  · intro s c k read hr hp hk hrec hfits d found loaded
    have hloaded (n : Nat) : domainLoaded d c read n = loaded n := by
      have hf : domainFound d c read n = found n := rfl
      simp only [domainLoaded, hf, loaded]
      by_cases h0 : n = 0
      · rw [if_pos h0, if_pos h0]
      · rw [if_neg h0, if_neg h0]
        cases found n <;> rfl
    obtain ⟨hoc, hdram, hdomain, hmc⟩ := domainsLoaded (read := read) hp hk
    refine ⟨_, exec_domainRecordRead hr hp hrec hfits, hoc, hdram, fun x => ?_, hmc⟩
    rw [hdomain, ← hloaded]
  · intro s c k read hr hp hk hrec hfits d stands
    obtain ⟨hoc, hshare, hdram, hmc⟩ := sharesLoaded (read := read) hp hk
    have hstands (n : Nat) : (s.shareLineRead c k read).loadedShare c read n = stands n := by
      obtain ⟨hnone, hsome⟩ := loadedShare_eq (s.shareLineRead c k read) c read n _ rfl
      have hf : ((s.shareLineRead c k read).dram.record (shareAddress c n) 16 read).bind (ShareEntry.ofStored n) =
          (d.record (shareAddress c n) 16 read).bind (ShareEntry.ofStored n) := rfl
      simp only [stands]
      rw [hf] at hnone hsome
      cases he : (d.record (shareAddress c n) 16 read).bind (ShareEntry.ofStored n) with
      | none => exact hnone he
      | some e => exact hsome e he
    refine ⟨_, exec_shareRecordRead hr hp hrec hfits, hoc, fun i => ?_, ?_, _, hmc, fun hlt => ?_, fun hlast => ?_⟩
    · rw [hshare]
      dsimp only
      rw [hstands]
    · simp only [hstands] at hdram
      exact hdram
    · exact if_pos (show k + 1 < 64 by omega)
    · refine ⟨newWalk, if_neg (show ¬ k + 1 < 64 by omega), ?_⟩
      exact ⟨rfl, rfl, rfl, rfl, rfl, rfl, rfl, rfl, rfl, rfl⟩

end Sys2Proof.Machine
